-- ==== Sys2Proof/Word.lean ====
section
/-! DEFINITION. The word types of the DX4 (R4): bytes and little-endian multi-byte fields. -/

namespace Sys2Proof

/-- One byte of a packet, a record or device memory. -/
abbrev Byte := BitVec 8

/-- A 32-bit register or counter word (R4, R359). -/
abbrev W32 := BitVec 32

/-- A 64-bit field: host addresses, FRC, PLAN_VERSION, RN. -/
abbrev W64 := BitVec 64

/-- Bit `i` of a word written as a Bool. -/
abbrev bitOf (b : Bool) : Nat := if b then 1 else 0

end Sys2Proof
end

