-- ==== Sys2Proof/Types.lean ====
section
/-! DEFINITION. The plain data that commands carry: command packets, replies, frames and the outcomes of events. -/

namespace Sys2Proof

/-- Where a KCP arrives (R224, R226): one of the four rings, SMBus, or relayed over the mesh. -/
inductive Path where
  | urg | nrm | blk | gkr | smbus | mesh
  deriving DecidableEq, Repr

/-- The four command rings of R224. -/
inductive RingId where
  | urg | nrm | blk | gkr
  deriving DecidableEq, Repr

/-- The two paths of register accesses, each with its own RWC holder and TM_NOW latch (R6, R194). -/
inductive BusPath where
  | bar0 | smbus
  deriving DecidableEq, Repr

/-- A packet as it is taken (R218): the header fields but OPCODE (the row, or the bytes in the ring, give it), the
parameter bytes and the CRC-32C.
`dma` is what the device reads from host memory for this packet (buffer form of R239, MEM_WRITE and its like, log 6). -/
structure KcpIn where
  path : Path := .urg
  magicVer : BitVec 16 := 0xCA51
  opcodeN : BitVec 16 := 0xFFFF
  flags : BitVec 16 := 0
  seq : W32 := 0
  hostTag : W32 := 0
  plen : BitVec 16 := 0
  res0 : BitVec 16 := 0
  route : W32 := 0
  executeAt : W64 := 0
  params : List Byte := []
  crc : W32 := 0
  dma : List Byte := []
  deriving DecidableEq, Repr

/-- The status codes of R240. -/
inductive Status where
  | ok | accepted | deferred | clamped | countCoarse
  | badOpcode | badComplement | badParam | badLength | late | notSynced | busy | bankBusy
  | noToken | partitioned | noSpare | ringCfgIgnored | fault
  deriving DecidableEq, Repr

/-- A reply (R221); its CRC-32C and STATUS_N follow from these fields. -/
structure Reply where
  status : BitVec 16 := 0
  rflags : BitVec 16 := 0
  seq : W32 := 0
  hostTag : W32 := 0
  opcode : BitVec 16 := 0
  device : BitVec 16 := 0
  timeFrac : BitVec 16 := 0
  timeNs : W64 := 0
  result : List Byte := []
  deriving DecidableEq, Repr

/-- The dwell of one local channel in one sweep under a plan version (R32). -/
structure Dwell where
  ver : W64
  chan : Nat
  sweep : Nat
  deriving DecidableEq, Repr

/-- A silent arithmetic error that the environment puts into one entry of one piece of a cell (R80, R81). -/
structure Upset where
  cell : Nat
  pos : Nat
  entry : Nat
  dRe : Int
  dIm : Int
  deriving DecidableEq, Repr

/-- The memory of a cell in which an ECC error was corrected (R82, R84, R303): a row of a slot-file bank, X-mem, Y-mem or a
routine register file. -/
inductive CellMem where
  | slotRow (bank : Bool) (row : Nat)
  | xMem | yMem | routine
  deriving DecidableEq, Repr

/-- What cell monitors saw during a dwell: errors corrected, and waits for operand buffers, one entry each (R68, R82). -/
structure CellEvents where
  corrected : List (Nat × CellMem) := []
  waits : List Nat := []
  deriving DecidableEq, Repr

/-- Why a cell monitor reports a fault (R82). -/
inductive CellFaultCause where
  | ecc | routine | supply | clock
  deriving DecidableEq, Repr

/-- Symbol errors of one unit as read (R282): symbol number 0 to 39 and the bits that differ. -/
abbrev SymErrs := List (Nat × BitVec 16)

/-- What happens to the PCI Express link (R358). -/
inductive PcieResetKind where
  | perst | hotReset | linkDown | flr
  deriving DecidableEq, Repr

/-- Where an uncorrectable Loam word lies (R305). -/
inductive LoamPlace where
  | seedbed (slot block sub word : Nat)
  | staging (pos : Nat)
  | inflight (pos : Nat)
  | harvestQueue (index : Nat)
  | beamTable (beam : Nat)
  | placement
  | riddle (sieve : Nat) (bankB : Bool)
  deriving DecidableEq, Repr

/-- A foreign master's clock identity and port number (R196). -/
structure PtpId where
  clock : W64
  port : BitVec 16
  deriving DecidableEq, Repr

/-- The fields of an Announce message that the BMCA compares (R196). -/
structure PtpAnnounce where
  id : PtpId
  domain : Nat
  priority1 : Nat
  clockClass : Nat
  accuracy : Nat
  variance : Nat
  priority2 : Nat
  gm : W64
  steps : Nat
  logInterval : Int
  utcOffset : BitVec 16
  utcValid : Bool
  deriving DecidableEq, Repr

/-- The body of a heartbeat (R259). -/
structure HeartbeatBody where
  birth : W64
  caller : Bool
  standby : Bool
  lead : Bool
  partitioned : Bool
  synced : Bool
  segment : Nat
  sup : BitVec 2
  lease : W32
  leaseN : W32
  reach : Nat
  planVersion : W64
  timeNs : W64
  timeFrac : BitVec 16
  deriving DecidableEq, Repr

/-- The body of a mesh time frame (R260); times in units of 2^-16 ns. `leadSync` is the lead's device time at its own
capture of its latest SYNC edge where the device knows it (R202 uses it; no frame field carries it, log 15). -/
structure TimeBody where
  exch : W32
  notSynced : Bool
  t1 : Int
  t4 : Int
  corrReq : Int
  corrResp : Int
  leadSync : Option Int := none
  deriving DecidableEq, Repr

/-- The body of a LINK frame (R255). -/
structure LinkBody where
  birth : W64
  index : BitVec 16
  segment : Nat
  lane : Nat
  role : Nat
  planVersion : W64
  deriving DecidableEq, Repr

/-- The body of a mesh trigger (R261). -/
structure TrigBody where
  group : Nat
  kind : BitVec 8
  sTrig : Nat
  fraction : W32
  timeNs : W64
  timeFrac : BitVec 16
  deriving DecidableEq, Repr

/-- What training measures on a DRAM channel (R279, R289): the smallest read and write eyes of its DQ pins in 0.1 ps, the smallest eye of its
CA and CS pins in 1/1000 of their bit period, and the hard repair resources that its dies report (R287). -/
structure Eyes where
  read : Nat := 0
  write : Nat := 0
  command : Nat := 0
  hard : Nat := 0
  deriving DecidableEq, Repr

/-- A JTAG instruction of R364. -/
inductive JtagOp where
  | bypass | idcode | samplePreload | extest | clamp | highz | other (code : Nat)
  deriving DecidableEq, Repr

end Sys2Proof
end

