-- ==== Sys2Proof/Syntax.lean ====
section
/-! DEFINITION. The commands of the DX4: one constructor for each row of spec/opcode_table.json, in the table's order.
Rows that are KCP opcodes carry the packet as it arrives; event rows carry what the outside supplies (log 15). -/

namespace Sys2Proof

/-- One constructor for each row of the opcode table. -/
inductive Instr where
  /-- R241. Returns the parameter bytes unchanged, optionally as a TIME cue. -/
  | echo (k : KcpIn)
  /-- R323. Returns part, revision, birth identity, die identities, firmware and role information. -/
  | ident (k : KcpIn)
  /-- R344. Returns current survey records of one KIND over a range of indexes. -/
  | surveyGet (k : KcpIn)
  /-- R345. Groundskeeper returns the 296-byte DEVICE, DIE and GK snapshot. -/
  | surveySnapshot (k : KcpIn)
  /-- R229. Reconfigures the Normal or Bulk ring; stays pending until that ring is idle. -/
  | ringCfg (k : KcpIn)
  /-- R229. Once the named ring goes idle, the pending RING_CFG applies, the indexes reset and it is answered OK. -/
  | ringCfgApply (ring : RingId)
  /-- R324. Groundskeeper stops outputs, compute, or everything, according to MODE. -/
  | safeStop (k : KcpIn)
  /-- R242. Returns the values of RW or RWC registers and firmware parameters by ID. -/
  | paramGet (k : KcpIn)
  /-- R242. Writes registers or firmware parameters by ID, all entries or none. -/
  | paramSet (k : KcpIn)
  /-- R138. Submits a plan request for the Espalier to check and compute, optionally as a cue that sets START. -/
  | planSubmit (k : KcpIn)
  /-- R150. The plan computation completes; the plan becomes pending, checked, refused or withdrawn, and the PLAN event is raised. -/
  | planReady
  /-- R402. Returns the record of the selected plan. -/
  | planGet (k : KcpIn)
  /-- R160. Returns the placement table of the selected plan. -/
  | planTableGet (k : KcpIn)
  /-- R107. Returns the baseline table of the selected plan. -/
  | baselineGet (k : KcpIn)
  /-- R376. A relayed page of a device's plan image or of the system state is received and verified. -/
  | planPublish (k : KcpIn)
  /-- R154. Without an epoch mapping, once PLAN_LEAD has passed, the switch sweep is fixed and the placement table is republished. -/
  | switchSamplePublish
  /-- R152. After 3,600 s of self-test under a provisional plan, the FINAL plan is made. -/
  | final
  /-- R274. After all channels have been in the normal regime for 60 s, the COOL re-plan starts. -/
  | cool
  /-- R374. Starts founding or joining a system through hedge 0. -/
  | systemJoin (k : KcpIn)
  /-- R375. After 1 ms of listening with no caller heard, the founder becomes the caller of a new system. -/
  | foundListenEnd
  /-- R376. A joiner with no index after 10 s returns to a system of one. -/
  | joinTimeout
  /-- R377. At its sweep point, stops integrations, ends the plan and makes the device a system of one. -/
  | systemLeave (k : KcpIn)
  /-- R103. Sets the integration length and the harvest scaling from the next integration boundary. -/
  | integCfg (k : KcpIn)
  /-- R102. Starts new integrations on FRESH channels at its point. -/
  | integStart (k : KcpIn)
  /-- R102. Ends every integration at the next sweep boundary; flush passes follow. -/
  | integStop (k : KcpIn)
  /-- R89. Returns the channel descriptors. -/
  | integStatusGet (k : KcpIn)
  /-- R102. A flush pass reads a channel's chunks, sends the harvest and sets FRESH. -/
  | flushPass (ue : List Nat)
  /-- R110. Writes beam descriptors and channel frequencies. -/
  | beamCfg (k : KcpIn)
  /-- R114. Writes a range of gains in one bank. -/
  | beamGainWrite (k : KcpIn)
  /-- R114. Writes delay polynomials of one epoch, optionally setting T_REF. -/
  | beamDelayWrite (k : KcpIn)
  /-- R114. Writes direct weights of one bank. -/
  | beamDirectWrite (k : KcpIn)
  /-- R120. Schedules a beam's move to another weight set with an optional cross-fade. -/
  | beamSwap (k : KcpIn)
  /-- R110. Returns a beam's 256-byte descriptor. -/
  | beamGet (k : KcpIn)
  /-- R127. Once a group of four sub-dwells is formed, its beam and sieve records are queued for egress. -/
  | beamGroupFormed (badWeights : List Nat)
  /-- R128. Configures a sieve; a change of source, channel, decimation, FTW or PHASE0 resets it. -/
  | riddleCfg (k : KcpIn)
  /-- R131. Writes coefficients into a sieve bank that is not engaged. -/
  | riddleCoefWrite (k : KcpIn)
  /-- R131. Switches a sieve's coefficient bank, deferred if the new bank would be settling. -/
  | riddleSwap (k : KcpIn)
  /-- R134. Resets the named sieves at its sample. -/
  | riddleSync (k : KcpIn)
  /-- R130. A sieve completes an output interval and forms the output. -/
  | sieveOutput (sieve : Fin 64)
  /-- R169. Configures a capture region that is OFF. -/
  | captureCfg (k : KcpIn)
  /-- R176. Makes the lowest FREE sub-region LIVE and arms the region. -/
  | captureArm (k : KcpIn)
  /-- R183. Frees the LIVE sub-region; POSTING sub-regions run to freeze, then the region turns OFF. -/
  | captureDisarm (k : KcpIn)
  /-- R177. A software trigger is judged by each addressed region. -/
  | captureTrigger (k : KcpIn)
  /-- R181. Gives a region a new depth from the next dwell boundary. -/
  | captureResize (k : KcpIn)
  /-- R184. Starts sending a FROZEN sub-region as capture records to the host or to egress. -/
  | captureDrain (k : KcpIn)
  /-- R184. A drain completes, raises the capture event and, with AUTO_RELEASE, frees the sub-region. -/
  | captureDrainDone (region : Fin 8) (sub : Fin 16)
  /-- R184. Makes a FROZEN sub-region FREE, or LIVE if the region is in REARM. -/
  | captureRelease (k : KcpIn)
  /-- R180. Returns the missed-trigger log and empties it. -/
  | captureMissedGet (k : KcpIn)
  /-- R241. Returns the region state and each sub-region's state, capture and start sample. -/
  | captureStatusGet (k : KcpIn)
  /-- R323. Returns device time, the FRC and TM_STATUS straight from the time unit. -/
  | timeRead (k : KcpIn)
  /-- R195. Sets the time sources and discipline parameters at once. -/
  | timeSource (k : KcpIn)
  /-- R200. A host measurement of time error is checked and, if accepted, applied. -/
  | timeMeasure (k : KcpIn)
  /-- R205. Steps OFFSET by DELTA, or by the next source measurement. -/
  | timeStep (k : KcpIn)
  /-- R207. Sets the epoch mapping between device time and sample index. -/
  | timeEpochSet (k : KcpIn)
  /-- R214. Removes a pending cue that has not yet passed to hardware. -/
  | cueCancel (k : KcpIn)
  /-- R214. Returns the cue table, and the per-device outcome of each system cue on the caller. -/
  | cueListGet (k : KcpIn)
  /-- R215. The caller's confirmation clears TENTATIVE on a system cue. -/
  | confirm (k : KcpIn)
  /-- R215. The caller's cancellation removes a system cue. -/
  | cancel (k : KcpIn)
  /-- R215. When not every device has accepted a system cue within 2 ms, the caller sends CANCEL to all. -/
  | systemCueTimeout (seq : W32)
  /-- R213. One dwell period before its dwell, a SWEEP or SAMPLE cue moves to hardware; entries that fail their complement and tentative cues are dropped. -/
  | cuePassToHardware (system : Bool) (seq : W32)
  /-- R213. A cue runs at its point and is journaled. -/
  | cueRun (system : Bool) (seq : W32)
  /-- R249. Sets configuration items of one lane, retraining it where required. -/
  | laneCfg (k : KcpIn)
  /-- R269. Returns the lane status records. -/
  | laneStatusGet (k : KcpIn)
  /-- R266. Puts directions of the named lanes to sleep. -/
  | laneDoze (k : KcpIn)
  /-- R266. Wakes dozing or quiet directions of the named lanes. -/
  | laneWake (k : KcpIn)
  /-- R268. Groundskeeper quiets the transmitters of the named lanes within 1 µs. -/
  | laneQuiet (k : KcpIn)
  /-- R241. DMAs device DRAM to the host. -/
  | memRead (k : KcpIn)
  /-- R294. DMAs host data into permitted device DRAM. -/
  | memWrite (k : KcpIn)
  /-- R289. Returns one channel's status record. -/
  | memStatusGet (k : KcpIn)
  /-- R285. Requests a repair of the DRAM row that holds an address. -/
  | memRepair (k : KcpIn)
  /-- R280. Retrains the named channels while preserving their contents. -/
  | memTrain (k : KcpIn)
  /-- R300. Returns the spare map with its complements. -/
  | spareMapGet (k : KcpIn)
  /-- R299. Schedules the graft of a named cell, or retires it at once when no plan is active. -/
  | graft (k : KcpIn)
  /-- R307. Switches a stripe off through a re-plan, or on with a cell test. -/
  | stripePower (k : KcpIn)
  /-- R307. After about 1 ms of testing, a powered stripe's cells rejoin the candidates. -/
  | stripeTestDone (stripe : Fin 10)
  /-- R315. Moves the lease to the standby core by an orderly handover. -/
  | supervisorHandover (k : KcpIn)
  /-- R323. Groundskeeper resets core 0, core 1 or both. -/
  | supervisorReset (k : KcpIn)
  /-- R241. Writes a Tamzar image from the host into flash image A or B. -/
  | fwImageWrite (k : KcpIn)
  /-- R372. Moves both cores to an image without pausing outputs. -/
  | fwUpdate (k : KcpIn)
  /-- R320. Moves the caller role to the standby caller without a lapse. -/
  | callerHandover (k : KcpIn)
  /-- R341. DMAs almanac records to the host in RN order. -/
  | almanacRead (k : KcpIn)
  /-- R339. Freezes the mirror and the DRAM span of the journal. -/
  | almanacFreeze (k : KcpIn)
  /-- R339. When the writer does not acknowledge within 1 ms, the freeze returns the mirror's span. -/
  | freezeAckTimeout
  /-- R340. Releases the frozen journal parts. -/
  | almanacThaw (k : KcpIn)
  /-- R350. Checks and starts a replay of a window from a checkpoint. -/
  | replayStart (k : KcpIn)
  /-- R349. Appends host sample units to the replay input ring. -/
  | replayInput (k : KcpIn)
  /-- R352. Returns the replay progress record. -/
  | replayStatusGet (k : KcpIn)
  /-- R350. Ends the replay at once. -/
  | replayStop (k : KcpIn)
  /-- R351. Replay computes one dwell once its input is present and compares it against the journal. -/
  | replayDwell
  /-- R328. Returns the margin mode, the steps and the per-stripe readings. -/
  | marginGet (k : KcpIn)
  /-- R327. Sets a stripe's margin steps at the next dwell boundary, clamped to 8. -/
  | marginSet (k : KcpIn)
  /-- R326. Selects native or DX2-compatible margin handling. -/
  | marginMode (k : KcpIn)
  /-- R326. Every hour, slack readings lead to worn-cell grafts or margin steps. -/
  | marginHourly (cellSlack : List (Nat × Int)) (stripeSlack : List Int)
  /-- R225. A write of a command ring's producer index makes its packets available to be taken. -/
  | commandDoorbell (ring : RingId) (index : W32) (placed : List Byte) (dma : List (List Byte))
  /-- R225. A write of the consumed reply index frees reply room. -/
  | replyDoorbell (ring : RingId) (index : W32)
  /-- R228. A write of the ENABLE bit of KCP_r_CTRL starts or stops a ring, resetting its indexes on the change from 0 to 1. -/
  | ringEnable (ring : RingId) (enable : Bool)
  /-- R231. A write of the SEQ_RESET bit of KCP_r_CTRL makes the next packet start its series anew. -/
  | seqReset (ring : RingId)
  /-- R6. A write to +0 of an RWC register sets the pending holder of its path. -/
  | rwcValueWrite (path : BusPath) (offset : BitVec 16) (value : W32)
  /-- R6. A write to +4 makes the pending value take effect, or counts a mismatch. -/
  | rwcComplementWrite (path : BusPath) (offset : BitVec 16) (value : W32)
  /-- R194. A read of TM_NOW_LO latches the time and FRC registers from one TCLK period. -/
  | tmNowRead (path : BusPath)
  /-- R361. Enabling an event whose bit is set sends its MSI-X vector. -/
  | genEventEnWrite (value : W32)
  /-- R361. A write of 1 clears event bits; an occurrence in the same cycle keeps the bit and resends the vector. -/
  | genEventClear (value : W32) (sameCycle : BitVec 15)
  /-- R314. A write sets revert behaviour and clears PREFERRED_RETIRED. -/
  | supCfgWrite (value : W32)
  /-- R348. A write of the LO word updates the replay result-ring consumer offset. -/
  | genRplConsWrite (hi : Bool) (value : W32)
  /-- R357. Sets the BAR4 aperture base for later BAR4 accesses. -/
  | genApertureWrite (value : W32)
  /-- R357. A BAR4 access reaches device DRAM through the Trellis, subject to R294. -/
  | bar4Access (write : Bool) (offset : W32) (len : Nat) (data : List Byte) (strobes : List Bool)
  /-- R295. A write to any other register, including W1C bits and configuration fields, under its access type. -/
  | registerWrite (path : BusPath) (offset : BitVec 16) (value : W32) (strobes : BitVec 4)
  /-- R295. A bridge access that is not answered within 2 µs returns all ones or is dropped. -/
  | bridgeTimeout (path : BusPath) (offset : BitVec 16) (write : Bool)
  /-- R58. Clears the ingest counters. -/
  | lnInCntClr (value : W32)
  /-- R84. Clears the X array counters. -/
  | xaCntClr (value : W32)
  /-- R108. Clears the RMW and harvest counters. -/
  | mcRmwCntClr (value : W32)
  /-- R137. Clears the BF_ counters. -/
  | bfCntClr (value : W32)
  /-- R137. Clears the RDL_ counters. -/
  | rdlCntClr (value : W32)
  /-- R155. Clears GEN_PLAN_UNCORRELATED. -/
  | genPlanCntClr (value : W32)
  /-- R191. Clears the cold-frame counters. -/
  | cfCntClr (value : W32)
  /-- R217. Clears the time counters. -/
  | tmCntClr (value : W32)
  /-- R243. Clears the KCP counters. -/
  | kcpCntClr (value : W32)
  /-- R270. Clears the lane counters. -/
  | lnCntClr (value : W32)
  /-- R296. Clears the MC_ memory counters. -/
  | mcCntClr (value : W32)
  /-- R296. Clears the Trellis counters. -/
  | tlCntClr (value : W32)
  /-- R329. Clears the SUP_ counters. -/
  | supCntClr (value : W32)
  /-- R329. Clears the PW_ counters. -/
  | pwCntClr (value : W32)
  /-- R329. Clears the GEN_LOAM_ counters. -/
  | genLoamCntClr (value : W32)
  /-- R354. Clears the almanac counters. -/
  | genAlmCntClr (value : W32)
  /-- R378. Clears GEN_RWC_MISMATCH and GEN_SMB_PEC_ERR. -/
  | genCntClr (value : W32)
  /-- R363. SMBus code 0x01 sets the BAR0 offset of the next access. -/
  | smbusSetOffset (offset : BitVec 16) (pecOk : Bool)
  /-- R363. SMBus code 0x02 reads or writes the register at OFFSET and advances it. -/
  | smbusRegisterAccess (write : Option W32) (pecOk : Bool)
  /-- R363. SMBus code 0x10 submits one KCP to the groundskeeper. -/
  | smbusKcpWrite (bytes : List Byte) (pecOk : Bool)
  /-- R363. SMBus code 0x11 reads the next piece of the oldest unread reply. -/
  | smbusReplyRead
  /-- R363. SMBus code 0x12 reads reply, executing and restart status. -/
  | smbusStatusRead
  /-- R369. Release of PORST_N starts bring-up and samples the straps. -/
  | porstRelease (railsOk : Bool) (pcieRefsel : Bool) (smbAddr : BitVec 3)
  /-- R369. The root PLL, or its twin, locks; the FRC starts and the groundskeeper comes up. -/
  | rootPllLock
  /-- R311. A core finishes loading Tamzar and enters SELFTEST or takes the lease. -/
  | coreBootDone (core : Fin 2) (ok : Bool)
  /-- R279. Training, repair and initialisation of DRAM end, and Tamzar starts taking packets. -/
  | dramTrainingDone (eyes : List Eyes) (repaired : List (Nat × Nat))
  /-- R369. Every configured lane has reached LOCK, or 2 s have passed. -/
  | lanesStepEnd
  /-- R369. The time unit reaches LOCK, or 30 s pass, and bring-up enters SERVICE. -/
  | timeStepEnd
  /-- R358. PERST, hot reset, link down or FLR resets the PCI Express state and the rings. -/
  | pcieReset (kind : PcieResetKind)
  /-- R358. Clearing Bus Master Enable or entering D3hot holds DMA and MSI-X messages. -/
  | busMasterOff (d3 : Bool)
  /-- R20. With no REFCLK edges for 200 ns, the root PLL enters holdover. -/
  | refLoss
  /-- R20. After REFCLK has been present again for 1 ms, the root PLL relocks and clears HOLDOVER. -/
  | refRelock
  /-- R21. Loss of lock or a frequency error restarts the DX4 on the twin root PLL. -/
  | rootFault
  /-- R22. With no AUXREFCLK edges for 200 ns, the PLLs that take it hold over. -/
  | auxrefLoss
  /-- R22. After AUXREFCLK has been present again for 1 ms, its PLLs relock. -/
  | auxrefRelock
  /-- R22. A hedge or PCI Express PLL that loses lock with its reference present restarts, and its link retrains. -/
  | pllUnlock (hedge : Option (Fin 16))
  /-- R19. A hedge PLL started from off locks on the reference that LANE_REF_SEL selected. -/
  | hedgePllLock (hedge : Fin 16)
  /-- R387. A rail below 94% for 2 µs quiets the lanes, resets the dies and restarts the DX4. -/
  | railDip
  /-- R387. VDD_IO below 1.62 V resets the whole DX4 and loses the mirror. -/
  | vddIoLoss
  /-- R392. Every 100 µs the groundskeeper reads every temperature sensor. -/
  | tempSensorRead (readings : List (Fin 7 × Int))
  /-- R199. A counted SYNC edge is timestamped, resets SYNC_EN sieves and feeds segment alignment. -/
  | syncEdge (firstFrc : W64) (samples : Nat)
  /-- R174. A counted TRIG line edge is timestamped and judged as a trigger by the regions. -/
  | trigEdge (line : Fin 8) (rising : Bool) (firstFrc : W64) (samples : Nat)
  /-- R173. A TDC_IN edge is timestamped and judged as a trigger by the regions. -/
  | tdcEdge (rising : Bool) (time512 : Nat)
  /-- R173. Every 10 s a TDC channel completes its background calibration and the channels exchange roles. -/
  | tdcCalibration (inRange : Bool)
  /-- R43. A received sample packet is checked, classified and admitted into the arriving slot or the bay, or discarded. -/
  | samplePacket (lane : Fin 128) (bytes : List Byte) (frameOk : Bool)
  /-- R50. CLOSE_GRACE has elapsed after a successor packet, and the slot closes. -/
  | slotCloseSuccessor
  /-- R50. With no admission for CLOSE_STALL, the slot closes. -/
  | slotCloseStall
  /-- R50. After 2 × D of arriving, the slot closes. -/
  | slotCloseLimit
  /-- R51. CLOSE_GRACE passes after a successor packet with the slot empty, so the expected dwell becomes absent. -/
  | dwellAbsentGrace
  /-- R250. A frame on an Ethernet lane is checked and passed to ingest, PTP or ARP/ND, or discarded. -/
  | ethernetFrame (lane : Fin 128) (bytes : List Byte) (fcsOk : Bool)
  /-- R249. The DX4 answers an ARP request or Neighbor Solicitation for a lane address. -/
  | arpNsRequest (lane : Fin 128) (ipv6 : Bool) (target : List Byte) (senderMac senderIp : List Byte)
  /-- R196. An Announce message qualifies foreign masters and feeds best-master selection. -/
  | ptpAnnounce (lane : Fin 128) (msg : PtpAnnounce)
  /-- R197. A Sync or Follow_Up paired with the latest Delay_Req exchange yields one measurement. -/
  | ptpSync (lane : Fin 128) (master : PtpId) (domain : Nat) (t1 t2 correction logInterval : Int)
  /-- R196. A Delay_Resp completes a delay exchange and sets the Delay_Req interval. -/
  | ptpDelayResp (lane : Fin 128) (master : PtpId) (domain : Nat) (t4 correction : Int) (logInterval : Int)
  /-- R254. A Fjotranu frame is checked, then taken by type or forwarded on the mesh. -/
  | fjotranuFrame (lane : Fin 128) (header body : List Byte) (fcrc : W32) (uncorrectable : Bool) (rxTime : Int)
  /-- R255. A received LINK frame updates the partner fields and the mesh-up state. -/
  | linkFrame (lane : Fin 128) (body : LinkBody)
  /-- R255. Every 100 µs a Fjotranu lane sends a LINK frame. -/
  | linkFrameSend (lane : Fin 128)
  /-- R318. A received heartbeat updates reach, the voter half and the caller lease word held. -/
  | heartbeat (lane : Fin 128) (src : Nat) (fseq : W32) (system : Bool) (body : HeartbeatBody)
  /-- R259. Every 50 µs the device sends its heartbeat. -/
  | heartbeatSend
  /-- R198. Every 62.5 ms a child sends TIME_REQ to its time parent. -/
  | timeExchangeSend (t3 : Int)
  /-- R260. A parent receives TIME_REQ and answers with a timestamped TIME_RESP. -/
  | timeReq (lane : Fin 128) (src : Nat) (body : TimeBody) (t4 t1 : Int)
  /-- R260. A child receives TIME_RESP and forms a MESH measurement. -/
  | timeResp (lane : Fin 128) (src : Nat) (body : TimeBody) (t2 : Int)
  /-- R261. A received TRIGGER frame is judged by the regions that take its group. -/
  | meshTrigger (lane : Fin 128) (src : Nat) (fseq : W32) (body : TrigBody)
  /-- R262. A relayed KCP is passed on by a lead and executed by its targets when its ORIGIN holds the lease. -/
  | kcpFrame (lane : Fin 128) (src : Nat) (fseq : W32) (dest : BitVec 12) (packet : List Byte)
  /-- R238. The caller writes a target's relayed reply into the original reply ring. -/
  | kcpReplyFrame (lane : Fin 128) (src : Nat) (reply : List Byte)
  /-- R346. Survey records are forwarded by a lead or absorbed by the caller. -/
  | surveyFrame (lane : Fin 128) (src : Nat) (records : List Byte)
  /-- R346. Every 1 s a device sends its DEVICE and mesh LANE records to its lead. -/
  | surveySend
  /-- R266. A DOZE notice makes the receiver ignore the coming signal loss, or marks the wake. -/
  | dozeFrame (lane : Fin 128) (flags : Byte)
  /-- R246. A lane's receive side reaches LOCK and is journaled. -/
  | laneLock (lane : Fin 128)
  /-- R246. A lane leaves LOCK or loses signal, clearing its stream table. -/
  | laneLockLoss (lane : Fin 128) (signalLost : Bool)
  /-- R248. 10 ms out of LOCK, or 5 exits in 1 s, marks the lane lost and triggers LANE_LOSS. -/
  | laneLost (lane : Fin 128)
  /-- R248. After 1 s of continuous LOCK, a lost lane is marked healthy again. -/
  | laneHealthy (lane : Fin 128)
  /-- R247. Each 100 ms window, the pre-FEC error ratio sets or keeps DEGRADED. -/
  | serWindow (lane : Fin 128) (errors symbols : Nat)
  /-- R264. An egress lane takes its next record from the highest-priority class and sends it. -/
  | egressFrameSend (lane : Fin 128)
  /-- R48. A CLOSED slot becomes COMPUTING: slot, bank, graft, rotation, shadow and plan changes take place. -/
  | dwellBoundary
  /-- R48. The X array finishes a dwell and its slot becomes RETAINED. -/
  | computeEnd (upsets : List Upset) (events : CellEvents)
  /-- R76. A drain bank finishes draining, releasing any held boundary. -/
  | drainEnd
  /-- R81. A tie-break recompute ends and decides whether the target drains or is faulted. -/
  | tieBreakDone (bed : Fin 80) (upsets : List Upset)
  /-- R83. A spare finishes recomputing its share of a faulted cell's steps, and the parts drain. -/
  | replayRecomputeDone (cell : Nat) (spare : Nat)
  /-- R82. A cell monitor reports an ECC, routine, supply or clock fault, discarding work and scheduling graft and replay. -/
  | cellFault (cell : Fin 1360) (cause : CellFaultCause)
  /-- R82. No completed step within 4,096 XCLK cycles with operands ready faults the cell. -/
  | cellStallTimeout (cell : Fin 1360)
  /-- R302. The rotation period expires and the spare role starts to move, stripe by stripe. -/
  | rotationPeriod
  /-- R94. A dwell's RMW pass begins once the previous pass has committed. -/
  | rmwPassStart
  /-- R95. L arrives, N is formed, and harvest records are queued when there is room. -/
  | chunkReadDone (pos : Nat) (errs : List (Nat × SymErrs))
  /-- R96. DRAM acknowledges a chunk's writes and its commit bit is set. -/
  | chunkCommit (pos : Nat)
  /-- R97. A chunk write not acknowledged within 10 µs is repeated or escalated. -/
  | chunkWriteTimeout (pos : Nat)
  /-- R96. After its reset, the RMW engine restarts its chunks in flight from the kept copies. -/
  | rmwEngineReset
  /-- R96. The almanac accepts the dwell commit record, completing the commit and releasing a held slot. -/
  | dwellCommit
  /-- R333. A record enters the almanac writer's queue once there is room. -/
  | almanacRecord
  /-- R337. After 30 s or 256 MiB of records, a checkpoint begins at a sweep's first boundary. -/
  | checkpointBegin
  /-- R275. Each tREFI tick adds to the refresh debt and may make a refresh due. -/
  | refreshTick (chan : Fin 16) (portBusy : Bool)
  /-- R275. A due or opportunistic REFab is issued at a sub-burst boundary. -/
  | refreshIssue (chan : Fin 16) (forced : Bool)
  /-- R274. Every 62.4 µs the controller reads MR4 and enters or leaves the hot regime. -/
  | mr4Read (chan : Fin 16) (rates : List Nat) (overtemp : Bool)
  /-- R281. Every 128 ms a subchannel runs ZQ calibration. -/
  | zqCalibration (chan : Fin 16) (subB : Bool)
  /-- R281. Every 4 ms the DQS drift is measured and write delays are shifted. -/
  | dqsOscillator (chan : Fin 16) (die : Nat) (drift : Int)
  /-- R284. The scrubber reads a unit and rewrites it corrected. -/
  | scrubRead (chan : Fin 16) (errs : SymErrs) (granted : Bool)
  /-- R286. A failing row is copied to a spare row and remapped. -/
  | rowRepair (chan : Fin 16) (row : Nat) (lost : List Nat)
  /-- R293. A master resets mid-burst, and the Trellis finishes the burst with strobes off. -/
  | masterResetBurst (master : Fin 8) (target : Fin 22) (addr : Nat) (done total : Nat)
  /-- R304. Every 10 s the Loam scrub reads and corrects every word. -/
  | loamScrub (corrected : List (Nat × Nat)) (badSpares : List Nat)
  /-- R305. An uncorrectable or poisoned Loam read is handled by region. -/
  | loamUncorrectableRead (place : LoamPlace) (bank : Fin 256) (addr : Nat)
  /-- R304. The bank copy to the spare ends and the bank remap switches. -/
  | loamBankCopyDone (group : Fin 16)
  /-- R306. A failed regulator phase is switched out; a second fault loses the stripe. -/
  | phaseFault (stripe : Fin 10)
  /-- R308. A steward missing 10 status words is faulted and the supervisor takes over its actions. -/
  | stewardFault (stripe : Fin 10) (ownChecks : Bool)
  /-- R312. The supervisor lease lapses 200 µs after renewal and passes to the standby core. -/
  | leaseLapse
  /-- R316. With no lease holder for 10 ms, the groundskeeper resets cores. -/
  | noHolderTimeout
  /-- R313. The standby core completes a self-test cycle and stays in STANDBY or enters FAILED. -/
  | selftestCycle (core : Fin 2) (passed : Bool)
  /-- R314. After REVERT_HOLD, the preferred core takes the lease back by an orderly handover. -/
  | revert
  /-- R319. The caller's 150 µs window fails to qualify, and it stops carrying the lease. -/
  | callerHalfLost
  /-- R321. The held caller lease lapses after 250 µs; the device reports PARTITIONED and starts its backoff. -/
  | callerLeaseLapse
  /-- R320. After the backoff, a qualifying voter claims the caller role with TERM + 1. -/
  | callerClaim
  /-- R320. 50 µs after its claim with no winner heard, the claimant becomes caller. -/
  | callerClaimWin
  /-- R163. After 10 s unreachable, the caller declares a device lost and reassigns its tile. -/
  | deviceLost (index : BitVec 10)
  /-- R195. A time source's silence timeout expires and the next source, or HOLD, takes over. -/
  | sourceSilent (source : Nat)
  /-- R201. HOLD_LIMIT passes since the last accepted measurement and the unit becomes UNSYNCED. -/
  | holdLimitExpiry
  /-- R246. A lane's negotiation and link training end, or signal appears on C2M and C2C, and the receive side moves from TRAIN to ALIGN. -/
  | laneTrainingDone (lane : Fin 128)
  /-- R255. No LINK frame has arrived for 1 ms on a mesh lane, so the lane stops being up and stops carrying mesh traffic. -/
  | linkFrameTimeout (lane : Fin 128)
  /-- R196. At the master's logMessageInterval the DX4 sends Delay_Req on a PTP port and timestamps t3. -/
  | ptpDelayReqSend (lane : Fin 128) (t3 : Int)
  /-- R196. A foreign master's announceReceiptTimeout expires, so it loses qualification and the BMCA chooses again among the remaining masters. -/
  | announceReceiptTimeout (lane : Fin 128) (master : PtpId)
  /-- R358. On return to D0 with Bus Master Enable set, held DMA transfers resume and pending MSI-X vectors are sent. -/
  | busMasterEnableSet
  /-- R369. Release of PCIE_PERST_N lets the endpoint bring its link up and answer configuration requests within 100 ms. -/
  | pciePerstRelease
  /-- R386. Driving PORST_N low holds every die in reset, as at power-down. -/
  | porstAssert
  /-- R387. Once every rail has been back in range for 1 ms after a rail dip, the DX4 restarts from step CLOCKS on the root PLL in use before the dip. -/
  | railDipRecovery
  /-- R364. An instruction loaded on the JTAG port runs, and EXTEST, CLAMP and HIGHZ act as BYPASS unless PORST_N is low or SAFE_STOP MODE 2 holds. -/
  | jtagInstruction (op : JtagOp)
  /-- R361. A buffer-form or Bulk-only DMA transfer ends and sets the TRANSFER event. -/
  | transferComplete
  /-- R280. Retraining of the named channels ends, TRAINED or TRAIN_FAIL is updated and the BACKGROUND event is raised. -/
  | memTrainDone (eyes : List Eyes)
  /-- R339. The almanac writer acknowledges the freeze, the DRAM span is frozen and the writer moves to the other 256 MiB. -/
  | freezeAcknowledge
  /-- R310. The holding core renews the supervisor lease, pushing its lapse 200 µs further out. -/
  | leaseRenew
  /-- R308. Each steward sends its status word to the active supervisor every 10 µs. -/
  | stewardStatus (stripe : Fin 10)
  /-- R316. 500 ms after resetting the last holder with the lease still unheld, the groundskeeper resets the other core as well. -/
  | noHolderSecondTimeout
  /-- R21. At power-up, when the primary root PLL has not locked within 2 ms, the sequencer switches to the twin root PLL. -/
  | primaryLockTimeout
  deriving DecidableEq, Repr

end Sys2Proof
end

