-- ==== Sys2Proof/Decode.lean ====
section
/-! DEFINITION. The block has no instruction decoder: no row of the opcode table gives bits, so no word spells a command. -/

namespace Sys2Proof

/-- The command that a word of `nbits` bits spells by the bits of the opcode table. The table gives no row any bits. -/
def decodeTableWord (_nbits _w : Nat) : Option Instr := none

end Sys2Proof
end

