-- ==== Sys2Proof/Machine/Bytes.lean ====
section
/-! DEFINITION. Byte strings: little-endian fields (R4), zero padding, and the two CRCs of R41 and R54. -/

namespace Sys2Proof

/-- The `n` low bytes of `v`, least significant first (R4). -/
def le : Nat → Nat → List Byte
  | 0, _ => []
  | n + 1, v => BitVec.ofNat 8 v :: le n (v / 256)

/-- The number that little-endian bytes hold (R4). -/
def unle : List Byte → Nat
  | [] => 0
  | b :: bs => b.toNat + 256 * unle bs

/-- `n` zero bytes. -/
def zeros (n : Nat) : List Byte := List.replicate n 0

/-- Bytes cut or zero-filled to length `n`. -/
def fit : Nat → List Byte → List Byte
  | 0, _ => []
  | n + 1, [] => 0 :: fit n []
  | n + 1, b :: bs => b :: fit n bs

/-- The `n` bytes from offset `o`, zero-filled past the end. -/
def slice (o n : Nat) (bs : List Byte) : List Byte := fit n (bs.drop o)

/-- The little-endian field of `n` bytes at offset `o`. -/
def fieldAt (o n : Nat) (bs : List Byte) : Nat := unle (slice o n bs)

/-- The signed little-endian field of `n` bytes at offset `o`. -/
def intAt (o n : Nat) (bs : List Byte) : Int :=
  let v := fieldAt o n bs
  if v < 2 ^ (8 * n - 1) then (v : Int) else (v : Int) - 2 ^ (8 * n)

/-- The two's complement of an integer in `n` bytes. -/
def leInt (n : Nat) (v : Int) : List Byte := le n (v % ((2 : Int) ^ (8 * n))).toNat

/-- Bytes zero-filled to a multiple of `n`. -/
def padTo (n : Nat) (bs : List Byte) : List Byte := bs ++ zeros ((n - bs.length % n) % n)

/-- The bitwise complement of every byte (R7). -/
def compl (bs : List Byte) : List Byte := bs.map (~~~ ·)

/-- One bit of a reflected CRC. -/
def crcBit (poly c : Nat) : Nat := if c % 2 = 1 then (c / 2) ^^^ poly else c / 2

/-- One byte of a reflected CRC. -/
def crcByte (poly c : Nat) (b : Byte) : Nat :=
  let c := c ^^^ b.toNat
  let c := crcBit poly (crcBit poly (crcBit poly (crcBit poly c)))
  crcBit poly (crcBit poly (crcBit poly (crcBit poly c)))

/-- The CRC-32C of R41: reflected, initial value and final XOR all ones. -/
def crc32c (bs : List Byte) : Nat := bs.foldl (crcByte 0x82F63B78) 0xFFFFFFFF ^^^ 0xFFFFFFFF

/-- One bit step of a CRC-64 that shifts left. -/
def crc64Bit (c : Nat) : Nat :=
  if c.testBit 63 then ((c * 2) % 2 ^ 64) ^^^ 0x42F0E1EBA9EA3693 else c * 2

/-- One byte step of the CRC-64 of R54. -/
def crc64Byte (c : Nat) (b : Byte) : Nat :=
  let c := c ^^^ (b.toNat * 2 ^ 56)
  let c := crc64Bit (crc64Bit (crc64Bit (crc64Bit c)))
  crc64Bit (crc64Bit (crc64Bit (crc64Bit c)))

/-- The CRC-64 of R54: ECMA-182, initial value zero, no reflection, no final XOR. -/
def crc64 (bs : List Byte) : Nat := bs.foldl crc64Byte 0

/-- Little-endian 16-bit word. -/
def le2 (v : Nat) : List Byte := le 2 v
/-- Little-endian 32-bit word. -/
def le4 (v : Nat) : List Byte := le 4 v
/-- Little-endian 64-bit word. -/
def le8 (v : Nat) : List Byte := le 8 v

/-- An Int clamped to a range. -/
def clampInt (lo hi v : Int) : Int := if v < lo then lo else if hi < v then hi else v

/-- Round half up after division by 2^n (R8). -/
def roundHalfUp (n : Nat) (v : Int) : Int := if n = 0 then v else (v + 2 ^ (n - 1)) / 2 ^ n

/-- Replace element `i` of a list. -/
def setAt {α : Type} (i : Nat) (f : α → α) : List α → List α
  | [] => []
  | a :: as => match i with
    | 0 => f a :: as
    | j + 1 => a :: setAt j f as

end Sys2Proof
end

