-- ==== Sys2Proof/Config.lean ====
section
/-! DEFINITION. What the spec leaves open and the machine goes on with: free values (log 8). No constant here has a
body, so no proof can know its value. -/

namespace Sys2Proof.Config
open Sys2Proof

/-- RATE after a servo update (R203): the spec gives a proportional-integral loop and its time constant, not its gains.
Arguments: the index of the use, the RATE before, and the measurement in 2^-16 ns. -/
opaque servoRate : Nat → Int → Int → Int

/-- The servo's frequency estimate without its phase term (R201, R203). -/
opaque servoEstimate : Nat → Int → Int → Int

/-- Whether a unit with errors in more than 5 symbols is reported as uncorrectable (R282 states the decoder up to 5). -/
opaque beyondDetected : Nat → Bool

/-- A byte that the spec leaves open: the data of a miscorrected unit. -/
opaque freeByte : Nat → Nat → Byte

/-- A word that the spec leaves open. -/
opaque freeWord : Nat → W32

/-- A sensor's reading, unsigned: the use, and the sensor's number. -/
opaque reading : Nat → Nat → W32

/-- A sensor's reading, signed: the use, and the sensor's number. -/
opaque readingInt : Nat → Nat → Int

end Sys2Proof.Config
end

