-- ==== Sys2Proof/Machine/Counters.lean ====
section
/-! DEFINITION. The 152 counter registers: their names, BAR0 offsets, and one word each. -/

namespace Sys2Proof.Machine
open Sys2Proof

/-- The counter registers, in BAR0 order. -/
inductive Ctr where
  /-- GEN_RWC_MISMATCH (R378): Complement writes that did not match under R6. -/
  | genRwcMismatch
  /-- GEN_SMB_PEC_ERR (R378): SMBus writes discarded for a bad PEC. -/
  | genSmbPecErr
  /-- GEN_LOAM_CE (R329): Loam words corrected. -/
  | genLoamCe
  /-- GEN_LOAM_UE (R329): Loam reads handled under R305. -/
  | genLoamUe
  /-- GEN_LOAM_GRAFT (R329): Loam banks replaced under R304. -/
  | genLoamGraft
  /-- GEN_ALM_RECORDS (R354): Records accepted. -/
  | genAlmRecords
  /-- GEN_ALM_QUEUE_FULL (R354): Waits for the writer's queue under R333. -/
  | genAlmQueueFull
  /-- GEN_ALM_CHECKPOINTS (R354): Checkpoints completed. -/
  | genAlmCheckpoints
  /-- GEN_ALM_FREEZES (R354): Freezes started, including repeated ones. -/
  | genAlmFreezes
  /-- GEN_RPL_MISMATCH (R354): Replay mismatches under R351. -/
  | genRplMismatch
  /-- KCP_TAKEN (R243): Packets taken from all rings and the mesh. -/
  | kcpTaken
  /-- KCP_HDR_REFUSED (R243): Packets refused at steps 1 to 7 of R230. -/
  | kcpHdrRefused
  /-- KCP_DUPLICATE (R243): Replies resent under R233. -/
  | kcpDuplicate
  /-- KCP_SEQ_GAP (R243): Numbers skipped in any series. -/
  | kcpSeqGap
  /-- KCP_SEQ_STALE (R243): Packets refused with SEQ_STALE. -/
  | kcpSeqStale
  /-- KCP_REPLAYED (R243): Commands executed again under R232. -/
  | kcpReplayed
  /-- KCP_REPLY_STALL (R243): Stalls under R227. -/
  | kcpReplyStall
  /-- KCP_HALT (R243): Ring halts. -/
  | kcpHalt
  /-- KCP_RING_CFG_IGNORED (R243): RING_CFG commands replaced under R229. -/
  | kcpRingCfgIgnored
  /-- KCP_MESH_IN (R243): Relayed packets received. -/
  | kcpMeshIn
  /-- KCP_MESH_NO_TOKEN (R243): Relayed packets refused under R237. -/
  | kcpMeshNoToken
  /-- KCP_FAULT (R243): Commands answered FAULT. -/
  | kcpFault
  /-- TM_MEAS_ACCEPTED (R217): Measurements accepted. -/
  | tmMeasAccepted
  /-- TM_MEAS_REFUSED (R217): Measurements refused under R204. -/
  | tmMeasRefused
  /-- TM_STEPS (R217): Steps of OFFSET. -/
  | tmSteps
  /-- TM_RATE_CLAMP (R217): Servo updates clamped at ±200 ppm. -/
  | tmRateClamp
  /-- TM_PTP_DISCARD (R217): PTP messages discarded under R196. -/
  | tmPtpDiscard
  /-- TM_SYNC_EDGES (R217): SYNC edges counted. -/
  | tmSyncEdges
  /-- TM_CUE_RUN (R217): Cues run. -/
  | tmCueRun
  /-- TM_CUE_LATE (R217): Cues refused with LATE. -/
  | tmCueLate
  /-- TM_CUE_LATE_RUN (R217): Cues accepted with LATE_RUN. -/
  | tmCueLateRun
  /-- TM_CUE_NOT_SYNCED (R217): Cues refused with NOT_SYNCED. -/
  | tmCueNotSynced
  /-- TM_CUE_CANCELLED (R217): Cues removed by CUE_CANCEL or by a system CANCEL. -/
  | tmCueCancelled
  /-- TM_CUE_DROPPED (R217): Entries dropped under R212 or R215. -/
  | tmCueDropped
  /-- LN_IN_ACCEPTED (R58): Packets admitted into a slot or the bay. -/
  | lnInAccepted
  /-- LN_IN_BAD_CHECK (R58): Packets failing every test of R42. -/
  | lnInBadCheck
  /-- LN_IN_MISROUTED (R58): Packets addressed to another device. -/
  | lnInMisrouted
  /-- LN_IN_SEQ_BEHIND (R58): Packets behind their stream's sequence. -/
  | lnInSeqBehind
  /-- LN_IN_SEQ_GAP (R58): Sum of sequence gaps. -/
  | lnInSeqGap
  /-- LN_IN_SOURCE_EXCESS (R58): Packets that would open a ninth stream on a lane. -/
  | lnInSourceExcess
  /-- LN_IN_BAD_HEADER (R58): Packets failing step 3 of R43. -/
  | lnInBadHeader
  /-- LN_IN_UNPLACED (R58): Packets for blocks or channels not placed here. -/
  | lnInUnplaced
  /-- LN_IN_LATE (R58): Packets for closed dwells. -/
  | lnInLate
  /-- LN_IN_STRAY (R58): Packets for dwells beyond one sweep ahead or outside the plan. -/
  | lnInStray
  /-- LN_IN_DUPLICATE (R58): Second and later copies. -/
  | lnInDuplicate
  /-- LN_IN_EARLY_DROP (R58): Admitted packets lost to a full bay. -/
  | lnInEarlyDrop
  /-- LN_IN_MISSING (R58): Packets absent at close. -/
  | lnInMissing
  /-- LN_IN_DWELL_ABSENT (R58): Absent dwells. -/
  | lnInDwellAbsent
  /-- LN_IN_CLOSE_COMPLETE (R58): Closes by COMPLETE. -/
  | lnInCloseComplete
  /-- LN_IN_CLOSE_LAST (R58): Closes by LAST. -/
  | lnInCloseLast
  /-- LN_IN_CLOSE_SUCCESSOR (R58): Closes by SUCCESSOR. -/
  | lnInCloseSuccessor
  /-- LN_IN_CLOSE_STALL (R58): Closes by STALL. -/
  | lnInCloseStall
  /-- LN_IN_CLOSE_LIMIT (R58): Closes by LIMIT. -/
  | lnInCloseLimit
  /-- LN_IN_LATE_RELEASE (R58): Slots released under R49. -/
  | lnInLateRelease
  /-- LN_IN_NOT_OPEN (R58): Packets discarded before the ingest opened (R45). -/
  | lnInNotOpen
  /-- LN_RX_FCS (R270): Ethernet frames failing the FCS. -/
  | lnRxFcs
  /-- LN_RX_HEADER (R270): Ethernet frames failing a tag, address, IPv4, IPv6 or UDP check of R250. -/
  | lnRxHeader
  /-- LN_RX_PAUSE (R270): PAUSE and priority flow control frames discarded. -/
  | lnRxPause
  /-- LN_RX_OTHER (R270): Other Ethernet frames discarded. -/
  | lnRxOther
  /-- LN_FJ_CHECK (R270): Fjotranu frames failing R254. -/
  | lnFjCheck
  /-- LN_FJ_ROLE (R270): Fjotranu frames of a type the lane's role does not carry. -/
  | lnFjRole
  /-- LN_FJ_LINK_GAP (R270): Sum of LINK_SEQ gaps. -/
  | lnFjLinkGap
  /-- LN_FEC_UNCORR (R270): Uncorrectable FEC codewords. -/
  | lnFecUncorr
  /-- LN_LOCK_LOSS (R270): Exits from LOCK other than by doze. -/
  | lnLockLoss
  /-- LN_MESH_RELAYED (R270): Mesh frames forwarded. -/
  | lnMeshRelayed
  /-- LN_MESH_NO_ROUTE (R270): DEVICE frames flooded for want of a route. -/
  | lnMeshNoRoute
  /-- LN_MESH_HOPS (R270): Frames discarded at 15 hops. -/
  | lnMeshHops
  /-- LN_EG_RECORDS (R270): Egress frames sent. -/
  | lnEgRecords
  /-- LN_EG_RESENT (R270): Records sent again under R265. -/
  | lnEgResent
  /-- LN_EG_BEAM_DROP (R270): Beam and sieve records dropped. -/
  | lnEgBeamDrop
  /-- LN_EG_NO_DEST (R270): Records discarded for want of a lane in service. -/
  | lnEgNoDest
  /-- MC_RMW_CHUNKS (R108): Chunks committed. -/
  | mcRmwChunks
  /-- MC_RMW_RETRY (R108): Chunk writes repeated under R96 or R97. -/
  | mcRmwRetry
  /-- MC_RMW_WRITE_FAIL (R108): Chunks marked SUM_LOST after failed writes. -/
  | mcRmwWriteFail
  /-- MC_RMW_READ_UE (R108): Chunk reads with an uncorrectable ECC error. -/
  | mcRmwReadUe
  /-- MC_RMW_SUM_CLAMP (R108): Chunks whose long-term sum was clamped under R95. -/
  | mcRmwSumClamp
  /-- MC_RMW_LATE_COMMIT (R108): Commits later than the deadline of R25. -/
  | mcRmwLateCommit
  /-- MC_RMW_COARSE_DWELL (R108): COUNT_COARSE dwells under R93. -/
  | mcRmwCoarseDwell
  /-- MC_RMW_HEAP_FULL (R108): Block pairs refused an exception entry for want of one. -/
  | mcRmwHeapFull
  /-- MC_HV_RECORDS (R108): Harvest records queued. -/
  | mcHvRecords
  /-- MC_HV_EMPTY (R108): EMPTY records queued. -/
  | mcHvEmpty
  /-- MC_HV_QUEUE_STALL (R108): Passes stalled by a full harvest queue under R101. -/
  | mcHvQueueStall
  /-- MC_RMW_FLUSH (R108): Flush passes completed. -/
  | mcRmwFlush
  /-- MC_CE (R296): Corrected reads. -/
  | mcCe
  /-- MC_UE (R296): Uncorrectable reads. -/
  | mcUe
  /-- MC_POISON_READ (R296): Reads of poisoned units. -/
  | mcPoisonRead
  /-- MC_MERGE_WRITE (R296): Partial-strobe units merged under R273. -/
  | mcMergeWrite
  /-- MC_REFRESH (R296): REFab issued. -/
  | mcRefresh
  /-- MC_REFRESH_FORCED (R296): REFab issued because they fell due (R275). -/
  | mcRefreshForced
  /-- MC_HOT_RECOUNT (R296): Debt recounts on entering the hot regime. -/
  | mcHotRecount
  /-- MC_DQS_RETUNE (R296): Write-delay shifts under R281. -/
  | mcDqsRetune
  /-- MC_SCRUB_CE (R296): Units corrected by the scrubber. -/
  | mcScrubCe
  /-- MC_REMAP (R296): Rows remapped. -/
  | mcRemap
  /-- MC_NO_SPARE (R296): Repairs that found no spare. -/
  | mcNoSpare
  /-- TL_ABORTED_BURST (R296): Bursts finished under R293. -/
  | tlAbortedBurst
  /-- TL_ADDR_DENIED (R296): Accesses refused under R294. -/
  | tlAddrDenied
  /-- TL_BRIDGE_ERR (R296): Partial-strobe or unmapped bridge accesses. -/
  | tlBridgeErr
  /-- TL_BRIDGE_TIMEOUT (R296): Bridge accesses that timed out. -/
  | tlBridgeTimeout
  /-- XA_SAT_ENTRIES (R84): Entries drained with SAT set. -/
  | xaSatEntries
  /-- XA_OVERFLOW_BP (R84): Block pairs marked OVERFLOW. -/
  | xaOverflowBp
  /-- XA_IRR_WAIT (R84): Waits of a cell for its operand buffers under R68. -/
  | xaIrrWait
  /-- XA_DRAIN_HOLD (R84): Boundaries delayed for a drain under R76. -/
  | xaDrainHold
  /-- XA_SHADOW_DONE (R84): Shadow comparisons made. -/
  | xaShadowDone
  /-- XA_SHADOW_MISMATCH (R84): Shadow comparisons that mismatched. -/
  | xaShadowMismatch
  /-- XA_CELL_FAULT (R84): Cell faults under R82. -/
  | xaCellFault
  /-- XA_REPLAY_BP (R84): Block pairs marked REPLAYED. -/
  | xaReplayBp
  /-- XA_TALLY_EXC (R84): Non-uniform block pairs given an exception entry. -/
  | xaTallyExc
  /-- XA_TALLY_OVER (R84): Dwells marked TALLY_OVER. -/
  | xaTallyOver
  /-- XA_ROUTINE_BAD (R84): Routines failing their check. -/
  | xaRoutineBad
  /-- XA_ECC_CORR (R84): Corrected ECC errors in slot files, X-mem, Y-mem and routine register files. -/
  | xaEccCorr
  /-- XA_GRAFT (R329): Grafts under R298. -/
  | xaGraft
  /-- XA_ROTATION (R329): Rotation steps under R302. -/
  | xaRotation
  /-- XA_ROW_SPARE (R329): Slot-file rows replaced under R303. -/
  | xaRowSpare
  /-- BF_RECORDS (R137): Beam records queued. -/
  | bfRecords
  /-- BF_CLAMPED (R137): Beam output components clamped under R125. -/
  | bfClamped
  /-- BF_LOW_VALID (R137): Sub-dwells output as the flagged code under R125. -/
  | bfLowValid
  /-- BF_WEIGHT_ERR (R137): Uncorrectable errors under R119. -/
  | bfWeightErr
  /-- BF_HOLD (R137): Boundaries delayed for the B array under R111. -/
  | bfHold
  /-- BF_SWAPS (R137): Swaps started. -/
  | bfSwaps
  /-- BF_DEFERRED (R137): Swaps answered DEFERRED under R123. -/
  | bfDeferred
  /-- BF_REFUSED (R137): Swaps refused with BUSY or LATE. -/
  | bfRefused
  /-- BF_BANK_BUSY (R137): Table writes refused under R124. -/
  | bfBankBusy
  /-- RDL_OUTPUTS (R137): Sieve outputs formed. -/
  | rdlOutputs
  /-- RDL_SETTLING_OUT (R137): Outputs tagged SETTLING. -/
  | rdlSettlingOut
  /-- RDL_OVERFLOW (R137): Sieve outputs clamped under R130. -/
  | rdlOverflow
  /-- RDL_RESETS (R137): Sieve resets under R134. -/
  | rdlResets
  /-- RDL_SWAPS (R137): Coefficient bank swaps taken effect. -/
  | rdlSwaps
  /-- RDL_SWAP_DEFERRED (R137): Swaps deferred under R132. -/
  | rdlSwapDeferred
  /-- RDL_DROPPED (R137): Output intervals dropped at a reset. -/
  | rdlDropped
  /-- CF_FRAMES (R191): Frames written. -/
  | cfFrames
  /-- CF_TRIG_ACCEPTED (R191): Triggers accepted. -/
  | cfTrigAccepted
  /-- CF_TRIG_COINCIDENT (R191): Coincident triggers. -/
  | cfTrigCoincident
  /-- CF_TRIG_MISSED (R191): Missed triggers. -/
  | cfTrigMissed
  /-- CF_MISSED_OVERFLOW (R191): Misses not logged because the log was full. -/
  | cfMissedOverflow
  /-- CF_SHORT_PRE (R191): Captures marked SHORT_PRE. -/
  | cfShortPre
  /-- CF_CLAMPED (R191): Captures marked CLAMPED. -/
  | cfClamped
  /-- CF_RESIZED (R191): Re-basings under R181. -/
  | cfResized
  /-- CF_POWER_SAT (R191): Beam power groups saturated. -/
  | cfPowerSat
  /-- CF_TDC_DEADTIME (R191): TDC_IN edges ignored under R173. -/
  | cfTdcDeadtime
  /-- CF_TRIG_GLITCH (R191): TRIG pulses shorter than the filter. -/
  | cfTrigGlitch
  /-- CF_STREAM_RECORDS (R191): Records streamed. -/
  | cfStreamRecords
  /-- CF_STREAM_DROP (R191): Streamed records dropped. -/
  | cfStreamDrop
  /-- CF_LOST_FROZEN (R191): Sub-regions discarded under R182. -/
  | cfLostFrozen
  /-- SUP_FAILOVER (R329): Lease takeovers after a lapse. -/
  | supFailover
  /-- SUP_HANDOVER (R329): Orderly handovers. -/
  | supHandover
  /-- SUP_REVERT (R329): Returns of the preferred core. -/
  | supRevert
  /-- SUP_SELFTEST_FAIL (R329): Failed standby self-test cycles. -/
  | supSelftestFail
  /-- SUP_NO_HOLDER (R329): Groundskeeper resets under R316. -/
  | supNoHolder
  /-- SUP_STEWARD_FAULT (R329): Steward faults under R308. -/
  | supStewardFault
  /-- SUP_CALLER_CLAIM (R329): Caller roles taken by claim under R320. -/
  | supCallerClaim
  /-- PW_PHASE_FAULT (R329): Regulator phase faults. -/
  | pwPhaseFault
  /-- PW_MARGIN_STEP (R329): Margin steps applied under R326 or R327. -/
  | pwMarginStep
  deriving DecidableEq, Repr

/-- BAR0 offsets of the counters (R359), by counter number. -/
def Ctr.offsets : List Nat :=
  [32, 36, 104, 108, 112, 148, 152, 156, 160, 164, 4356, 4360, 4364, 4368, 4372, 4376] ++
  [4380, 4384, 4388, 4392, 4396, 4400, 5176, 5180, 5184, 5188, 5192, 5196, 5200, 5204, 5208, 5212] ++
  [5216, 5220, 6156, 6160, 6164, 6168, 6172, 6176, 6180, 6184, 6188, 6192, 6196, 6200, 6204, 6208] ++
  [6212, 6216, 6220, 6224, 6228, 6232, 6236, 6368, 6372, 6376, 6380, 6384, 6388, 6392, 6396, 6400] ++
  [6404, 6408, 6412, 6416, 6420, 6424, 6428, 8204, 8208, 8212, 8216, 8220, 8224, 8228, 8232, 8236] ++
  [8240, 8244, 8248, 8272, 8276, 8280, 8284, 8288, 8292, 8296, 8300, 8304, 8308, 8312, 9228, 9232] ++
  [9236, 9240, 10252, 10256, 10260, 10264, 10268, 10272, 10276, 10280, 10284, 10288, 10292, 10296, 10300, 10304] ++
  [10308, 11272, 11276, 11280, 11284, 11288, 11292, 11296, 11300, 11304, 11800, 11804, 11808, 11812, 11816, 11820] ++
  [11824, 12336, 12340, 12344, 12348, 12352, 12356, 12360, 12364, 12368, 12372, 12376, 12380, 12384, 12388, 13348] ++
  [13352, 13356, 13360, 13364, 13368, 13372, 13832, 13836]

/-- BAR0 offset of a counter (R359). -/
def Ctr.offset (c : Ctr) : Nat := Ctr.offsets.getD c.ctorIdx 0

/-- The 152 counters; the reset value of each is 0. -/
structure Counters where
  words : List W32 := List.replicate 152 0
  deriving DecidableEq, Repr

end Sys2Proof.Machine
end

