-- ==== Sys2Proof/Machine/PartsHost.lean ====
section
/-! DEFINITION. Record types that State holds: fuses, flash images, the time unit, cues, rings, DMA and the almanac. -/

namespace Sys2Proof.Machine
open Sys2Proof

/-- A die's identity entry as fused (R342). -/
structure DieId where
  die : BitVec 8 := 0
  lot : List Byte := List.replicate 6 0x30
  wafer : BitVec 8 := 1
  x : BitVec 8 := 0
  y : BitVec 8 := 0
  checkOk : Bool := true
  deriving DecidableEq, Repr

/-- The seven entries of an unnamed part (log 3). -/
def DieId.blankDies : List DieId := (List.range 7).map fun d => { die := BitVec.ofNat 8 d }

/-- A Tamzar image in the flash (R366): header fields and whether the body matches its CRC. -/
structure Image where
  magicOk : Bool := true
  targetRev : BitVec 16 := 0x00B0
  compat : BitVec 16 := 1
  version : W32 := 1
  length : Nat := 4
  crcOk : Bool := true
  deriving DecidableEq, Repr

/-- A valid image (log 4). -/
def Image.first : Image := {}

/-- The board block (R368). -/
structure Board where
  subsysVendor : BitVec 16 := 0
  subsysId : BitVec 16 := 0
  autostart : Bool := false
  lanes : List (Nat × Nat × Nat × Nat) := []
  timeItems : List Byte := []
  deriving DecidableEq, Repr

/-- States of the time unit (R201). -/
inductive TimeState where
  | unset | acquire | lock | hold | refuse | unsynced
  deriving DecidableEq, Repr

/-- What a read of TM_NOW_LO latches (R194). -/
structure TimeLatch where
  mid : W32 := 0
  frac : W32 := 0
  frcLo : W32 := 0
  frcHi : W32 := 0
  deriving DecidableEq, Repr

/-- A foreign PTP master (R196): its last Announce, the port it came on, and the FRC of its recent Announces. -/
structure PtpMaster where
  lane : Nat
  ann : PtpAnnounce
  heard : List Nat
  qualified : Bool
  deriving DecidableEq, Repr

/-- The latest Delay_Req exchange of a PTP port (R197); times in 2^-16 ns. -/
structure PtpExch where
  lane : Nat
  t3 : Int
  t4 : Int := 0
  correction : Int := 0
  complete : Bool := false
  logInterval : Int := 0
  deriving DecidableEq, Repr

/-- Cue classes (R209). -/
inductive CueClass where
  | sweep | sample | time
  deriving DecidableEq, Repr

/-- An entry of the cue table (R212); `complement` is the stored second half of the 32 bytes. -/
structure CueEntry where
  point : W64
  seq : W32
  opcode : BitVec 16
  cls : CueClass
  lateRun : Bool := false
  isLocal : Bool := false
  system : Bool := false
  tentative : Bool := false
  complement : BitVec 128
  /-- Place in the order of acceptance (R213): the model's own, no part of the 32 bytes. -/
  id : Nat := 0
  deriving DecidableEq, Repr

/-- A system cue on the caller (R215): the packet's ring, when it was sent, each device's answer, and its outcome. -/
structure SysCue where
  seq : W32
  path : Path
  sentAt : Nat
  devs : List (Nat × Option (BitVec 16))
  settled : Bool := false
  /-- It was cancelled: refused, unanswered, or named by CUE_CANCEL. -/
  cancelled : Bool := false
  deriving DecidableEq, Repr

/-- A pending RING_CFG (R229). -/
structure RingPending where
  k : KcpIn
  replayed : Bool := false
  cmdLog2 : Nat
  rplLog2 : Nat
  cmdBase : W64
  rplBase : W64
  wb : W64
  vector : Nat
  window : Bool
  deriving DecidableEq, Repr

/-- A command ring with its reply ring (R224 to R229). `mem` holds the bytes placed and not yet taken, `dma` when each
packet came and what the device reads from host memory for it. -/
structure Ring where
  cmdBase : W64 := 0
  rplBase : W64 := 0
  wb : W64 := 0
  cmdLog2 : Nat := 13
  rplLog2 : Nat := 13
  vector : Nat := 0
  window : Bool := false
  enable : Bool := false
  halted : Bool := false
  haltCause : Nat := 0
  cfgIgnored : Bool := false
  stall : Bool := false
  cons : W32 := 0
  prod : W32 := 0
  rplProd : W32 := 0
  rplCons : W32 := 0
  owed : Nat := 0
  mem : List Byte := []
  dma : List (Nat × List Byte) := []
  replies : List Reply := []
  pendingCfg : Option RingPending := none
  deriving DecidableEq, Repr

/-- A ring in host memory at reset (R229 register table). -/
def Ring.host : Ring := {}

/-- The groundskeeper ring at reset: 4 KiB windows (KCP_r_CFG). -/
def Ring.gk : Ring := { cmdLog2 := 12, rplLog2 := 12, window := true }

/-- A sequence series (R231): whether it has started, H, and the executed numbers with their stored replies. -/
structure Series where
  started : Bool := false
  h : W32 := 0
  done : List (W32 × Option Reply) := []
  deriving DecidableEq, Repr

/-- What a DMA transfer is for. -/
inductive TransferKind where
  | bufferReply | memRead | memWrite | almanac | replayInput | image | drain
  deriving DecidableEq, Repr

/-- A DMA transfer in progress (R239, R241, R361). -/
structure Transfer where
  seq : W32
  kind : TransferKind
  addr : W64
  data : List Byte := []
  len : Nat := 0
  /-- The DMA's requests at the DRAM ports (R291), 0 for none; its device address; what its reads have returned, by offset; a mark on it. -/
  xfer : Nat := 0
  dev : Nat := 0
  got : List (Nat × List Byte) := []
  poisoned : Bool := false
  deriving DecidableEq, Repr

/-- An almanac record (R331). -/
structure AlmRec where
  rn : W64
  frc : W64
  type : BitVec 16
  src : BitVec 8
  flags : BitVec 8 := 0
  body : List Byte := []
  deriving DecidableEq, Repr

/-- Where a drained record lies in the almanac region: number, address, length in bytes (R330). -/
structure AlmSlot where
  rn : W64
  addr : Nat
  len : Nat
  type : BitVec 16
  deriving DecidableEq, Repr

/-- Units of replay input not yet used (R349). -/
structure ReplayUnit where
  chan : Nat
  block : Nat
  epoch : W32
  sub : Nat
  wide : Bool
  second : Bool
  mask : W32
  data : List Byte
  deriving DecidableEq, Repr

/-- A packet the caller has relayed (R236, R238): its number, the ring it came on, and the devices whose replies are due. -/
structure Relay where
  seq : W32
  hostTag : W32
  path : Path
  single : Bool
  due : List Nat
  noReply : Bool := false
  deriving DecidableEq, Repr

/-- The MSI-X table at reset: 64 entries with address and data 0 and the standard's mask bit set (log 31). -/
def msixBlank : List W32 := (List.replicate 64 [0, 0, 0, 1]).flatten

end Sys2Proof.Machine
end

