-- ==== Sys2Proof/Machine/PartsPlan.lean ====
section
/-! DEFINITION. Record types that State holds: plan requests, plans, health, cells and supervisors, the mesh roles. -/

namespace Sys2Proof.Machine
open Sys2Proof

/-- An entry of SOURCES (R138): an F-engine port, the system blocks it sends and its ingest lanes. -/
structure Source where
  id : W32
  firstBlock : Nat
  nBlocks : Nat
  nLanes : Nat
  deriving DecidableEq, Repr

/-- A plan request (R138); the byte forms of the items are those of log 11. -/
structure Request where
  sources : List Source := []
  channels : List Nat := []
  rate : Nat := 0
  framing : Nat := 0
  T : Nat := 65536
  wide : Bool := false
  long : Bool := false
  integLen : Nat := 1
  harvestWidth : Nat := 1
  beamBudget : Nat := 0
  beamWidth : Nat := 1
  fadeSlots : Nat := 8
  heapMib : Nat := 2048
  captureBytes : Option Nat := some 0
  captureRate : Nat := 0
  streamRate : Nat := 0
  laneProfile : Option (Nat × Nat × Nat) := none
  shedOrder : List Nat := []
  planLead : Nat := 100000000
  start : Option Nat := none
  dryRun : Bool := false
  ingestVlan : Bool := false
  /-- Whether HARVEST_WIDTH has been given: without it the default follows LONG. -/
  widthGiven : Bool := false
  deriving DecidableEq, Repr

/-- Tile shapes (R143). -/
inductive Shape where
  | triangle | square | twoTriangles
  deriving DecidableEq, Repr

/-- A stream route (R149, R160). -/
structure Route where
  device : Nat
  lane : Nat
  source : W32
  firstBlock : Nat
  nBlocks : Nat
  slice : Nat
  deriving DecidableEq, Repr

/-- A tile of a system (R160, R161): the system blocks of its row side and of its column side. -/
structure Tile where
  slice : Nat
  device : Nat
  shape : Shape
  rows : List Nat
  cols : List Nat
  deriving DecidableEq, Repr

/-- A DRAM region (R147, R402). -/
structure DramRegion where
  kind : Nat
  base : Nat
  size : Nat
  deriving DecidableEq, Repr

/-- A plan (R140, R142): what the Espalier decided for one request. -/
structure Plan where
  version : W64 := 0
  digest : W64 := 0
  req : Request := {}
  shape : Shape := .triangle
  /-- Local blocks in ascending system block index (R143). -/
  blocks : List Nat := []
  /-- Local channels of the long-term layout, ascending system index; shed channels stay in it (R156). -/
  layout : List Nat := []
  /-- Shed channels, in SHED_ORDER. -/
  shed : List Nat := []
  /-- Deal index to physical cell (R144). -/
  cellMap : List Nat := []
  /-- t_X in XCLK cycles (R23). -/
  tX : Nat := 0
  /-- The dwell period is dNum / dDen ns (R146). -/
  dNum : Nat := 1
  dDen : Nat := 1
  /-- Hedge roles in the layout of LN_HEDGE_ROLE (R148). -/
  roles : W32 := 0
  routes : List Route := []
  /-- The plan was checked with the tagged row of w (R148, R250). -/
  tagged : Bool := false
  tiles : List Tile := []
  slices : Nat := 1
  slice : Nat := 0
  regions : List DramRegion := []
  /-- Cold-frame write budget after derating, GB/s (R147, R153). -/
  cfBudget : Nat := 0
  /-- Switch sample; none until it is fixed (R154). -/
  switchSample : Option Nat := none
  /-- What the change touches: something an F-engine sees, or the routines (R154). -/
  seenByF : Bool := false
  routines : Bool := false
  reason : Nat := 0
  /-- Slices and their channels, when the plan tiles a system (R161). -/
  sliceChans : List (List Nat) := []
  /-- The plan of an accepted request, which a forced event recomputes while it is pending (R157). -/
  requested : Bool := false
  deriving DecidableEq, Repr

/-- CAUSE of a plan version (R142). -/
def Plan.cause (p : Plan) : Nat := (p.version.toNat / 2 ^ 32) % 256
/-- PROVISIONAL (R142). -/
def Plan.provisional (p : Plan) : Bool := p.version.getLsbD 40
/-- LAYOUT (R142). -/
def Plan.hasLayout (p : Plan) : Bool := p.version.getLsbD 41
/-- INTERIM (R142). -/
def Plan.interim (p : Plan) : Bool := p.version.getLsbD 42
/-- SERIAL (R142). -/
def Plan.serial (p : Plan) : Nat := p.version.toNat % 2 ^ 32
/-- A, the number of cells dealt. -/
def Plan.A (p : Plan) : Nat := p.cellMap.length
/-- The dwelt channels, in channel order (R146). -/
def Plan.chans (p : Plan) : List Nat := p.layout.filter fun c => !(p.shed.contains c)
/-- D in ns, rounded up. -/
def Plan.dNs (p : Plan) : Nat := (p.dNum + p.dDen - 1) / p.dDen
/-- Inputs of the device. -/
def Plan.inputs (p : Plan) : Nat := 32 * p.blocks.length

/-- What became of a plan that is neither active nor pending (R159). -/
inductive PlanOutcome where
  | checked | refused | withdrawn
  deriving DecidableEq, Repr

/-- The plan being computed (R150, R153): its cause code, request, the version it will carry, and whether it is forced. -/
structure Job where
  cause : Nat
  req : Request
  version : W64
  forced : Bool := false
  startedAt : Nat := 0
  /-- A forced event that fell while a requested plan was pending or being computed (R157). -/
  also : Option Nat := none
  /-- The withdrawn plan whose place in the tiling a device that is not the caller keeps when it recomputes its request (R157). -/
  place : Option Plan := none
  deriving DecidableEq, Repr

/-- A page of a plan image or of the system state (R317, R376). -/
structure PlanPage where
  version : W64
  page : Nat
  npage : Nat
  data : List Byte
  deriving DecidableEq, Repr

/-- The health record (R151, R367). -/
structure Health where
  serial : W32 := 0
  learned : Bool := false
  seconds : Nat := 0
  spareMap : List (BitVec 8) := []
  spareMapN : List (BitVec 8) := []
  retired : List Nat := []
  rowsSpared : List (Nat × Bool × Nat) := []
  loamRemap : List (Nat × Nat) := []
  dramRemap : List (Nat × Nat) := []
  lostStripes : BitVec 10 := 0
  phases : BitVec 10 := 0
  lostLanes : List Nat := []
  margin : List Nat := []
  request : Option Request := none
  planSerial : W32 := 0
  deriving DecidableEq, Repr

/-- Core states (R311). -/
inductive CoreState where
  | off | boot | selftest | standby | active | failed
  deriving DecidableEq, Repr

/-- A graft that waits for its boundary (R298): the cell, and the FRC of the decision. -/
structure GraftJob where
  cell : Nat
  decided : Nat
  deriving DecidableEq, Repr

/-- A stripe that STRIPE_POWER switches off (R307): the sweep of its point once that has come, and the cue that waits. -/
structure StripeOff where
  stripe : Nat
  point : Option Nat
  cue : Option Nat
  deriving DecidableEq, Repr

/-- Per-cell counts of the survey (R344). -/
structure CellStat where
  cell : Nat
  sat : W32 := 0
  ecc : W32 := 0
  shadowDone : W32 := 0
  shadowMismatch : W32 := 0
  faults : W32 := 0
  irrWait : W32 := 0
  slack : Int := 0
  deriving DecidableEq, Repr

/-- Readings of a stripe (R328). -/
structure StripeRead where
  roNow : BitVec 16 := 0
  slackMin : Int := 0
  temp : Int := 0
  deriving DecidableEq, Repr

/-- The ten stripes' readings at reset (log 2). -/
def StripeRead.all : List StripeRead := List.replicate 10 {}

/-- A voter (R317). -/
structure Voter where
  index : Nat
  birth : W64
  deriving DecidableEq, Repr

/-- A device whose heartbeats are heard (R259): when the last one came, and the last one with SCOPE SYSTEM (R319). -/
structure Heard where
  index : Nat
  birth : W64
  heardAt : Nat
  wideAt : Option Nat := none
  body : HeartbeatBody
  deriving DecidableEq, Repr

/-- An FSEQ value seen on a flooded frame (R256). -/
structure FloodSeen where
  src : Nat
  type : Nat
  fseq : W32
  birth : W64 := 0
  deriving DecidableEq, Repr

/-- A Fjotranu frame sent (R252): lane, TYPE, SRC, DEST field and body. -/
structure MeshFrame where
  lane : Nat
  type : Nat
  src : Nat
  dest : BitVec 16
  hops : Nat := 0
  /-- LINK_SEQ, given when the frame starts on its lane. -/
  linkSeq : BitVec 16 := 0
  fseq : W32 := 0
  body : List Byte := []
  deriving DecidableEq, Repr

/-- A SYSTEM record the caller holds (R344, R346): the DEVICE body as it arrived and its time. -/
structure SysRec where
  index : Nat
  device : List Byte
  lanes : List (Nat × List Byte) := []
  hops : Nat := 0
  arrivedAt : Nat := 0
  deriving DecidableEq, Repr

/-- A joiner heard with no index (R376). -/
structure UnknownDev where
  birth : W64
  segment : Nat
  heardAt : Nat
  deriving DecidableEq, Repr

end Sys2Proof.Machine
end

