-- ==== Sys2Proof/Machine/PartsMem.lean ====
section
/-! DEFINITION. Record types that State holds: the memory controllers. -/

namespace Sys2Proof.Machine
open Sys2Proof

/-- A remap entry of a channel (R286): the row, its spare row, and the stored complement of the entry. A row number here
is A[36:17]: bank group, bank and row. -/
structure Remap where
  row : Nat
  spare : Nat
  complement : BitVec 64
  deriving DecidableEq, Repr

/-- One DRAM channel with its controller (R271 to R289). -/
structure MemChan where
  trained : Bool := false
  hot : Bool := false
  overtemp : Bool := false
  debt : Nat := 0
  due : Nat := 0
  postpone : Nat := 4
  mr4 : Nat := 0
  hardLeft : Nat := 0
  remaps : List Remap := []
  spareNext : List (Nat × Nat) := []
  ce : W32 := 0
  ue : W32 := 0
  poisonReads : W32 := 0
  remapCount : W32 := 0
  refab : W64 := 0
  lastUe : W64 := 0
  lastRepairAddr : W64 := 0
  lastRepair : Nat := 0
  eyeRead : BitVec 16 := 0
  eyeWrite : BitVec 16 := 0
  scrubUnit : Nat := 0
  passes : W32 := 0
  timerAt : Nat := 0
  mr4At : Nat := 0
  zqA : Nat := 0
  zqB : Nat := 0
  dqsShift : List (Nat × Int) := []
  /-- R281: shifts of the dies' write delays that wait for the next REFab: die and drift in 1/1024 UI. -/
  dqsPend : List (Nat × Int) := []
  watch : List (Nat × List Nat) := []
  repairAsked : List Nat := []
  poisonLogged : List Nat := []
  deriving DecidableEq, Repr

/-- The 16 channels at reset. -/
def MemChan.all : List MemChan := List.replicate 16 {}

/-- A sub-burst that waits at a DRAM port (R291): master, address, bytes, the data of a write, and the DMA that it belongs to (0 is none). -/
structure SubReq where
  master : Nat
  addr : Nat
  bytes : Nat
  write : Bool
  data : List Byte := []
  xfer : Nat := 0
  deriving DecidableEq, Repr

/-- The reel of a DRAM port (R292): each master's credit in 1/160 byte and when it last grew, the real-time master granted last, the round's
weights, the master whose turn it is and the sub-bursts it has taken, and the requests that wait, first in first out for each master. -/
structure Reel where
  credit : List Int := List.replicate 8 0
  grownAt : Nat := 0
  lastReal : Nat := 7
  weights : W32 := 0x12241448
  turn : Nat := 0
  taken : Nat := 0
  waiting : List SubReq := []
  deriving DecidableEq, Repr

/-- The reels of the 16 DRAM ports at reset. -/
def Reel.all : List Reel := List.replicate 16 {}

/-- A burst cut short by its master's reset (R293). -/
structure Abort where
  master : Nat
  target : Nat
  addr : Nat
  written : Nat
  deriving DecidableEq, Repr

end Sys2Proof.Machine
end

