-- ==== Sys2Proof/Machine/PartsLane.lean ====
section
/-! DEFINITION. Record types that State holds: lanes, destination entries and egress records. -/

namespace Sys2Proof.Machine
open Sys2Proof

/-- A destination entry of 36 bytes (R249). -/
structure Dest where
  enable : Bool := false
  ipv6 : Bool := false
  vlan : Nat := 0
  destId : W32 := 0
  mac : List Byte := List.replicate 6 0
  ip : List Byte := List.replicate 16 0
  sport : Nat := 0
  dport : Nat := 0
  deriving DecidableEq, Repr

/-- Receive states of a lane (R246). -/
inductive LaneState where
  | off | train | align | lock | doze
  deriving DecidableEq, Repr

/-- A record in an egress queue (R264): its class code, and its bytes. -/
structure EgRec where
  cls : Nat
  data : List Byte
  deriving DecidableEq, Repr

/-- A lane: its configuration items (R249), its states (R246 to R248, R266 to R268) and its counts (R269). -/
structure Lane where
  fj : Bool := false
  phy : Nat := 0
  an : Bool := true
  train : Bool := true
  polarity : BitVec 2 := 0
  txPreset : Nat := 1
  mac : Option (List Byte) := none
  vlan : Nat := 0
  ipv4 : List Byte := List.replicate 4 0
  ipv4Prefix : Nat := 0
  ipv6 : Option (List Byte) := none
  ingestPort : Nat := 52000
  ptpEn : Bool := false
  destHarvest : Dest := {}
  destBeam : Dest := {}
  destCapture : Dest := {}
  state : LaneState := .off
  txDoze : Bool := false
  rxDoze : Bool := false
  txQuiet : Bool := false
  lost : Bool := false
  degraded : Bool := false
  partnerDozes : Bool := false
  rxDozeAt : Nat := 0
  lockAt : Nat := 0
  outAt : Nat := 0
  exits : W32 := 0
  recentExits : List Nat := []
  symbolsCorrected : W64 := 0
  codewordsBad : W32 := 0
  framesIn : W64 := 0
  discarded : W32 := 0
  framesOut : W64 := 0
  ser : W32 := 0
  partnerBirth : W64 := 0
  partnerIndex : BitVec 16 := 0
  partnerLane : Nat := 0
  linkAt : Option Nat := none
  meshUp : Bool := false
  egSeq : W32 := 0
  txLinkSeq : BitVec 16 := 0
  rxLinkSeq : BitVec 16 := 0
  rxLinkSeen : Bool := false
  linkSentAt : Nat := 0
  answers : List Nat := []
  sending : Option (EgRec × Nat) := none
  /-- The record that the lane has taken and not yet started (R264). -/
  held : Option EgRec := none
  /-- FRC at which the Fjotranu frame in transmission ends (R251, R257). -/
  txFree : Nat := 0
  deriving DecidableEq, Repr

/-- The 128 lanes at reset: OFF, with the defaults of R249. -/
def Lane.all : List Lane := List.replicate 128 {}

end Sys2Proof.Machine
end

