-- ==== Sys2Proof/Machine/PartsX.lean ====
section
/-! DEFINITION. Record types that State holds: the seedbed, the X array, staging and the RMW engine. -/

namespace Sys2Proof.Machine
open Sys2Proof

/-! ### Ingest (R35 to R52) -/

/-- States of a seedbed slot (R47). -/
inductive SlotState where
  | free | arriving | closed | computing | retained
  deriving DecidableEq, Repr

/-- A packet's place and content in a slot: local block, sub-dwell, half (wide mode), valid mask and payload (R36 to
R38). -/
structure SlotPkt where
  block : Nat
  sub : Nat
  half : Nat := 0
  mask : W32
  data : List Byte
  deriving DecidableEq, Repr

/-- A stream: one SOURCE_ID on one lane (R42, R52). -/
structure StreamId where
  lane : Nat
  source : W32
  deriving DecidableEq, Repr

/-- A seedbed slot (R47 to R52). -/
structure Slot where
  state : SlotState := .free
  dwell : Option Dwell := none
  pkts : List SlotPkt := []
  /-- FRC when the slot became ARRIVING. -/
  openedAt : Nat := 0
  /-- FRC of the last admission of a packet of its dwell. -/
  lastAt : Nat := 0
  /-- FRC of the first successor or ahead packet admitted (R50). -/
  graceAt : Option Nat := none
  /-- Streams that delivered a packet, and those that delivered LAST_ON_LANE. -/
  heard : List StreamId := []
  lastOn : List StreamId := []
  /-- CLOSE of R334 and the packets absent at close. -/
  close : Nat := 0
  missing : Nat := 0
  /-- The commit records of its dwell are complete (R25, R48). -/
  committed : Bool := false
  deriving DecidableEq, Repr

/-- A packet in the ingest bay (R49). -/
structure BayPkt where
  dwell : Dwell
  pkt : SlotPkt
  stream : StreamId
  lastOn : Bool
  at_ : Nat
  deriving DecidableEq, Repr

/-- An entry of a lane's stream table with its survey counts (R42, R344). -/
structure Stream where
  lane : Nat
  source : W32
  e : W32 := 0
  accepted : W64 := 0
  seqGap : W32 := 0
  seqBehind : W32 := 0
  late : W32 := 0
  duplicate : W32 := 0
  badHeader : W32 := 0
  deriving DecidableEq, Repr

/-! ### The X array (R59 to R84) -/

/-- One entry of a slot or of staged sums: real part, imaginary part, sticky saturation (R71). -/
structure Acc where
  re : Int := 0
  im : Int := 0
  sat : Bool := false
  deriving DecidableEq, Repr

/-- An entry of a slot as the slot file stores it (R71): two 24-bit fields and the sticky bit. Its 7 check bits are a function
of these; what they correct and detect comes as events (R82). -/
structure SlotEntry where
  re : BitVec 24
  im : BitVec 24
  sat : Bool
  deriving DecidableEq, Repr

/-- A piece as a cell's slot file holds it after its dwell (R66, R71, R73): deal index, physical cell, POS, its slot number and
the slot's 1,024 entries; in wide mode SLOT + 1 holds the high 24 bits. -/
structure PieceSum where
  deal : Nat
  cell : Nat
  pos : Nat
  slot : Nat := 0
  low : List SlotEntry
  high : List SlotEntry := []
  deriving DecidableEq, Repr

/-- The low 24 bits of an entry's components. -/
def SlotEntry.low (a : Acc) : SlotEntry := { re := BitVec.ofInt 24 a.re, im := BitVec.ofInt 24 a.im, sat := a.sat }
/-- The high 24 bits of 48-bit components (R73). -/
def SlotEntry.high (a : Acc) : SlotEntry :=
  { re := BitVec.ofInt 24 (a.re / 2 ^ 24), im := BitVec.ofInt 24 (a.im / 2 ^ 24), sat := false }
/-- The value of a 4+4-bit entry. -/
def SlotEntry.value (x : SlotEntry) : Acc := { re := x.re.toInt, im := x.im.toInt, sat := x.sat }
/-- The value of a wide entry: low and high halves joined (R73). -/
def SlotEntry.wideValue (lo hi : SlotEntry) : Acc :=
  { re := hi.re.toInt * 2 ^ 24 + lo.re.toNat, im := hi.im.toInt * 2 ^ 24 + lo.im.toNat, sat := lo.sat }

/-- The values of a piece's 1,024 entries. -/
def PieceSum.entries (x : PieceSum) : List Acc :=
  if x.high.isEmpty then x.low.map SlotEntry.value else x.low.zipWith SlotEntry.wideValue x.high

/-- Store values in a piece's slot, or in wide mode in its two slots (R71, R73). -/
def PieceSum.store (wide : Bool) (vs : List Acc) (x : PieceSum) : PieceSum :=
  { x with low := vs.map SlotEntry.low, high := if wide then vs.map SlotEntry.high else [] }

/-- A buffer of X-mem or Y-mem (R67): its set, its number in the set, and the block's sub-dwell, or half of one in wide mode,
that it was filled with from the slot of a dwell. -/
structure OperandBuf where
  cell : Nat
  set1 : Bool
  buf : Nat
  dwell : Dwell
  block : Nat
  sub : Nat
  half : Nat := 0
  deriving DecidableEq, Repr

/-- The routine in a register file of a cell (R69, R70). -/
structure CellRoutine where
  cell : Nat
  words : List W64
  deriving DecidableEq, Repr

/-- The routines of a plan in the Loam, in deal order (R70). -/
structure PlanRoutines where
  ver : W64
  routines : List (List W64)
  deriving DecidableEq, Repr

/-- The dwell whose bank drains (R74). -/
structure Drain where
  dwell : Dwell
  deriving DecidableEq, Repr

/-- A block pair in staging (R75 to R79): running exact sums, the deal indexes whose parts are still to come, its COUNT
and deficits, and the tag marks. -/
structure StagedPair where
  pos : Nat
  sums : List Acc
  waits : List Nat
  count : Nat
  deficits : Option (List Nat) := none
  excIndex : Nat := 0
  overflow : Bool := false
  replayed : Bool := false
  shadowMismatch : Bool := false
  ready : Bool := false
  deriving DecidableEq, Repr

/-- A staging half: one dwell's block pairs, its tally state, its per-input counts (INVALID, FLAGGED), and whether its
sums are to be added (R75 to R79, R91, R102). -/
structure Staged where
  dwell : Dwell
  boundaryAt : Nat
  pairs : List StagedPair
  tallyOver : Bool := false
  inputs : List (Nat × Nat) := []
  add : Bool := true
  drained : Bool := false
  deriving DecidableEq, Repr

/-- The shadow check of a bed: its spare, the target cell and the piece (R80), and the spare's result. -/
structure Shadow where
  bed : Nat
  spare : Nat
  target : Nat
  deal : Nat
  pos : Nat
  entries : List Acc := []
  deriving DecidableEq, Repr

/-- A tie-break (R81): the shadow check that mismatched, the target's withheld pieces, the bed whose spare runs it, and
whether it has started. -/
structure TieBreak where
  dwell : Dwell
  shadow : Shadow
  target : PieceSum
  helper : Nat
  deriving DecidableEq, Repr

/-- A recomputation of a faulted cell's work in one dwell (R83): the spares with their shares still to finish, as first
execution position and number of steps, and the shares finished before the dwell's boundary, which drain after it. -/
structure Replay where
  dwell : Dwell
  cell : Nat
  deal : Nat
  shares : List (Nat × Nat × Nat)
  finished : List (Nat × Nat × Nat) := []
  started : Bool := false
  deriving DecidableEq, Repr

/-- Entries of a slot-file row that needed correction (R303). -/
structure RowCorr where
  cell : Nat
  bank : Bool
  row : Nat
  at_ : Nat
  deriving DecidableEq, Repr

/-! ### The RMW engine (R85 to R107) -/

/-- The parameters of integrations: L, output width, shifts (R90, R103). -/
structure IntegCfg where
  len : Nat := 1
  width : Nat := 1
  shiftAuto : Nat := 0
  shiftCross : Nat := 0
  deriving DecidableEq, Repr

/-- Integrations with one set of parameters from a start sweep s0 on; none before the plan's first dwell (R90). -/
structure Era where
  start : Option Nat
  cfg : IntegCfg
  deriving DecidableEq, Repr

/-- A channel descriptor (R89): `start` is the first sweep of its integration, or of the first one not yet reported when
it is FRESH (R100). -/
structure ChanDesc where
  start : Option Nat := none
  index : Nat := 0
  dwells : Nat := 0
  entries : Nat := 0
  coarse : Nat := 0
  fresh : Bool := true
  planChanged : Bool := false
  ver : W64 := 0
  deriving DecidableEq, Repr

/-- A chunk in flight (R93 to R97): its old sums once read, the mark that its harvest records are queued, its exception
entry, repeats made, writes that failed, whether its read was uncorrectable and whether it was refused an entry. -/
structure Chunk where
  pos : Nat
  old : Option (List (Int × Int)) := none
  queued : Bool := false
  entry : Option Nat := none
  newEntry : Bool := false
  refused : Bool := false
  repeats : Nat := 0
  fails : Nat := 0
  readUe : Bool := false
  deriving DecidableEq, Repr

/-- How far a flush pass has come (R102): 0 before the INPUT_COUNTS records, then the POS to come plus 1; records queued and
the DEFICITS among them; a full queue has stalled it. -/
structure FlushRun where
  next : Nat := 0
  records : Nat := 0
  deficits : Nat := 0
  stalled : Bool := false
  /-- Block pairs whose read the environment makes uncorrectable. -/
  ue : List Nat := []
  deriving DecidableEq, Repr

/-- A pass (R94): the next POS, the deferred ones, chunks in flight in order of issue, committed POS, what it folds. -/
structure Pass where
  dwell : Dwell
  next : Nat := 0
  deferred : List Nat := []
  flight : List Chunk := []
  committed : List Nat := []
  /-- The descriptor of the integration whose harvest the pass folds (R99). -/
  harvest : Option ChanDesc := none
  /-- The deficits of the harvest's block pairs, as the finished integration left them. -/
  olds : List (Nat × List Byte) := []
  /-- Old values count as zero: the channel was FRESH, or the pass folds a harvest (R89, R99). -/
  fresh : Bool := false
  /-- First sweep and index of the dwell's integration. -/
  start : Nat := 0
  index : Nat := 0
  /-- Exception entries in use, and the block pair of each: the directory as the pass keeps it (R93, R99). -/
  entries : Nat := 0
  dir : List (Nat × Nat) := []
  /-- Harvest records queued and the DEFICITS among them, before END; END is queued (R105, R106). -/
  records : Nat := 0
  deficits : Nat := 0
  ended : Bool := false
  /-- Chunks repeated; a block pair marked COUNT_COARSE; a chunk marked SUM_LOST (R335). -/
  repeats : Nat := 0
  coarse : Bool := false
  sumLost : Bool := false
  deriving DecidableEq, Repr

end Sys2Proof.Machine
end

