-- ==== Sys2Proof/Machine/PartsB.lean ====
section
/-! DEFINITION. Record types that State holds: beams, sieves, capture regions. -/

namespace Sys2Proof.Machine
open Sys2Proof

/-! ### Beams (R110 to R124) -/

/-- MODE of a beam (R110). -/
inductive BeamMode where
  | off | poly | direct
  deriving DecidableEq, Repr

/-- A beam descriptor (R110); CHANNELS is its bitmap. -/
structure BeamDesc where
  mode : BeamMode := .off
  wide : Bool := false
  bshift : Nat := 0
  minValid : Nat := 0
  egress : Bool := false
  chans : List Byte := []
  bank : Bool := false
  epoch : Bool := false
  tref0 : W64 := 0
  tref1 : W64 := 0
  deriving DecidableEq, Repr

/-- The gain of (bank, channel, input) (R113). -/
structure GainEntry where
  bank : Bool
  chan : Nat
  input : Nat
  re : Int
  im : Int
  deriving DecidableEq, Repr

/-- Both gain banks of a local channel in the working set (R112). -/
structure GainRows where
  chan : Nat
  bankA : List (Int × Int) := []
  bankB : List (Int × Int) := []
  deriving DecidableEq, Repr

/-- The delay coefficients of (epoch, beam, input) (R113). -/
structure DelayEntry where
  epoch : Bool
  beam : Nat
  input : Nat
  c0 : Int
  c1 : Int
  c2 : Int
  deriving DecidableEq, Repr

/-- The direct weight of (bank, beam, input) (R113). -/
structure DirectEntry where
  bank : Bool
  beam : Nat
  input : Nat
  re : Int
  im : Int
  deriving DecidableEq, Repr

/-- The beam tables of R112: what is not listed is zero, a beam not listed is OFF. -/
structure BeamTables where
  desc : List (Nat × BeamDesc) := []
  /-- Channel frequencies, 2^-16 Hz. -/
  freqs : List (Nat × Int) := []
  delays : List DelayEntry := []
  direct : List DirectEntry := []
  deriving DecidableEq, Repr

/-- A swap (R120 to R124): start sample, fade length, target, whether it was deferred, whether it has started, and the
cue that made it. -/
structure Swap where
  beam : Nat
  s0 : Nat
  k : Nat
  bank : Bool
  epoch : Bool
  deferred : Bool := false
  started : Bool := false
  cue : Option Nat := none
  deriving DecidableEq, Repr

/-- A weight set (R118): of which bank and epoch, the weights per input, whether Δ was clamped (R116). -/
structure WeightSet where
  bank : Bool
  epoch : Bool
  w : List (Int × Int)
  clamped : Bool := false
  deriving DecidableEq, Repr

/-- The weights of a beam for one dwell, with the descriptor they were formed under (R115, R119). -/
structure BeamWeights where
  beam : Nat
  desc : BeamDesc
  sets : List WeightSet
  deriving DecidableEq, Repr

/-- A half of the weight store (R112, R119): the dwell, its beams, and those whose weights are bad (WEIGHT_ERROR). -/
structure WeightHalf where
  dwell : Option Dwell := none
  beams : List BeamWeights := []
  err : List Nat := []
  deriving DecidableEq, Repr

/-- A beam's 16+16 samples of a dwell so far (R128, R164); a flagged sample holds -32,768. -/
structure BeamRow where
  beam : Nat
  samples : List (Int × Int)
  deriving DecidableEq, Repr

/-! ### The riddle (R128 to R136) -/

/-- A coefficient bank (R131). -/
structure SieveBank where
  len : Nat := 1
  taps : List Int := []
  coarseGain : Int := 0
  oshift : Nat := 0
  deriving DecidableEq, Repr

/-- The configuration of a sieve (R128). -/
structure SieveCfg where
  enable : Bool := false
  fromSieve : Bool := false
  source : Nat := 0
  chan : Nat := 0
  decim : Nat := 2
  ftw : Int := 0
  phase0 : Nat := 0
  coarseFill : Bool := false
  syncEn : Bool := false
  deriving DecidableEq, Repr

/-- A reset or a configuration that waits for its sample (R128, R134). -/
structure SievePend where
  at_ : Nat
  reset : Bool
  cfg : Option SieveCfg := none
  cue : Option Nat := none
  deriving DecidableEq, Repr

/-- A bank swap that waits for the first output whose interval starts at or after its sample (R131, R132). -/
structure SieveSwap where
  at_ : Nat
  bank : Bool
  cue : Option Nat := none
  deriving DecidableEq, Repr

/-- An output (R130 to R133): its number, value, marks, whether a clamp acted on it, and what its record states. -/
structure SieveOut where
  dwell : Dwell
  reset : Nat
  k : Nat
  re : Int
  im : Int
  settling : Bool
  firstFine : Bool
  overflow : Bool
  clamped : Bool := false
  flaggedIn : Nat
  bank : Bool
  cfg : SieveCfg
  decim : Nat
  deriving DecidableEq, Repr

/-- What a sieve still has to take before a reset that was first met on another channel (R134): the samples before `stop`, on
its former channel, under the configuration and the running state it had. -/
structure SievePrev where
  stop : Nat
  cfg : SieveCfg
  resetAt : Nat
  n : Nat
  hist : List (Int × Int)
  flagged : Nat
  fine : Bool
  bank : Bool
  deriving DecidableEq, Repr

/-- A sieve: configuration, banks, what waits, and its running state since the reset sample. -/
structure Sieve where
  cfg : SieveCfg := {}
  /-- A RIDDLE_CFG has been accepted (R371: the first one resets). -/
  known : Bool := false
  bankA : SieveBank := {}
  bankB : SieveBank := {}
  bank : Bool := false
  pend : List SievePend := []
  swaps : List SieveSwap := []
  /-- s_r: the last reset sample. -/
  resetAt : Nat := 0
  /-- Input samples since s_r, and the mixed ones of the last 256, newest first. -/
  n : Nat := 0
  hist : List (Int × Int) := []
  /-- Flagged inputs of the interval that has begun. -/
  flagged : Nat := 0
  /-- The first output that is not SETTLING has been formed. -/
  fine : Bool := false
  prev : Option SievePrev := none
  /-- Output intervals completed and not yet formed into outputs, and outputs not yet in a record. -/
  ready : List SieveOut := []
  outs : List SieveOut := []
  /-- An uncorrectable error in the bank in use: outputs are zero until the bank is rewritten (R305). -/
  coefErr : Bool := false
  deriving DecidableEq, Repr

/-- The 64 sieves at reset. -/
def Sieve.all : List Sieve := List.replicate 64 {}

/-! ### The cold frame (R164 to R189) -/

/-- States of a region (R176). -/
inductive RegionState where
  | off | armed | rearm | suspended
  deriving DecidableEq, Repr

/-- States of a sub-region (R176). -/
inductive SubState where
  | free | live | posting | frozen | draining
  deriving DecidableEq, Repr

/-- The configuration of a region (R169); bitmaps as bytes. -/
structure RegionCfg where
  nsub : Nat := 1
  depth : Nat := 3
  chans : List Byte := []
  rawBlocks : List Byte := []
  twoBlocks : List Byte := []
  powBlocks : List Byte := []
  rawBeams : List Byte := []
  twoBeams : List Byte := []
  powBeams : List Byte := []
  inc : Bool := false
  thrIn : Nat := 2
  thrBeam : Nat := 1024
  pre : Nat := 0
  post : Nat := 16
  latMax : Nat := 0
  trigMask : BitVec 26 := 0
  forward : Option Nat := none
  stream : Bool := false
  autoRelease : Bool := false
  deriving DecidableEq, Repr

/-- A frame (R166): the dwell of one channel: the slot's packets and the beams' samples, from which its reductions are
read. -/
structure Frame where
  dwell : Dwell
  pkts : List SlotPkt
  rows : List BeamRow
  deriving DecidableEq, Repr

/-- The ring of one channel in a sub-region: frames oldest first, the start sample, whether it has frozen (R166, R171,
R179). -/
structure ChanRing where
  chan : Nat
  frames : List Frame := []
  start : Option Nat := none
  frozen : Bool := false
  deriving DecidableEq, Repr

/-- A trigger as a region judges it (R172, R180): position, source kind with its line or group, origin, event time. -/
structure Trig where
  sTrig : Nat
  fraction : W32
  kind : Nat
  line : Nat
  device : Nat
  time16 : Int
  deriving DecidableEq, Repr

/-- A capture (R178 to R180, R188). -/
structure Capture where
  id : Nat
  prev : Option Nat
  ver : W64
  trig : Trig
  pre : Nat
  preActual : Nat
  post : Nat
  first : Nat
  kf : Nat
  /-- T of the plan at acceptance. -/
  T : Nat
  postStored : Nat
  streamed : Nat := 0
  clamped : Bool
  shortPre : Bool
  resized : Bool
  tdcFactory : Bool
  listed : List Nat := []
  total : Nat := 0
  deriving DecidableEq, Repr

/-- A drain that runs (R184): to the host, with the number of its packet, or to egress, with the records still to form. -/
structure DrainRun where
  host : Bool
  seq : W32
  left : List (List Byte)
  deriving DecidableEq, Repr

/-- A stream-through that runs (R179): the capture, last sample, records sent, gaps, drops, and channels still to end. -/
structure StreamRun where
  cap : Capture
  sub : Nat
  last : Nat
  sent : Nat := 0
  gaps : Nat := 0
  dropped : Nat := 0
  left : List Nat
  deriving DecidableEq, Repr

/-- A sub-region (R166, R176). -/
structure CapSub where
  state : SubState := .free
  rings : List ChanRing := []
  cap : Option Capture := none
  rebased : Bool := false
  drain : Option DrainRun := none
  /-- Frames of a ring, from when the sub-region became LIVE or was re-based (R166, R181). -/
  depth : Nat := 0
  /-- A drain of its window has completed (R182). -/
  drained : Bool := false
  deriving DecidableEq, Repr

/-- A capture region (R166, R176). -/
structure Region where
  configured : Bool := false
  state : RegionState := .off
  cfg : RegionCfg := {}
  subs : List CapSub := []
  nextId : Nat := 1
  /-- CAPTURE_DISARM waits for the POSTING sub-regions. -/
  disarm : Bool := false
  /-- R181: the depth that takes effect at the next dwell boundary. -/
  newDepth : Option Nat := none
  streams : List StreamRun := []
  /-- Of every capture, newest first: the sample after its extent, and its CAPTURE_ID (R178). -/
  ends : List (Nat × Nat) := []
  deriving DecidableEq, Repr

/-- The 8 regions at reset. -/
def Region.all : List Region := List.replicate 8 {}

/-- An entry of the missed-trigger log (R180). -/
structure MissedTrig where
  region : Nat
  reason : Nat
  trig : Trig
  deriving DecidableEq, Repr

end Sys2Proof.Machine
end

