-- ==== Sys2Proof/Machine/State.lean ====
section
/-! DEFINITION. The state of the DX4 as plain data: every register, table, queue and buffer the spec names, the
outputs it has made (log 6), the counter of free values (log 8) and the queue of waiting commands. -/

namespace Sys2Proof.Machine
open Sys2Proof

/-- Clocks, references and the reset sequencer (spec/01_two_hierarchies.md). -/
structure Clk where
  /-- R386 R387: every die is held in reset: PORST_N low, or a root fault or rail dip not yet recovered. -/
  held : Bool := true
  /-- R386: PORST_N is low. -/
  porst : Bool := true
  /-- R386: the ramp was out of order: the next PORST_N release is awaited (reset: log 2, DESIGN CHOICE). -/
  outOfOrder : Bool := false
  /-- R21: the primary root PLL did not lock within 2 ms, or failed; the twin is in use until the next power cycle (reset: log 2, DESIGN CHOICE). -/
  primaryTried : Bool := false
  /-- R22 GEN_CLK_STATUS[0]: ROOT_LOCK. -/
  rootLock : Bool := false
  /-- R22 GEN_CLK_STATUS[1]: REF_PRESENT. -/
  refPresent : Bool := false
  /-- R20 GEN_CLK_STATUS[2]: HOLDOVER. -/
  holdover : Bool := false
  /-- R21 GEN_CLK_STATUS[3]: TWIN_ACTIVE. -/
  twinActive : Bool := false
  /-- R20 GEN_CLK_STATUS[4]: REF_LOST_SEEN. -/
  refLostSeen : Bool := false
  /-- R21 GEN_CLK_STATUS[5]: ROOT_UNLOCK_SEEN, survives the restart. -/
  rootUnlockSeen : Bool := false
  /-- R21 GEN_CLK_STATUS[6]: RAIL_DIP_SEEN, survives the restart. -/
  railDipSeen : Bool := false
  /-- R22 GEN_CLK_STATUS[7]: AUXREF_LOST_SEEN. -/
  auxrefLostSeen : Bool := false
  /-- R22 GEN_CLK_STATUS[23:8]: HEDGE_PLL_LOCK. -/
  hedgePllLock : BitVec 16 := 0
  /-- R22 GEN_CLK_STATUS[24]: PCIE_PLL_LOCK. -/
  pciePllLock : Bool := false
  /-- R22 GEN_CLK_STATUS[25]: AUXREF_PRESENT. -/
  auxrefPresent : Bool := false
  /-- R19 GEN_CLK_CFG[0]: LANE_REF_SEL. -/
  laneRefSel : Bool := false
  /-- R19: the hedge PLL has been started (off before step LANES). -/
  hedgePllOn : BitVec 16 := 0
  /-- R19: the reference each hedge PLL sampled when it last started from off: 1 = AUXREFCLK (reset: log 2, DESIGN CHOICE). -/
  hedgeRefAux : BitVec 16 := 0
  /-- R22: the PCI Express PLL restarts after a loss of lock (reset: log 2, DESIGN CHOICE). -/
  pcieRestart : Bool := false
  /-- R20 R22: hedge PLLs in holdover (reset: log 2, DESIGN CHOICE). -/
  hedgeHold : BitVec 16 := 0
  /-- R19 PCIE_REFSEL: the PCI Express PLL takes AUXREFCLK (strap sampled at power-up) (reset: log 2, DESIGN CHOICE). -/
  pcieRefAux : Bool := false
  /-- R22: the PCI Express PLL is in holdover (reset: log 2, DESIGN CHOICE). -/
  pcieHold : Bool := false
  deriving DecidableEq, Repr

/-- Bring-up, firmware images, system membership (GEN_BOOT) (spec/14_host_bringup.md). -/
structure Boot where
  /-- R369 GEN_BOOT[3:0]: STEP 0 to 8. -/
  step : Nat := 0
  /-- R378 GEN_BOOT[4]: HISTORY: a valid health record was found. -/
  history : Bool := false
  /-- GEN_BOOT[5] R367: LEARNED. -/
  learned : Bool := false
  /-- R366 GEN_BOOT[6]: BOOT_FAIL. -/
  bootFail : Bool := false
  /-- GEN_BOOT[8]: image running on core 0: false A, true B. -/
  image0 : Bool := false
  /-- GEN_BOOT[9]: image running on core 1. -/
  image1 : Bool := false
  /-- R372 GEN_BOOT[11:10]: 0 idle, 1 running, 2 DONE, 3 FAILED. -/
  fwUpdate : Nat := 0
  /-- R372: step of the running update, 1 to 4; 0 when none runs (reset: log 2, DESIGN CHOICE). -/
  fwStep : Nat := 0
  /-- R372: image X of the running update (reset: log 2, DESIGN CHOICE). -/
  fwImage : Bool := false
  /-- R376 GEN_BOOT[13:12]: 0 alone, 1 joining, 2 member. -/
  system : Nat := 0
  /-- R279 R370: training failed at step DRAM. -/
  trainFail : Bool := false
  /-- R393: after a trip the restart holds at step GROUNDSKEEPER until every sensor is below 90 °C (reset: log 2, DESIGN CHOICE). -/
  thermalHold : Bool := false
  /-- R362 R391: SMB_ADDR[2:0] sampled at the release of PORST_N (reset: log 2, DESIGN CHOICE). -/
  smbAddr : BitVec 3 := 0
  /-- R363: bit 2 of SMBus code 0x12: the always-on domain has restarted since the last read (reset: log 2, DESIGN CHOICE). -/
  aoRestarted : Bool := false
  /-- R369: FRC at the start of step LANES (reset: log 2, DESIGN CHOICE). -/
  lanesAt : Nat := 0
  /-- R369: FRC at the start of step TIME (reset: log 2, DESIGN CHOICE). -/
  timeAt : Nat := 0
  deriving DecidableEq, Repr

/-- Fused values of the seven dies (read only) (spec/13_almanac_and_replay.md). -/
structure Fuses where
  /-- R342: the seven identity entries of 16 bytes (reset: log 3, DESIGN CHOICE). -/
  dies : List DieId := DieId.blankDies
  /-- R11: factory spare map: position of the spare of each bed (reset: log 3, DESIGN CHOICE). -/
  spares : List (BitVec 8) := List.replicate 80 0
  /-- R328: RO_FUSED of each stripe (reset: log 3, DESIGN CHOICE). -/
  roFused : List (BitVec 16) := List.replicate 10 0
  deriving DecidableEq, Repr

/-- The SPI flash on the card (R365) (spec/14_host_bringup.md). -/
structure Flash where
  /-- R365: directory BOOT byte (reset: log 4, DESIGN CHOICE). -/
  boot : BitVec 8 := 0
  /-- R365: directory BOOT_N byte (reset: log 4, DESIGN CHOICE). -/
  bootN : BitVec 8 := 0xFF
  /-- R365: the directory's CRC-32C matches (reset: log 4, DESIGN CHOICE). -/
  dirCrcOk : Bool := true
  /-- R366: Tamzar image A (reset: log 4, DESIGN CHOICE). -/
  imageA : Image := Image.first
  /-- R366: Tamzar image B (reset: log 4, DESIGN CHOICE). -/
  imageB : Image := Image.first
  /-- R367: health copy 0, when valid (reset: log 4, DESIGN CHOICE). -/
  health0 : Option Health := none
  /-- R367: health copy 1, when valid (reset: log 4, DESIGN CHOICE). -/
  health1 : Option Health := none
  /-- R368: board block, when its CRC-32C passes (reset: log 4, DESIGN CHOICE). -/
  board : Option Board := none
  deriving DecidableEq, Repr

/-- The time unit (spec/08_time_and_cues.md). -/
structure Time where
  /-- R192: the FRC counts (the root PLL has locked). -/
  frcOn : Bool := false
  /-- R192: free-running counter, one per 2 ns. -/
  frc : BitVec 64 := 0
  /-- R193 R194: OFFSET in units of 2^-40 ns. -/
  offset : BitVec 104 := 0
  /-- R7 R193: the stored bitwise complement of OFFSET. -/
  offsetN : BitVec 104 := ~~~ 0
  /-- R193 TM_RATE: RATE in units of 2^-40. -/
  rate : BitVec 32 := 0
  /-- R7 R193 TM_RATE: the stored bitwise complement of RATE. -/
  rateN : BitVec 32 := ~~~ 0
  /-- R193: DRIFT in units of 2^-40 ns. -/
  drift : BitVec 104 := 0
  /-- R201: the servo's frequency estimate without its phase term (reset: log 2, DESIGN CHOICE). -/
  freqEst : BitVec 32 := 0
  /-- R201 TM_STATUS[2:0]: state of the time unit. -/
  state : TimeState := TimeState.unset
  /-- R201 TM_STATUS[3]: SYNCED. -/
  synced : Bool := false
  /-- R207 TM_STATUS[4]: EPOCH_SET. -/
  epochSet : Bool := false
  /-- R195 TM_STATUS[6:5]: current source: 0 none, 1 PTP, 2 MESH, 3 HOST. -/
  source : Nat := 0
  /-- R203 TM_STATUS[7]: RATE_AT_LIMIT. -/
  rateAtLimit : Bool := false
  /-- R204 TM_STATUS[8]: JUMP_REFUSED_SEEN. -/
  jumpRefusedSeen : Bool := false
  /-- R206 TM_STATUS[9]: STEPPED_SEEN. -/
  steppedSeen : Bool := false
  /-- R199 TM_STATUS[10]: SYNC_EDGE_SEEN. -/
  syncEdgeSeen : Bool := false
  /-- R216 TM_STATUS[31:16]: e of the last measurement in 2^-16 ns. -/
  lastErr : Int := 0
  /-- R201: consecutive accepted measurements within LOCK_THR since the step. -/
  goodRun : Nat := 0
  /-- R201: FRC of the last accepted measurement (reset: log 2, DESIGN CHOICE). -/
  lastAccepted : Nat := 0
  /-- R205: a TIME_STEP MODE SOURCE waits for the next measurement. -/
  stepNext : Bool := false
  /-- R195: SOURCES in priority order (default of a caller in a system of one: PTP, HOST). -/
  sources : List Nat := [1, 3]
  /-- R195: TIME_SOURCE has named SOURCES: they no longer follow the device's role. -/
  sourcesSet : Bool := false
  /-- R195: PTP_LANES. -/
  ptpLanes : List Nat := []
  /-- R195: DOMAIN. -/
  domain : Nat := 0
  /-- R195: ASYMMETRY per PTP port, 2^-16 ns. -/
  asymmetry : List Int := []
  /-- R195: SERVO_TAU in ms. -/
  servoTau : Nat := 4000
  /-- R195: LOCK_THR in ns. -/
  lockThr : Nat := 100
  /-- R195: HOLD_LIMIT in s. -/
  holdLimit : Nat := 60
  /-- R195: SEGMENT_ALIGN. -/
  segAlign : Bool := true
  /-- R195: HOST is silent (from power-up until its first accepted TIME_MEASURE). -/
  hostSilent : Bool := true
  /-- R200: FRC of the TIME_MEASURE accepted within the last second. -/
  hostTimes : List Nat := []
  /-- R195: MESH is silent. -/
  meshSilent : Bool := true
  /-- R195: FRC of the last completed mesh exchange (reset: log 2, DESIGN CHOICE). -/
  meshLast : Nat := 0
  /-- R202: the link's asymmetry correction, 2^-16 ns. -/
  meshAsym : Int := 0
  /-- R202: the segment alignment step has been taken. -/
  aligned : Bool := false
  /-- R196: foreign masters heard, with their qualification. -/
  masters : List PtpMaster := []
  /-- R196: the master the BMCA chose. -/
  ptpMaster : Option PtpId := none
  /-- R197: Delay_Req exchanges of each PTP port: the latest complete one, and one whose response is due. -/
  ptpExch : List PtpExch := []
  /-- R196 R344: currentUtcOffset, reported and never applied (reset: log 2, DESIGN CHOICE). -/
  utcOffset : BitVec 16 := 0
  /-- R344: UTC_VALID (reset: log 2, DESIGN CHOICE). -/
  utcValid : Bool := false
  /-- R207: EPOCH_TIME in 2^-16 ns (reset: log 2, DESIGN CHOICE). -/
  epochTime : Int := 0
  /-- R207: P_NUM (reset: log 2, DESIGN CHOICE). -/
  pNum : Nat := 1
  /-- R207: P_DEN (reset: log 2, DESIGN CHOICE). -/
  pDen : Nat := 1
  /-- R216 TM_JUMP_THR: effective jump threshold, ns. -/
  jumpThr : BitVec 32 := 0x3E8
  /-- R194 TM_NOW_MID, TM_NOW_FRAC, TM_FRC_LO, TM_FRC_HI: latch of the BAR0 path. -/
  nowLatch : TimeLatch := {}
  /-- R194: latch of the SMBus path. -/
  nowLatchSmb : TimeLatch := {}
  /-- R199 TM_SYNC_FRC: FRC of the last counted SYNC edge. -/
  syncFrc : BitVec 64 := 0
  /-- R202: FRC of the SYNC edge counted before it (reset: log 2, DESIGN CHOICE). -/
  prevSyncFrc : BitVec 64 := 0
  /-- R202: SYNC edges counted: 0, 1, or 2 for more. -/
  syncEdges : Nat := 0
  /-- R260: number of the last mesh time exchange (reset: log 2, DESIGN CHOICE). -/
  exch : BitVec 32 := 0
  /-- R260: t3 of that exchange, 2^-16 ns (reset: log 2, DESIGN CHOICE). -/
  exchT3 : Int := 0
  /-- R260: FRC at which its request left (reset: log 2, DESIGN CHOICE). -/
  exchFrc : Nat := 0
  deriving DecidableEq, Repr

/-- The cue table and the hardware schedule (spec/08_time_and_cues.md). -/
structure CueTab where
  /-- R212: entries in use, in order of acceptance, at most 512. -/
  entries : List CueEntry := []
  /-- R213: cues passed to the hardware schedule and not yet run. -/
  hw : List CueEntry := []
  /-- R214: cues that have run or left: SYSTEM and number. -/
  done : List (Bool × BitVec 32) := []
  /-- R212 R213: place in the order of acceptance of the next cue (reset: log 7). -/
  nextId : Nat := 0
  /-- R212 R232: the packet of each cue held, as its RECEIVE record holds it (reset: log 7). -/
  packets : List (Nat × BitVec 16 × KcpIn) := []
  /-- R215: on the caller: outcome per device of each system cue. -/
  system : List SysCue := []
  /-- R216 TM_CUE_STATUS[10]: FULL_SEEN. -/
  fullSeen : Bool := false
  /-- R206: pending TIME cues whose EXEC_AT a step has put in the past. -/
  stepped : List Nat := []
  deriving DecidableEq, Repr

/-- Command rings and the exactly-once record (spec/09_kapex_commands.md). -/
structure Kcp where
  /-- R224 KCP_URG_*: Urgent ring. -/
  urg : Ring := Ring.host
  /-- R224 KCP_NRM_*: Normal ring. -/
  nrm : Ring := Ring.host
  /-- R224 KCP_BLK_*: Bulk ring. -/
  blk : Ring := Ring.host
  /-- R224 KCP_GKR_*: Groundskeeper ring. -/
  gkr : Ring := Ring.gk
  /-- R231: host series. -/
  host : Series := {}
  /-- R231: groundskeeper series. -/
  gk : Series := {}
  /-- R231 R236: system series. -/
  sys : Series := {}
  /-- R226 R333: take index of the last packet taken (reset: log 2, DESIGN CHOICE). -/
  take : BitVec 32 := 0
  /-- R226: the alternation of Normal and Bulk: Bulk is next (reset: log 2, DESIGN CHOICE). -/
  bulkNext : Bool := false
  /-- R226: relayed KCPs not yet taken. -/
  meshWaiting : List (Nat × BitVec 16 × KcpIn) := []
  /-- R236 R238: on the caller: packets relayed whose targets' replies are still to come. -/
  relayed : List Relay := []
  /-- R225: the groundskeeper reply window and writeback of BAR2, by offset from 0x4_1000; canonical, an unlisted byte reads zero (reset: log 2, DESIGN CHOICE). -/
  gkWindow : List Host.Cell := []
  /-- R363: a command is executing on the groundskeeper. -/
  executing : Bool := false
  deriving DecidableEq, Repr

/-- The SMBus port (spec/14_host_bringup.md). -/
structure Smb where
  /-- R363: OFFSET of the next access (reset: log 2, DESIGN CHOICE). -/
  offset : BitVec 16 := 0
  /-- R363: unread replies held for SMBus, at most 4. -/
  replies : List Reply := []
  /-- R363: bytes of the oldest unread reply already read (reset: log 2, DESIGN CHOICE). -/
  readPos : Nat := 0
  /-- R363: bytes the last SMBus read returned (reset: log 6). -/
  lastRead : List Byte := []
  /-- R363: the last write of code 0x10 was not acknowledged (reset: log 6). -/
  nack : Bool := false
  deriving DecidableEq, Repr

/-- Complement-pair registers (spec/00_scope.md). -/
structure Rwc where
  /-- R6: pending holder of the BAR0 path. -/
  bar0 : Option (BitVec 16 × BitVec 32) := none
  /-- R6: pending holder of the SMBus path. -/
  smbus : Option (BitVec 16 × BitVec 32) := none
  deriving DecidableEq, Repr

/-- PCI Express, MSI-X, BAR4 and what leaves towards the host (spec/14_host_bringup.md). -/
structure Pcie where
  /-- R369: the endpoint answers configuration requests. -/
  up : Bool := false
  /-- R358: PCIE_PERST_N is low. -/
  perst : Bool := true
  /-- R358: Bus Master Enable (reset: log 2, DESIGN CHOICE). -/
  busMaster : Bool := false
  /-- R358: the function is in D3hot. -/
  d3 : Bool := false
  /-- R358: vectors held pending. -/
  heldVectors : List Nat := []
  /-- R361: MSI-X messages sent, newest last (reset: log 6). -/
  vectors : List Nat := []
  /-- R359: MSI-X table of 64 entries of 16 bytes (reset: log 31, PRESUMED, PCI Express). -/
  msixTable : List (BitVec 32) := msixBlank
  /-- R361 GEN_EVENT: GEN_EVENT. -/
  event : BitVec 15 := 0
  /-- R361 GEN_EVENT_EN: GEN_EVENT_EN. -/
  eventEn : BitVec 15 := 0
  /-- R357 GEN_APERTURE: BASE. -/
  aperture : BitVec 7 := 0
  /-- R239 R241: DMA transfers in progress or waiting. -/
  transfers : List Transfer := []
  /-- R358: DMA writes held while DMA is stopped. -/
  heldWrites : List (Nat × List Byte) := []
  /-- R239: DMA writes made to host memory (address, bytes), newest last (reset: log 6). -/
  dmaOut : List (Nat × List Byte) := []
  /-- R357: bytes the last BAR read returned (reset: log 6). -/
  lastRead : List Byte := []
  /-- R22: the PCI Express link retrains after its PLL lost lock (reset: log 2, DESIGN CHOICE). -/
  retraining : Bool := false
  /-- R283: the last BAR4 read completed poisoned (EP set) (reset: log 6). -/
  lastPoisoned : Bool := false
  /-- R324: SAFE_STOP has stopped PCI Express DMA. -/
  dmaStopped : Bool := false
  deriving DecidableEq, Repr

/-- The Espalier's state (spec/06_espalier_placement.md). -/
structure PlanState where
  /-- R154 R159: the active plan. -/
  active : Option Plan := none
  /-- R157: the pending plan. -/
  pendingPlan : Option Plan := none
  /-- R155: the follower published with an interim plan. -/
  follower : Option Plan := none
  /-- R159: the last plan checked, refused or withdrawn. -/
  last : Option (Plan × PlanOutcome) := none
  /-- R138: the saved request (the last one accepted). -/
  request : Option Request := none
  /-- R150 GEN_PLAN_STATUS[14]: the plan being computed. -/
  computing : Option Job := none
  /-- R142: SERIAL of the last plan version of this planner. -/
  serial : BitVec 32 := 0
  /-- GEN_PLAN_STATUS[4]: REFUSED. -/
  refused : Bool := false
  /-- R150 GEN_PLAN_STATUS[12:5]: REASON. -/
  reason : Nat := 0
  /-- R158 GEN_PLAN_STATUS[1:0]: a flush under R158 runs. -/
  flushing : Bool := false
  /-- R144 GEN_PLAN_STATUS[31:16]: MAP_GEN. -/
  mapGen : BitVec 16 := 0
  /-- R155 GEN_PLAN_UNCORRELATED: dwells left uncorrelated. -/
  uncorrelated : BitVec 32 := 0
  /-- R155: a stripe is lost and the interim plan has not switched: the X array correlates nothing. -/
  stopCorr : Bool := false
  /-- R154: FRC at which the pending plan was published (reset: log 2, DESIGN CHOICE). -/
  publishAt : Nat := 0
  /-- R154: dwell boundaries since the pending plan became ready (reset: log 2, DESIGN CHOICE). -/
  dwellsSince : Nat := 0
  /-- R152 R367: SELFTEST_SECONDS: seconds of active-plan time under a provisional plan. -/
  activeSecs : Nat := 0
  /-- R376: PLAN_PUBLISH pages received. -/
  pages : List PlanPage := []
  /-- R317: pages of the system state received. -/
  sysState : List PlanPage := []
  /-- R154: former plans that dwells in the pipeline still name, newest first. -/
  old : List Plan := []
  /-- R163: while PARTITIONED: CAUSE of the interim plan whose follower waits for the caller. -/
  followerWaits : Option Nat := none
  /-- R34: switches that F-engines saw since the first plan: switch sample and the plan version in force below it, newest first. -/
  before : List (Nat × W64) := []
  /-- R274: FRC since which all channels have been in the normal regime. -/
  coolAt : Option Nat := none
  /-- R153 R170: the hot cold-frame budget applies. -/
  derated : Bool := false
  deriving DecidableEq, Repr

/-- Ingest and the seedbed (spec/02_sample_ingest.md). -/
structure Ingest where
  /-- R47: seedbed slot 0. -/
  slot0 : Slot := {}
  /-- R47: seedbed slot 1. -/
  slot1 : Slot := {}
  /-- R47: seedbed slot 2. -/
  slot2 : Slot := {}
  /-- R49: the ingest bay, in arrival order, at most 1,024 packets. -/
  bay : List BayPkt := []
  /-- R44 R45: the ingest has opened. -/
  opened : Bool := false
  /-- R44: the dwell the arriving slot expects. -/
  expected : Option Dwell := none
  /-- R42: stream tables of the lanes, at most 8 entries a lane, in the order first seen. -/
  streams : List Stream := []
  /-- R52: routed streams (lane, SOURCE_ID) that are quiet. -/
  quiet : List StreamId := []
  /-- R46: consecutive packets discarded as LATE. -/
  lateRun : Nat := 0
  /-- LN_SEEDBED_STATUS[10]: INGEST_BEHIND. -/
  ingestBehind : Bool := false
  /-- R49 LN_SEEDBED_STATUS[11]: LATE_RELEASE_WAIT. -/
  lateReleaseWait : Bool := false
  /-- R57 LN_INGEST_CFG: LN_INGEST_CFG as written: CLOSE_GRACE 0x08, CLOSE_STALL 0x014, LAST_CLOSE_EN 1. -/
  cfg : BitVec 32 := 0x41408
  /-- R57: the close rules in force for the arriving slot. -/
  cfgUsed : BitVec 32 := 0x41408
  deriving DecidableEq, Repr

/-- The X array (spec/03_correlation_cells.md). -/
structure XArray where
  /-- R24 XA_STATUS[0]: the dwell being computed. -/
  computing : Option Dwell := none
  /-- R48: slot of the dwell being computed (reset: log 2, DESIGN CHOICE). -/
  computingSlot : Nat := 0
  /-- R71 XA_STATUS[1]: slot-file bank used for compute. -/
  bank : Bool := false
  /-- R71: bank 0 of every cell's slot file: the pieces held (all zero otherwise). -/
  slots0 : List PieceSum := []
  /-- R71: bank 1. -/
  slots1 : List PieceSum := []
  /-- R74 XA_STATUS[2]: the dwell whose bank drains. -/
  drain : Option Drain := none
  /-- R76 R111: a boundary waits for a drain or for the B array. -/
  boundaryHeld : Bool := false
  /-- R28 R75: the staging halves: one entry per dwell drained and not committed. -/
  staging : List Staged := []
  /-- R80: the shadow check each bed's spare runs in this dwell. -/
  shadow : List Shadow := []
  /-- R81: tie-breaks running or waiting. -/
  tieBreaks : List TieBreak := []
  /-- R81: cells that withhold their drain. -/
  withheld : List Nat := []
  /-- R83 R301: recomputations under way or waiting, in the order decided. -/
  replays : List Replay := []
  /-- R82: faulted cells still in the cell map. -/
  faulted : List Nat := []
  /-- R70: the Loam's region of cell routines: those of the current plan and of the next. -/
  loamRoutines : List PlanRoutines := []
  /-- R70: the routine register file each cell runs from. -/
  routines : List CellRoutine := []
  /-- R70: the second register file of each cell: the routine loaded for the next plan. -/
  nextRoutines : List CellRoutine := []
  /-- R67: X-mem of every cell: which block's sub-dwell each buffer holds. -/
  xMem : List OperandBuf := []
  /-- R67: Y-mem of every cell. -/
  yMem : List OperandBuf := []
  /-- R70: cells whose next routine failed its check. -/
  routineBad : List Nat := []
  /-- R210: the highest sweep of which a dwell has started compute. -/
  startedSweep : Option Nat := none
  /-- R84 XA_DWELL_COUNT: dwells computed since reset. -/
  dwellCount : BitVec 32 := 0
  /-- R24: FRC of the boundary at which the dwell being computed started (reset: log 2, DESIGN CHOICE). -/
  computeAt : Nat := 0
  /-- R155: the dwell being computed is uncorrelated. -/
  uncorr : Bool := false
  /-- R303: slot-file rows whose entries needed correction, with the FRC. -/
  rowCorr : List RowCorr := []
  /-- R303 R71: slot-file rows replaced: cell, bank, row. -/
  rowsSpared : List (Nat × Bool × Nat) := []
  /-- R24: the dwell computed or being computed last. -/
  lastStarted : Option Dwell := none
  deriving DecidableEq, Repr

/-- The RMW engine, integrations and harvest (spec/04_integration_and_harvest.md). -/
structure Rmw where
  /-- R90 R102: integrations run, or wait for the plan's first dwell. -/
  running : Bool := false
  /-- R90 R102 R103: the parameters of the integrations begun since the last INTEG_START or plan start: start sweep s0, L, output width, SHIFT_AUTO, SHIFT_CROSS, oldest first; the last is in force. -/
  eras : List Era := []
  /-- R90 R102: the parameters that wait for the next INTEG_START. -/
  nextCfg : Option IntegCfg := none
  /-- R102: sweep at or after which an accepted INTEG_START begins, once the flush ends. -/
  startAt : Option Nat := none
  /-- R102: sweep boundary at which integrations end. -/
  stopAt : Option Nat := none
  /-- R89: channel descriptors of the local channels. -/
  desc : List ChanDesc := []
  /-- R94 MC_RMW_STATUS[1:0]: the pass that runs. -/
  pass : Option Pass := none
  /-- R102 MC_RMW_STATUS[2]: local channels whose flush pass is still to run. -/
  flushLeft : List Nat := []
  /-- R102 R158: the plan whose layout the flush passes run over. -/
  flushPlan : Option Plan := none
  /-- R102: how far the flush pass of the first channel of flushLeft has come. -/
  flush : FlushRun := {}
  /-- R101 R108: the dwell whose pass a full harvest queue has stalled, once counted (reset: log 2, DESIGN CHOICE). -/
  stallDwell : Option Dwell := none
  /-- MC_RMW_STATUS[3]: COMMIT_LATE. -/
  commitLate : Bool := false
  /-- MC_RMW_STATUS[4]: SUM_LOST_SEEN. -/
  sumLostSeen : Bool := false
  /-- R26 MC_RMW_PACE: PACE in 0.1 GB/s. -/
  pace : BitVec 16 := 0
  /-- MC_RMW_STATUS[31:16]: local channel of the current pass. -/
  chan : Nat := 0
  deriving DecidableEq, Repr

/-- The B array (spec/05_beams_and_riddle.md). -/
structure Beams where
  /-- R110 R112 R113: the beam tables in effect for the newest sweep whose weights have begun. -/
  tab : BeamTables := {}
  /-- R114 R115: the tables as written; in effect from the first sweep of which no weight computation has begun. -/
  next : BeamTables := {}
  /-- R120 R124: swaps scheduled, running or deferred, in order of their start. -/
  swaps : List Swap := []
  /-- R119: the half of the weight store in use. -/
  weights : WeightHalf := {}
  /-- R119: the other half. -/
  idle : WeightHalf := {}
  /-- BF_STATUS[1]: half in use. -/
  weightBuf : Bool := false
  /-- BF_STATUS[0]: the dwell being formed. -/
  forming : Option Dwell := none
  /-- R109: slot of the dwell being formed (reset: log 2, DESIGN CHOICE). -/
  formingSlot : Nat := 0
  /-- R127: groups of four sub-dwells formed in it. -/
  group : Nat := 0
  /-- R115: first sample of the first sweep of which no dwell has begun weight computation. -/
  weightEnd : Nat := 0
  /-- R119: beams whose tables an uncorrectable error has struck, for the weights formed next. -/
  tableErr : List Nat := []
  /-- R112 R115: gains that a write in this sweep has replaced in the backing store: they act until the next sweep. -/
  gainHold : List GainEntry := []
  /-- R112: the gain working set in the Loam: banks A and B of the current and the next channel. -/
  gainWork : List GainRows := []
  /-- R128 R164: 16+16 requantised samples of the dwell being formed. -/
  rows : List BeamRow := []
  deriving DecidableEq, Repr

/-- The riddle (spec/05_beams_and_riddle.md). -/
structure Riddle where
  /-- R128: the 64 sieves. -/
  sieves : List Sieve := Sieve.all
  /-- RDL_STATUS[1]: SYNC_SEEN. -/
  syncSeen : Bool := false
  deriving DecidableEq, Repr

/-- The cold frame (spec/07_cold_frame_capture.md). -/
structure ColdFrame where
  /-- R166: the 8 capture regions. -/
  regions : List Region := Region.all
  /-- R180 CF_MISSED_FILL: missed-trigger log, at most 64 entries. -/
  missed : List MissedTrig := []
  /-- CF_STATUS[3]: LOST_FROZEN_SEEN. -/
  lostFrozenSeen : Bool := false
  /-- R190 CF_EDGE_CFG: TDC_EDGE and TRIG_EDGE. -/
  edgeCfg : BitVec 18 := 0
  /-- R190: the selection in force before the writes still listed. -/
  edgeUsed : BitVec 18 := 0
  /-- R190: writes of CF_EDGE_CFG that an edge still to come may precede: FRC and selection, oldest first. -/
  edgePend : List (Nat × BitVec 18) := []
  /-- R173 CF_TDC_STATUS[0]: CAL_DONE. -/
  calDone : Bool := false
  /-- R173 CF_TDC_STATUS[1]: ACTIVE_CH. -/
  activeCh : Bool := false
  /-- R173 CF_TDC_STATUS[2]: CH_FAULT. -/
  chFault : Bool := false
  /-- R173 CF_TDC_STATUS[31:16]: FRC of the last calibration (CAL_AGE 0xFFFF at reset). -/
  calAt : Option Nat := none
  /-- R173: time of the previous counted TDC edge, 1/512 TCLK. -/
  lastTdc : Option Nat := none
  /-- R174: counted levels of TRIG[7:0] (reset: log 2, DESIGN CHOICE). -/
  trigLevel : BitVec 8 := 0
  deriving DecidableEq, Repr

/-- Lanes and hedges (spec/10_lanes_and_fjotranu.md). -/
structure Lanes where
  /-- R244 R246 R249 R269: the 128 lanes. -/
  lane : List Lane := Lane.all
  /-- LN_STATUS[0]: LOCK_LOSS_SEEN. -/
  lockLossSeen : Bool := false
  /-- LN_STATUS[1]: LOST_SEEN. -/
  lostSeen : Bool := false
  /-- LN_STATUS[2]: DEGRADED_SEEN. -/
  degradedSeen : Bool := false
  /-- LN_STATUS[3]: BEAM_DROP_SEEN. -/
  beamDropSeen : Bool := false
  /-- LN_STATUS[4]: NO_DEST_SEEN. -/
  noDestSeen : Bool := false
  /-- R264: BEAM queue, 2 MiB. -/
  qBeam : List EgRec := []
  /-- R264: STREAM queue, 2 MiB. -/
  qStream : List EgRec := []
  /-- R101 R264: HARVEST queue, 4 MiB. -/
  qHarvest : List EgRec := []
  /-- R264: DRAIN queue, 2 MiB. -/
  qDrain : List EgRec := []
  /-- R263: egress frames sent (lane, bytes), newest last (reset: log 6). -/
  sent : List (Nat × List Byte) := []
  deriving DecidableEq, Repr

/-- The mesh and the system roles (spec/10_lanes_and_fjotranu.md). -/
structure Mesh where
  /-- R14 R15: system index. -/
  index : BitVec 10 := 0
  /-- R14: segment (reset: log 2, DESIGN CHOICE). -/
  segment : Nat := 0
  /-- R15 SUP_SYS_STATUS[0]: the device carries the caller lease (set at step GROUNDSKEEPER: a system of one is its own caller). -/
  caller : Bool := false
  /-- SUP_SYS_STATUS[1]: the device is the standby caller. -/
  standbyCaller : Bool := false
  /-- R15 SUP_SYS_STATUS[2]: the device leads its segment (set at step GROUNDSKEEPER). -/
  lead : Bool := false
  /-- R321 SUP_SYS_STATUS[3]: PARTITIONED. -/
  partitioned : Bool := false
  /-- SUP_SYS_STATUS[4]: PARTITION_SEEN. -/
  partitionSeen : Bool := false
  /-- R317 SUP_SYS_STATUS[13:8]: voter list. -/
  voters : List Voter := []
  /-- R318 SUP_CALLER_LEASE: caller lease word held. -/
  lease : BitVec 32 := 0
  /-- R7 SUP_CALLER_LEASE+4: stored complement of the caller lease word. -/
  leaseN : BitVec 32 := 0xFFFFFFFF
  /-- R318: FRC of the last heartbeat that carried it with a matching complement (reset: log 2, DESIGN CHOICE). -/
  leaseAt : Nat := 0
  /-- R259 R319: heartbeats heard: device, last FRC, birth identity. -/
  heard : List Heard := []
  /-- R320: FRC of the first claiming heartbeat. -/
  claiming : Option Nat := none
  /-- R320: FRC at which the backoff ends. -/
  backoff : Option Nat := none
  /-- R319: the caller carries the lease while its half qualifies. -/
  carrying : Bool := true
  /-- R256: route table: destination, lane. -/
  routes : List (Nat × Nat) := []
  /-- R252: next FSEQ per TYPE (reset: log 2, DESIGN CHOICE). -/
  fseq : List (Nat × Nat) := []
  /-- R256: FSEQ values seen, at most 64 for each SRC and TYPE. -/
  seen : List FloodSeen := []
  /-- R257: mesh and link frames sent, newest last (reset: log 6). -/
  tx : List MeshFrame := []
  /-- R257: frames that wait at mesh outputs, in arrival order. -/
  waiting : List MeshFrame := []
  /-- R344 R346: SYSTEM records held by the caller. -/
  system : List SysRec := []
  /-- R163 R321: devices the caller has declared lost. -/
  lost : List Nat := []
  /-- R376: joiners heard with no index. -/
  unknown : List UnknownDev := []
  /-- R374 R376: FRC at which SYSTEM_JOIN was accepted (reset: log 2, DESIGN CHOICE). -/
  joinAt : Nat := 0
  /-- R375: listening as a founder. -/
  founding : Bool := false
  /-- R375: FRC at which the device founded its system. -/
  foundedAt : Option Nat := none
  /-- R377: sweep at which SYSTEM_LEAVE acts. -/
  leaveAt : Option Nat := none
  /-- R198: the time parent reports NOT_SYNCED. -/
  notSyncedLead : Bool := false
  /-- R320: the standby caller that this caller has appointed; 0x3FF for none (reset: log 2, DESIGN CHOICE). -/
  standbyIndex : Nat := 0x3FF
  /-- R259: FRC at which the last heartbeat left (reset: log 2, DESIGN CHOICE). -/
  hbAt : Nat := 0
  /-- R346: FRC at which the last survey frames left (reset: log 2, DESIGN CHOICE). -/
  surveySentAt : Nat := 0
  deriving DecidableEq, Repr

/-- The memory controllers and the DRAM (spec/11_memory_and_trellis.md). -/
structure Mem where
  /-- R271 R279: DRAM contents, canonical; an unlisted byte reads zero (initialisation writes zeros). -/
  dram : List Host.Cell := []
  /-- R283: unit addresses that are poisoned. -/
  poison : List Nat := []
  /-- R280: channels that an accepted MEM_TRAIN named and that still train. -/
  training : BitVec 16 := 0
  /-- R271 R289: the 16 channels. -/
  chan : List MemChan := MemChan.all
  /-- MC_EVENT[0]: UE_SEEN. -/
  ueSeen : Bool := false
  /-- MC_EVENT[1]: REMAP_SEEN. -/
  remapSeen : Bool := false
  /-- MC_EVENT[2]: NO_SPARE_SEEN. -/
  noSpareSeen : Bool := false
  /-- MC_EVENT[3]: OVERTEMP_SEEN. -/
  overtempSeen : Bool := false
  /-- MC_EVENT[4]: HOT_SEEN. -/
  hotSeen : Bool := false
  /-- MC_EVENT[5]: TRAIN_FAIL. -/
  trainFail : Bool := false
  /-- R284 MC_SCRUB_STATUS[31:8]: PASSES. -/
  scrubPasses : BitVec 24 := 0
  /-- R324: DRAM in self-refresh. -/
  selfRefresh : Bool := false
  deriving DecidableEq, Repr

/-- The Trellis (spec/11_memory_and_trellis.md). -/
structure Trellis where
  /-- R292: the reel of each of the 16 DRAM ports (reset: log 2, DESIGN CHOICE). -/
  reels : List Reel := Reel.all
  /-- R291: number of the next DMA's requests at the DRAM ports (the model's own) (reset: log 2, DESIGN CHOICE). -/
  nextXfer : Nat := 1
  /-- TL_STATUS[8]: ABORTED_SEEN. -/
  abortedSeen : Bool := false
  /-- TL_STATUS[9]: ADDR_DENIED_SEEN. -/
  deniedSeen : Bool := false
  /-- TL_STATUS[10]: BRIDGE_ERR_SEEN. -/
  bridgeErrSeen : Bool := false
  /-- TL_WEIGHT: weights of the reel. -/
  weight : BitVec 32 := 0x12241448
  /-- R293: ABORTED_BURST reports that wait for their master's return from reset. -/
  aborted : List Abort := []
  deriving DecidableEq, Repr

/-- Cells, beds, stripes and Loam banks (spec/12_spares_and_failover.md). -/
structure Cells where
  /-- R11 R300: position of each bed's spare, 0xFF when it has none (reset: log 3, DESIGN CHOICE). -/
  spareMap : List (BitVec 8) := List.replicate 80 0
  /-- R7 R300: the stored complement of the spare map (reset: log 3, DESIGN CHOICE). -/
  spareMapN : List (BitVec 8) := List.replicate 80 0xFF
  /-- R299: retired cells. -/
  retired : List Nat := []
  /-- R298: grafts that wait for their boundary. -/
  grafts : List GraftJob := []
  /-- R302: next stripe of a running rotation. -/
  rotDue : Option Nat := none
  /-- PW_STRIPE_STATUS[9:0]: POWERED. -/
  powered : BitVec 10 := 0
  /-- PW_STRIPE_STATUS[19:10]: SPARE_PHASE_IN. -/
  sparePhaseIn : BitVec 10 := 0
  /-- PW_STRIPE_STATUS[29:20]: LOST. -/
  stripeLost : BitVec 10 := 0
  /-- R306 R344: phase faults of each stripe. -/
  phaseFaults : List Nat := List.replicate 10 0
  /-- R307: stripes powered up whose cells are under test. -/
  stripeTest : List Nat := []
  /-- R307: stripes to switch off: stripe, sweep of the point once it has come, and the cue that waits. -/
  stripeOff : List StripeOff := []
  /-- R84 R344: per-cell counts of the survey. -/
  cellStats : List CellStat := []
  /-- GEN_LOAM_STATUS[15:0]: SPARE_USED. -/
  loamSpareUsed : BitVec 16 := 0
  /-- GEN_LOAM_STATUS[16]: LOAM_NO_SPARE_SEEN. -/
  loamNoSpareSeen : Bool := false
  /-- R304: bank copies under way: group, bank. -/
  loamCopy : List (Nat × Nat) := []
  /-- R304: banks replaced: group, bank. -/
  loamRemap : List (Nat × Nat) := []
  /-- R7 R304: the stored complement of each remap entry, byte by byte. -/
  loamRemapN : List (Nat × Nat) := []
  /-- R304: corrected words of the last hour: bank, word, FRC. -/
  loamCorr : List (Nat × Nat × Nat) := []
  /-- SUP_STATUS[25:16]: STEWARD_FAULT. -/
  stewardFault : BitVec 10 := 0
  /-- R308: FRC of each steward's last status word (reset: log 2, DESIGN CHOICE). -/
  stewardAt : List Nat := List.replicate 10 0
  /-- R326 R327: margin steps of each stripe. -/
  margin : List Nat := List.replicate 10 0
  /-- R327: margin steps that wait for the next dwell boundary. -/
  marginNext : List (Nat × Nat) := []
  /-- R326: DX2-compatible mode (reset: log 2, DESIGN CHOICE). -/
  marginMode : Bool := false
  /-- R326: MARGIN_EXHAUSTED of each stripe. -/
  marginExhausted : BitVec 10 := 0
  /-- R328: the readings of each stripe (reset: log 2, DESIGN CHOICE). -/
  stripeRead : List StripeRead := StripeRead.all
  deriving DecidableEq, Repr

/-- The supervisor pair (spec/12_spares_and_failover.md). -/
structure Sup where
  /-- R311 SUP_STATUS[2:0]: state of core 0. -/
  core0 : CoreState := CoreState.off
  /-- R311 SUP_STATUS[5:3]: state of core 1. -/
  core1 : CoreState := CoreState.off
  /-- R310 SUP_LEASE: lease word: HOLDER, HELD, TERM. -/
  lease : BitVec 32 := 0
  /-- R7 R310 SUP_LEASE+4: stored complement of the lease word. -/
  leaseN : BitVec 32 := 0xFFFFFFFF
  /-- R310: FRC of the last renewal (reset: log 2, DESIGN CHOICE). -/
  renewedAt : Nat := 0
  /-- R312 R316: FRC at which the lease last lapsed (reset: log 2, DESIGN CHOICE). -/
  lapsedAt : Nat := 0
  /-- R314 SUP_STATUS[8]: PREFERRED_RETIRED. -/
  preferredRetired : Bool := false
  /-- SUP_STATUS[9]: FAILOVER_SEEN. -/
  failoverSeen : Bool := false
  /-- SUP_STATUS[10]: NO_HOLDER_SEEN. -/
  noHolderSeen : Bool := false
  /-- SUP_CFG: PREFERRED 0, REVERT_EN 1. -/
  cfg : BitVec 2 := 2
  /-- R314: FRC of fail-overs away from the preferred core in the last 24 h. -/
  failovers : List Nat := []
  /-- R314: FRC since which the preferred core has been in STANDBY (reset: log 2, DESIGN CHOICE). -/
  standbyAt : Nat := 0
  /-- R313: consecutive failed cycles of core 0. -/
  selfFails0 : Nat := 0
  /-- R313: consecutive failed cycles of core 1. -/
  selfFails1 : Nat := 0
  /-- R316: 0 none, 1 the last holder has been reset and 500 ms run. -/
  noHolderStep : Nat := 0
  /-- R242 0x8001: REVERT_HOLD in s. -/
  revertHold : Nat := 10
  /-- R242 0x8002: ROTATION_PERIOD in h. -/
  rotationPeriod : Nat := 72
  /-- R242 0x8003: SCRUB_PERIOD in h. -/
  scrubPeriod : Nat := 24
  /-- R242 0x8004: REFRESH_POSTPONE. -/
  refreshPostpone : Nat := 4
  /-- R242 0x8005: SELFTEST_PERIOD in s. -/
  selftestPeriod : Nat := 10
  /-- R315 R372: an orderly handover waits for the next dwell boundary: 0 none, 1 by command, 2 revert, 3 firmware update. -/
  handoverDue : Nat := 0
  /-- R316: FRC of the first reset under R316 (reset: log 2, DESIGN CHOICE). -/
  noHolderAt : Nat := 0
  deriving DecidableEq, Repr

/-- The groundskeeper (spec/12_spares_and_failover.md). -/
structure Gk where
  /-- GK_STATUS[0]: STOPPED. -/
  stopped : Bool := false
  /-- R324 GK_STATUS[2:1]: MODE of the SAFE_STOP in force. -/
  mode : Nat := 0
  /-- R324: a SAFE_STOP of MODE 1 or 2 waits for the RMW commit in progress (reset: log 2, DESIGN CHOICE). -/
  commitWait : Bool := false
  /-- R324: FRC at which that wait began (reset: log 2, DESIGN CHOICE). -/
  stoppedAt : Nat := 0
  /-- R325 GK_STATUS[3]: THERMAL_TRIP, survives a restart. -/
  thermalTrip : Bool := false
  /-- R391 R393: THERMTRIP_N released. -/
  thermtripN : Bool := true
  /-- R344 R392: hottest reading of each die, 0.1 °C (reset: log 2, DESIGN CHOICE). -/
  temps : List Int := List.replicate 7 0
  /-- R392: the die has crossed 95 °C and not fallen below 90 °C since. -/
  hot95 : List Bool := List.replicate 7 false
  /-- R345: the last DEVICE record the active supervisor gave the groundskeeper. -/
  surveyCopy : List Byte := []
  /-- R345: FRC of the last refresh of that copy (reset: log 2, DESIGN CHOICE). -/
  surveyAt : Nat := 0
  /-- R344: voltage in mV and current in 10 mA of the five rails (reset: log 2, DESIGN CHOICE). -/
  rails : List (Nat × Nat) := List.replicate 5 (0, 0)
  /-- GK_FREEZE_CFG: freeze causes enabled. -/
  freezeCfg : BitVec 11 := 0x19F
  /-- GK_FREEZE_STATUS[26:16]: causes seen since the freeze. -/
  freezeCause : BitVec 11 := 0
  /-- GK_FREEZE_STATUS[0]: a DRAM span is frozen. -/
  dramFrozen : Bool := false
  /-- GK_FREEZE_STATUS[1]: the mirror is frozen. -/
  mirrorFrozen : Bool := false
  deriving DecidableEq, Repr

/-- The almanac (spec/13_almanac_and_replay.md). -/
structure Almanac where
  /-- R330 GEN_ALM_RN: RN of the newest record accepted. -/
  rn : BitVec 64 := 0
  /-- R333: the writer's queue. -/
  queue : List AlmRec := []
  /-- R333: records whose writer waits for room. -/
  waiting : List AlmRec := []
  /-- R330: records drained to DRAM, oldest first: number, address and length; their bytes are in DRAM. -/
  ring : List AlmSlot := []
  /-- R336: records of the always-on mirror. -/
  mirror : List AlmRec := []
  /-- R333: FRC up to which the drain has written, at 2 bytes per TCLK (reset: log 1). -/
  drainAt : Nat := 0
  /-- R339: the frozen span returned. -/
  frozenSpan : Option (BitVec 64 × BitVec 64) := none
  /-- R339: the writer has been asked to freeze and has not acknowledged. -/
  freezeAsked : Bool := false
  /-- R339: FRC at which the freeze in force started (reset: log 2, DESIGN CHOICE). -/
  freezeAt : Nat := 0
  /-- R339: first and last record of the frozen DRAM span. -/
  dramSpan : Option (BitVec 64 × BitVec 64) := none
  /-- R337: FRC at which the last checkpoint began (reset: log 2, DESIGN CHOICE). -/
  ckptAt : Nat := 0
  /-- R337: bytes of records written since then. -/
  ckptBytes : Nat := 0
  /-- R330: place in the ring of the next record accepted. -/
  wpos : Nat := 0
  /-- R330: place in the ring of the next record drained. -/
  dpos : Nat := 0
  /-- R339: while the DRAM span is frozen: the start of the 256 MiB ring that the writer uses. -/
  ownRing : Option Nat := none
  /-- R339: ALMANAC_FREEZE packets that wait for the writer's acknowledgement; executed again after a fail-over. -/
  freezeReplies : List (KcpIn × Bool) := []
  /-- R337: CHECKPOINT records still to be written: FLAGS and body. -/
  ckptLeft : List (BitVec 8 × List Byte) := []
  /-- R337: CRC-64 of the bodies of the checkpoint being written. -/
  ckptCrc : Option (BitVec 64) := none
  /-- R337: the sweep whose boundary the last checkpoint was looked for at. -/
  ckptSweep : Option Nat := none
  deriving DecidableEq, Repr

/-- Replay (spec/13_almanac_and_replay.md). -/
structure Rpl where
  /-- R352: STATE. -/
  state : Nat := 0
  /-- R352: REASON. -/
  reason : Nat := 0
  /-- R352: BAD_RECORDS. -/
  badRecords : BitVec 32 := 0
  /-- R352: CHECKPOINT_SWEEP. -/
  ckptSweep : Nat := 0
  /-- R352: NEXT_SAMPLE. -/
  nextSample : Nat := 0
  /-- R350: LAST_SAMPLE of the window. -/
  lastSample : Nat := 0
  /-- R349: INPUT: false cold frame, true host. -/
  input : Bool := false
  /-- R352: DWELLS_DONE. -/
  dwellsDone : BitVec 32 := 0
  /-- R352: DWELLS_ABSENT. -/
  dwellsAbsent : BitVec 32 := 0
  /-- R352: MISMATCHES. -/
  mismatches : BitVec 32 := 0
  /-- R352: RESULT_PROD. -/
  resultProd : BitVec 64 := 0
  /-- R352: the first 16 mismatch entries. -/
  first16 : List (List Byte) := []
  /-- R349: units of the input area not yet used. -/
  units : List ReplayUnit := []
  /-- R350: position in the channel order of the next dwell. -/
  chanPos : Nat := 0
  /-- R348 GEN_RPL_CONS: consumer offset in the result ring. -/
  cons : BitVec 64 := 0
  /-- GEN_RPL_CONS_HI: HI word written and not yet in effect. -/
  consHi : BitVec 32 := 0
  /-- R347: the recorded plan. -/
  plan : Option Plan := none
  /-- R338 R347: beam tables, weights and swaps as the replay has them. -/
  beams : Beams := {}
  /-- R338 R347: the sieves as the replay has them. -/
  riddle : Riddle := {}
  /-- R338 R347: the integrations as the replay has them. -/
  rmw : Rmw := {}
  /-- R347: the recorded epoch mapping: EPOCH_TIME, P_NUM, P_DEN. -/
  epoch : Option (Int × Nat × Nat) := none
  /-- R338: recorded commands still to apply, with the sample from which each acts. -/
  cmds : List (Nat × BitVec 16 × KcpIn) := []
  /-- R349: B: the local blocks supplied, fixed by the first dwell. -/
  blocks : List Nat := []
  /-- R350: the sweep of FIRST_SAMPLE. -/
  firstSweep : Nat := 0
  /-- R350: the sweep of the next dwell. -/
  sweep : Nat := 0
  /-- R348: records formed that wait for room in the result ring. -/
  outbox : List (List Byte) := []
  deriving DecidableEq, Repr

/-- JTAG (spec/14_host_bringup.md). -/
structure Jtag where
  /-- R364: the instruction in force (reset: log 2, DESIGN CHOICE). -/
  instr : JtagOp := JtagOp.bypass
  deriving DecidableEq, Repr

/-- The whole machine. -/
structure State where
  /-- Clocks, references and the reset sequencer. -/
  clk : Clk := {}
  /-- Bring-up, firmware images, system membership (GEN_BOOT). -/
  boot : Boot := {}
  /-- Fused values of the seven dies (read only). -/
  fuses : Fuses := {}
  /-- The SPI flash on the card (R365). -/
  flash : Flash := {}
  /-- The time unit. -/
  time : Time := {}
  /-- The cue table and the hardware schedule. -/
  cues : CueTab := {}
  /-- Command rings and the exactly-once record. -/
  kcp : Kcp := {}
  /-- The SMBus port. -/
  smb : Smb := {}
  /-- Complement-pair registers. -/
  rwc : Rwc := {}
  /-- PCI Express, MSI-X, BAR4 and what leaves towards the host. -/
  pcie : Pcie := {}
  /-- The Espalier's state. -/
  plan : PlanState := {}
  /-- Ingest and the seedbed. -/
  ingest : Ingest := {}
  /-- The X array. -/
  xa : XArray := {}
  /-- The RMW engine, integrations and harvest. -/
  rmw : Rmw := {}
  /-- The B array. -/
  beams : Beams := {}
  /-- The riddle. -/
  riddle : Riddle := {}
  /-- The cold frame. -/
  cf : ColdFrame := {}
  /-- Lanes and hedges. -/
  lanes : Lanes := {}
  /-- The mesh and the system roles. -/
  mesh : Mesh := {}
  /-- The memory controllers and the DRAM. -/
  mem : Mem := {}
  /-- The Trellis. -/
  tl : Trellis := {}
  /-- Cells, beds, stripes and Loam banks. -/
  cells : Cells := {}
  /-- The supervisor pair. -/
  sup : Sup := {}
  /-- The groundskeeper. -/
  gk : Gk := {}
  /-- The almanac. -/
  alm : Almanac := {}
  /-- Replay. -/
  rpl : Rpl := {}
  /-- JTAG. -/
  jtag : Jtag := {}
  /-- The counter registers (R58, R84, R108, R137, R155, R191, R217, R243, R270, R296, R329, R354, R378). -/
  ctr : Counters := {}
  /-- The index of the next free value (log 8, DESIGN CHOICE 0). -/
  freeCount : Nat := 0
  /-- The commands that wait, first in first out. -/
  pending : List Instr := []
  deriving DecidableEq, Repr

/-- Reasons a step could fault. No command of the table ends in one. -/
inductive Fault where
  /-- Raised by no meaning; it stands for a state that no rule of the spec reaches. Safe. -/
  | unreachable
  deriving DecidableEq, Repr

/-- Reasons a command could be refused. -/
inductive Refusal where
  /-- A command whose meaning is not written yet; raised by the dispatch only. Safe. -/
  | notModelled (mnemonic : String)
  deriving DecidableEq, Repr

/-- The machine right after reset, before PORST_N is released: every field at the value its declaration gives. -/
def State.reset : State := {}

end Sys2Proof.Machine
end

