-- ==== Sys2Proof/Machine/Ops.lean ====
section
/-! DEFINITION. Operations every family uses: counters, events and vectors, the journal, device time, DRAM bytes. -/

namespace Sys2Proof.Machine
open Sys2Proof

/-! ### Counters -/

/-- The value of a counter. -/
def State.count (s : State) (c : Ctr) : W32 := s.ctr.words.getD c.ctorIdx 0

/-- A counter adds `n`, wrapping at 2^32. -/
def State.bumpBy (s : State) (c : Ctr) (n : Nat) : State :=
  { s with ctr := { words := setAt c.ctorIdx (· + BitVec.ofNat 32 n) s.ctr.words } }

/-- A counter adds one. -/
def State.bump (s : State) (c : Ctr) : State := s.bumpBy c 1

/-- The counters whose BAR0 offset lies in `lo` to `hi` return to 0. -/
def State.clearCounters (s : State) (lo hi : Nat) : State :=
  { s with ctr := { words := s.ctr.words.zipIdx.map fun (v, i) =>
      if lo ≤ Ctr.offsets.getD i 0 ∧ Ctr.offsets.getD i 0 ≤ hi then 0 else v } }

/-! ### Event vectors (R361) -/

/-- MSI-X messages can leave: the link is up, Bus Master Enable is set and the function is in D0 (R358). -/
def State.msixOpen (s : State) : Bool := s.pcie.up && s.pcie.busMaster && !s.pcie.d3

/-- The mask bit of a vector's table entry (PCI Express standard format, R359). -/
def State.vectorMasked (s : State) (v : Nat) : Bool := (s.pcie.msixTable.getD (4 * v + 3) 0).getLsbD 0

/-- Send a vector, or hold it pending while messages are stopped or the vector is masked (R358). -/
def sendVector (v : Nat) (s : State) : State :=
  if s.msixOpen && !s.vectorMasked v then { s with pcie := { s.pcie with vectors := s.pcie.vectors ++ [v] } }
  else if s.pcie.heldVectors.contains v then s
  else { s with pcie := { s.pcie with heldVectors := s.pcie.heldVectors ++ [v] } }

/-- Make every write that has waited, then send every held vector that may now leave (R358). -/
def flushVectors (s : State) : State :=
  if s.msixOpen then
    let s := { s with pcie := { s.pcie with dmaOut := s.pcie.dmaOut ++ s.pcie.heldWrites, heldWrites := [] } }
    let out := s.pcie.heldVectors.filter fun v => !s.vectorMasked v
    { s with pcie := { s.pcie with vectors := s.pcie.vectors ++ out,
                                   heldVectors := s.pcie.heldVectors.filter fun v => s.vectorMasked v } }
  else s

/-- Event `i` of R361 occurs: its bit becomes 1, and its vector is sent when the bit was 0 and is enabled. -/
def raiseEvent (i : Nat) (s : State) : State :=
  if s.pcie.event.getLsbD i then s
  else
    let s := { s with pcie := { s.pcie with event := s.pcie.event ||| BitVec.ofNat 15 (2 ^ i) } }
    if s.pcie.eventEn.getLsbD i then sendVector (48 + i) s else s

/-! ### Device time (R192 to R194) -/

/-- Device time in units of 2^-40 ns (R193). -/
def State.time40 (s : State) : Int :=
  s.time.offset.toInt + (2 * 2 ^ 40 * s.time.frc.toNat : Nat) + s.time.drift.toInt

/-- Device time in units of 2^-16 ns: the reading of R194. -/
def State.time16 (s : State) : Int := s.time40 / 2 ^ 24

/-- Whole nanoseconds of a reading. -/
def nsOf (t16 : Int) : W64 := BitVec.ofInt 64 (t16 / 2 ^ 16)

/-- Fraction of a reading. -/
def fracOf (t16 : Int) : BitVec 16 := BitVec.ofInt 16 (t16 % 2 ^ 16)

/-- The 10-byte time format of R194. -/
def time10 (t16 : Int) : List Byte := le8 (nsOf t16).toNat ++ le2 (fracOf t16).toNat

/-- The number that a 10-byte signed time field holds, in 2^-16 ns (R194). -/
def timeAt (o : Nat) (bs : List Byte) : Int := intAt o 8 bs * 2 ^ 16 + fieldAt (o + 8) 2 bs

/-- The FRC as a number. -/
def State.now (s : State) : Nat := s.time.frc.toNat

/-- At least `ns` nanoseconds of FRC time have passed since FRC `t` (log 16). -/
def State.passed (s : State) (t ns : Nat) : Bool := t + ns / 2 ≤ s.now

/-- Whole seconds that pass until FRC `f` under an active provisional plan: they count towards the 3,600 s of R152. -/
def State.learnSecs (s : State) (f : Nat) : Nat :=
  match s.plan.active with
  | some p => if p.provisional then f / 500000000 - s.now / 500000000 else 0
  | none => 0

/-- Time goes on to FRC `f`: the FRC counts up to it and DRIFT adds RATE at each TCLK (R192, R193). Nothing changes when the
FRC stands or has passed it. -/
def State.advanceTo (s : State) (f : Nat) : State :=
  if s.time.frcOn && s.now < f then
    let secs := s.plan.activeSecs + s.learnSecs f
    { s with plan := { s.plan with activeSecs := secs }
             time := { s.time with
      frc := BitVec.ofNat 64 f, drift := s.time.drift + BitVec.ofInt 104 (((f - s.now : Nat) : Int) * (2 * s.time.rate.toInt)) } }
  else s

/-- The moment of a timed event: `ns` nanoseconds after FRC `t`, or now when they have passed (log 16). -/
def State.waitFor (s : State) (t ns : Nat) : State := s.advanceTo (t + (ns + 1) / 2)

/-! ### Who acts -/

/-- The supervisor lease is held (R310): a word that does not match its complement is not used (R7). -/
def State.leaseHeld (s : State) : Bool := s.sup.lease.getLsbD 1 && s.sup.leaseN == ~~~ s.sup.lease

/-- The core that holds, or last held, the lease. -/
def State.leaseCore (s : State) : Nat := if s.sup.lease.getLsbD 0 then 1 else 0

/-- TERM of the supervisor lease. -/
def State.leaseTerm (s : State) : Nat := s.sup.lease.toNat / 256

/-- Tamzar takes packets: a core holds the lease, bring-up has reached that point (R370), and no SAFE_STOP holds (R226). -/
def State.tamzarServes (s : State) : Bool :=
  !s.clk.held && s.leaseHeld && !s.gk.stopped && (s.boot.step ≥ 5 || (s.boot.trainFail && s.boot.step ≥ 4))

/-- The groundskeeper serves its ring and SMBus (R369). -/
def State.gkServes (s : State) : Bool := !s.clk.held && s.boot.step ≥ 2

/-- The MODE of SAFE_STOP whose actions have taken place: 1 and 2 wait up to 1 ms for the RMW commit in progress (R324). -/
def State.stopMode (s : State) : Nat := if s.gk.commitWait && !s.passed s.gk.stoppedAt 1000000 then 0 else s.gk.mode

/-- The X die runs: out of reset, past step TAMZAR, its supplies on (R324). -/
def State.dieRuns (s : State) : Bool :=
  !s.clk.held && s.boot.step ≥ 3 && !(s.gk.stopped && s.stopMode = 2)

/-- The arrays run: no SAFE_STOP of MODE 1 or 2 (R324). -/
def State.arraysRun (s : State) : Bool := s.dieRuns && !(s.gk.stopped && s.stopMode ≥ 1)

/-- The Trellis and its bridges answer: past step TAMZAR, the X die's supplies on (R324, R360, R369). -/
def State.busUp (s : State) : Bool := s.dieRuns && s.boot.step ≥ 4

/-- A bridge access that is not answered within 2 µs (R295). -/
def busTimeout (s : State) : State := { s with tl := { s.tl with bridgeErrSeen := true } }.bump .tlBridgeTimeout

/-- An access through the Trellis: made while the bridges answer, and otherwise a bridge timeout (R360). -/
def overBus (f : State → State) (s : State) : State :=
  if s.busUp then f s else if s.gkServes then busTimeout s else s

/-- A write of a clear register: bit 0 clears its counters (R58 and its like). -/
def clearOn (lo hi : Nat) (value : W32) (s : State) : State := if value.getLsbD 0 then s.clearCounters lo hi else s

/-! ### The journal (R330 to R336) -/

/-- Size of a record in bytes (R331). -/
def AlmRec.size (r : AlmRec) : Nat := 56 + 8 * ((r.body.length + 7) / 8)

/-- The 24-byte header value of a record (R331). -/
def AlmRec.headValue (r : AlmRec) : List Byte :=
  le8 r.rn.toNat ++ le8 r.frc.toNat ++ le2 r.type.toNat ++ le2 ((r.body.length + 7) / 8) ++
    [r.src, r.flags] ++ zeros 2

/-- The bytes of a record (R331). -/
def AlmRec.bytes (r : AlmRec) : List Byte :=
  let head := r.headValue ++ compl r.headValue
  let body := padTo 8 r.body
  head ++ body ++ le4 (crc32c (head ++ body)) ++ zeros 4

/-- Total size of records. -/
def almBytes (rs : List AlmRec) : Nat := (rs.map AlmRec.size).sum

/-- Drop the oldest records until the rest fits `n` bytes. -/
def trimTo (n : Nat) : List AlmRec → List AlmRec
  | [] => []
  | r :: rs => if almBytes (r :: rs) ≤ n then r :: rs else trimTo n rs

/-- Copy a record into the mirror (R336): all but CONT records of CHECKPOINT, unless the mirror is frozen. -/
def mirrorCopy (r : AlmRec) (s : State) : State :=
  if s.gk.mirrorFrozen || (r.type = 0x60 && r.flags.getLsbD 1) then s
  else { s with alm := { s.alm with mirror := trimTo (4 * 2 ^ 20) (s.alm.mirror ++ [r]) } }

/-- Size of the almanac region (R147, R330). -/
def almSize : Nat := 2 ^ 30

/-- Bytes from a place in the ring to the next end that a record may not cross: the end of the region or, while a DRAM span is
frozen, the end of the writer's own 256 MiB ring (R330, R339). -/
def State.almLeft (s : State) (pos : Nat) : Nat :=
  match s.alm.ownRing with
  | none => almSize - pos
  | some b => min (almSize - pos) (2 ^ 28 - (pos + almSize - b) % almSize)

/-- The place after `n` bytes from a place in the ring, round its ends (R330, R339). -/
def State.almNext (s : State) (pos n : Nat) : Nat :=
  match s.alm.ownRing with
  | none => (pos + n) % almSize
  | some b => (b + ((pos + almSize - b) % almSize + n) % 2 ^ 28) % almSize

/-- A record takes the next number and the next place (R330). -/
def placeRecord (r : AlmRec) (s : State) : State :=
  let r := { r with rn := s.alm.rn + 1 }
  mirrorCopy r { s with alm := { s.alm with
    rn := r.rn, queue := s.alm.queue ++ [r], wpos := s.almNext s.alm.wpos r.size, ckptBytes := s.alm.ckptBytes + r.size } }

/-- What is left before an end of the ring is filled by a PAD record, or stays unused where no record is that small (R330,
log 40). -/
def padRing (s : State) : State :=
  let left := s.almLeft s.alm.wpos
  if left < 56 then { s with alm := { s.alm with wpos := s.almNext s.alm.wpos left } }
  else placeRecord { rn := 0, frc := s.time.frc, type := 0xFF, src := 2, body := List.replicate (left - 56) 0 } s

/-- A record enters the writer's queue with the next number: it is accepted (R330, R333). -/
def acceptRecord (r : AlmRec) (s : State) : State :=
  let s := if s.almLeft s.alm.wpos < r.size then padRing s else s
  (placeRecord r s).bump .genAlmRecords

/-- The writer's 1 MiB queue has room for a record (R333). -/
def State.queueRoom (s : State) (r : AlmRec) : Bool :=
  s.alm.waiting.isEmpty && almBytes s.alm.queue + r.size ≤ 2 ^ 20

/-- A record is formed: it enters the queue, or its writer waits and the wait is counted (R333). -/
def record (type src : Nat) (body : List Byte) (s : State) (flags : Nat := 0) : State :=
  let replay := if 1 ≤ s.rpl.state ∧ s.rpl.state ≤ 4 then 1 else 0
  let r : AlmRec := { rn := 0, frc := s.time.frc, type := BitVec.ofNat 16 type, src := BitVec.ofNat 8 src,
                      flags := BitVec.ofNat 8 (flags + replay), body := body }
  if s.queueRoom r then acceptRecord r s
  else { s with alm := { s.alm with waiting := s.alm.waiting ++ [r] } }.bump .genAlmQueueFull

/-- SRC of a record that Tamzar writes: the core that acts (R331). -/
def State.srcTamzar (s : State) : Nat := s.leaseCore

/-- A FAULT record (R333): register block, bit, parameter ID of the counter or status register, two arguments.
Its writing sets the FAULT event (R361). -/
def journalFault (src block bit code arg addr : Nat) (s : State) : State :=
  raiseEvent 14 (record 0x31 src (le 1 block ++ le 1 bit ++ le2 code ++ le8 arg ++ le8 addr) s)

/-- An EVENT record (R333). -/
def journalEvent (src block bit code arg addr : Nat) (s : State) : State :=
  record 0x32 src (le 1 block ++ le 1 bit ++ le2 code ++ le8 arg ++ le8 addr) s

/-- A SPARE record (R333). -/
def journalSpare (src kind unit spare addr : Nat) (s : State) : State :=
  record 0x30 src (le 1 kind ++ zeros 1 ++ le2 s.plan.mapGen.toNat ++ le4 unit ++ le4 spare ++ le8 addr) s

/-- A LANE record (R333). -/
def journalLane (lane event : Nat) (s : State) : State :=
  record 0x40 2 (le 1 lane ++ le 1 event ++ zeros 6) s

/-- A LEASE record (R333). -/
def journalLease (src kind word arg : Nat) (s : State) : State :=
  record 0x33 src (le 1 kind ++ zeros 3 ++ le4 word ++ le8 arg) s

/-- Prefix indexes of FAULT and EVENT records (R333, Decinaris DX4 at a Glance). -/
def blkGen : Nat := 0
def blkKcp : Nat := 1
def blkXa : Nat := 2
def blkBf : Nat := 3
def blkRdl : Nat := 4
def blkCf : Nat := 5
def blkTm : Nat := 6
def blkLn : Nat := 7
def blkMc : Nat := 8
def blkTl : Nat := 9
def blkSup : Nat := 10
def blkGk : Nat := 11
def blkPw : Nat := 12

/-- Parameter ID of a counter (R242). -/
def Ctr.pid (c : Ctr) : Nat := c.offset / 4

/-! ### Freezes (R339, R340) -/

/-- A freeze starts, or is repeated, for a cause (bit number of GK_FREEZE_CFG, or 0xFFFF for a command). The mirror
freezes at once and the writer is asked to freeze the DRAM span; a freeze already in force does not move. -/
def freezeStart (cause : Nat) (s : State) : State :=
  let add (s : State) : State :=
    if cause < 11 then { s with gk := { s.gk with freezeCause := s.gk.freezeCause ||| BitVec.ofNat 11 (2 ^ cause) } } else s
  let s := s.bump .genAlmFreezes
  if s.gk.mirrorFrozen then
    let span := s.alm.frozenSpan.getD (0, 0)
    record 0x70 3 (le 1 2 ++ le 1 (bitOf s.gk.dramFrozen + 2) ++ le2 cause ++ zeros 4 ++ le8 span.1.toNat ++ le8 span.2.toNat)
      (add s)
  else
    let first := match s.alm.mirror.head? with | some r => r.rn | none => s.alm.rn
    let s := add { s with
      gk := { s.gk with mirrorFrozen := true }
      alm := { s.alm with frozenSpan := some (first, s.alm.rn), freezeAsked := true, freezeAt := s.now } }
    raiseEvent 11 (record 0x70 3 (le 1 0 ++ le 1 2 ++ le2 cause ++ zeros 4 ++ le8 first.toNat ++ le8 s.alm.rn.toNat) s)

/-- A freeze cause occurs: it starts a freeze when GK_FREEZE_CFG enables it (R339). -/
def freezeOn (cause : Nat) (s : State) : State :=
  if s.gk.freezeCfg.getLsbD cause then freezeStart cause s else s

/-! ### Free values (log 8) -/

/-- The index of the next free value, and the state that has used it. -/
def takeFree (s : State) : Nat × State := (s.freeCount, { s with freeCount := s.freeCount + 1 })

/-! ### Device DRAM (R271, R279) -/

/-- What an address that is not listed reads as: initialisation writes zeros (R279, log 9). -/
def Memory.blank : Byte := 0

/-- The canonical form: addresses strictly rising, and no entry equal to what an unlisted address reads as. -/
def Memory.wf : List Host.Cell → Bool
  | [] => true
  | [(_, b)] => b != Memory.blank
  | (a, b) :: (a', b') :: cs => b != Memory.blank && decide (a < a') && Memory.wf ((a', b') :: cs)

/-- One byte of a memory. -/
def Memory.read (a : Nat) : List Host.Cell → Byte
  | [] => Memory.blank
  | (a', b) :: cs => if a' = a then b else Memory.read a cs

/-- Remove the entry of an address. -/
def Memory.erase (a : Nat) : List Host.Cell → List Host.Cell
  | [] => []
  | (a', b) :: cs => if a' = a then cs else (a', b) :: Memory.erase a cs

/-- Put a byte that is not the blank byte. -/
def Memory.insert (a : Nat) (v : Byte) : List Host.Cell → List Host.Cell
  | [] => [(a, v)]
  | (a', b) :: cs =>
    if a < a' then (a, v) :: (a', b) :: cs
    else if a = a' then (a, v) :: cs
    else (a', b) :: Memory.insert a v cs

/-- Write one byte, keeping the canonical form. -/
def Memory.write (a : Nat) (v : Byte) (m : List Host.Cell) : List Host.Cell :=
  if v = Memory.blank then Memory.erase a m else Memory.insert a v m

/-- Write bytes at rising addresses. -/
def Memory.writeBytes (a : Nat) : List Byte → List Host.Cell → List Host.Cell
  | [], m => m
  | b :: bs, m => Memory.writeBytes (a + 1) bs (Memory.write a b m)

/-- Read `n` bytes at rising addresses. -/
def Memory.readBytes (a : Nat) : Nat → List Host.Cell → List Byte
  | 0, _ => []
  | n + 1, m => Memory.read a m :: Memory.readBytes (a + 1) n m

/-- One byte of device DRAM. -/
def State.byteAt (s : State) (a : Nat) : Byte := Memory.read a s.mem.dram

/-- `n` bytes of device DRAM. -/
def State.dramRead (s : State) (a n : Nat) : List Byte := Memory.readBytes a n s.mem.dram

/-- Write bytes to device DRAM. -/
def State.dramWrite (s : State) (a : Nat) (bs : List Byte) : State :=
  { s with mem := { s.mem with dram := Memory.writeBytes a bs s.mem.dram } }

/-! ### Host memory (R239, log 6) -/

/-- The device writes bytes to host memory. -/
def hostWrite (addr : Nat) (bs : List Byte) (s : State) : State :=
  if s.msixOpen then { s with pcie := { s.pcie with dmaOut := s.pcie.dmaOut ++ [(addr, bs)] } }
  else { s with pcie := { s.pcie with heldWrites := s.pcie.heldWrites ++ [(addr, bs)] } }

/-- A named background DMA transfer starts (R239). -/
def startTransfer (t : Transfer) (s : State) : State :=
  { s with pcie := { s.pcie with transfers := s.pcie.transfers ++ [t] } }

/-! ### Status codes (R240) -/

/-- The code of a status. -/
def statusCode : Status → Nat
  | .ok => 0x0000 | .accepted => 0x0001 | .deferred => 0x0002 | .clamped => 0x0003 | .countCoarse => 0x0004
  | .badOpcode => 0x8001 | .badComplement => 0x8002 | .badParam => 0x8003 | .badLength => 0x8004 | .late => 0x8005
  | .notSynced => 0x8006 | .busy => 0x8007 | .bankBusy => 0x8008 | .noToken => 0x8009 | .partitioned => 0x800A
  | .noSpare => 0x800B | .ringCfgIgnored => 0x800C | .fault => 0xC000

/-- Bit 15 of the code: the command had no effect. -/
def statusRefused (st : Status) : Bool := statusCode st ≥ 0x8000

/-! ### The plan state code (R401) -/

/-- GEN_PLAN_STATUS.STATE (codes 0 to 3 of R401). -/
def State.planState (s : State) : Nat :=
  if s.plan.active.isNone then 0
  else if s.plan.flushing then 3
  else if s.plan.pendingPlan.isSome then 2
  else 1

/-- The plan state code of R401. -/
def State.planCode (s : State) : Nat := if s.plan.computing.isSome then 4 else s.planState

/-- T of the active plan. -/
def State.planT (s : State) : Nat := match s.plan.active with | some p => p.req.T | none => 65536

end Sys2Proof.Machine
end

