-- ==== Sys2Proof/Machine/PlanOps.lean ====
section
/-! DEFINITION. What other families need of the plan and of the health record: roles and routes, the egress check of
R30, forced re-plans (R153, R157), the health record's bytes and its rewriting (R151, R367). -/

namespace Sys2Proof.Machine
open Sys2Proof

/-! ### Roles, routes and sizes -/

/-- LN_HEDGE_ROLE: the roles of the active plan; zero while no plan is active (R250). -/
def State.hedgeRoles (s : State) : W32 := match s.plan.active with | some p => p.roles | none => 0

/-- Role of a hedge: 0 none, 1 ingest, 2 egress, 3 mesh. -/
def roleIn (roles : W32) (h : Nat) : Nat := roles.toNat / 4 ^ h % 4

/-- Role of a lane. A joining device and its mesh use hedge 0 before a plan gives roles (R374). -/
def State.role (s : State) (l : Nat) : Nat :=
  let r := roleIn s.hedgeRoles (l / 8)
  if s.plan.active.isNone && (s.boot.system ≠ 0 || s.mesh.founding) && l < 8 then 3 else r

/-- The device's own routes of a plan. -/
def Plan.myRoutes (p : Plan) (s : State) : List Route := p.routes.filter (·.device = s.mesh.index.toNat)

/-- The lane carries a placed stream of the active plan. -/
def State.placedStream (s : State) (l : Nat) : Bool :=
  match s.plan.active with | some p => (p.myRoutes s).any (·.lane = l) | none => false

/-- The lane is a PTP port: named by PTP_LANES, in Ethernet mode with PTP_EN (R195, R249). -/
def State.ptpPort (s : State) (l : Nat) : Bool :=
  s.time.ptpLanes.contains l && (let x := s.lanes.lane.getD l {}; !x.fj && x.ptpEn)

/-- The plan of a version: active, pending, follower, or a former plan still named in the pipeline. -/
def State.planOf (s : State) (v : W64) : Option Plan :=
  (s.plan.active.toList ++ s.plan.pendingPlan.toList ++ s.plan.follower.toList ++ s.plan.old).find? (·.version = v)

/-- First sample index of a dwell. -/
def State.dwellSample (s : State) (d : Dwell) : Nat :=
  match s.planOf d.ver with | some p => d.sweep * p.req.T | none => 0

/-- Lanes of the egress role in a role word. -/
def egressLanes (roles : W32) : List Nat := (List.range 128).filter fun l => roleIn roles (l / 8) = 2

/-- Block pairs of a shape over `n` local blocks (R143): the first side of a square or pair of triangles is a whole group
of 64 blocks, the second the rest (R161). -/
def pairsOf (sh : Shape) (n : Nat) : Nat :=
  match sh with
  | .triangle => n * (n + 1) / 2
  | .square => min 64 n * (n - 64)
  | .twoTriangles => let a := min 64 n; let b := n - 64; a * (a + 1) / 2 + b * (b + 1) / 2

/-- P of a plan. -/
def Plan.P (p : Plan) : Nat := pairsOf p.shape p.blocks.length

/-- Bytes of one entry pair of sums at an output width: 0 is 16+16, 1 is 32+32, 2 is 64+64 (R104). -/
def widthBytes (w : Nat) : Nat := match w with | 0 => 4 | 1 => 8 | _ => 16

/-- Bits that a channel's harvest puts on the wire, with 102 bytes of overhead a record (R30). -/
def harvestBits (pairs inputs width : Nat) : Nat :=
  8 * (pairs * (1024 * widthBytes width + (if width = 2 then 2 else 1) * (48 + 102)) + 8 * inputs +
    (inputs + 1023) / 1024 * (48 + 102) + 64 + 102)

/-- A sieve. -/
def State.sieve (s : State) (i : Nat) : Sieve := s.riddle.sieves.getD i {}

/-- The configuration a sieve ends on, with what waits. -/
def Sieve.last (x : Sieve) : SieveCfg :=
  x.pend.foldl (fun c p => match p.cfg with | some d => d | none => c) x.cfg

/-- Beam of a sieve's chain, total decimation from beam samples, and chain length; none past 4 sieves. Recurses on fuel. -/
def chainOf (fuel : Nat) (cfgs : Nat → SieveCfg) (c : SieveCfg) : Option (Nat × Nat × Nat) :=
  match fuel with
  | 0 => none
  | fuel + 1 =>
    if c.fromSieve then
      (chainOf fuel cfgs (cfgs c.source)).map fun (b, m, n) => (b, m * c.decim, n + 1)
    else some (c.source, c.decim, 1)

/-- The chain of a configuration, over the sieves as last configured. -/
def State.chain (s : State) (c : SieveCfg) : Option (Nat × Nat × Nat) := chainOf 4 (fun i => (s.sieve i).last) c

/-- Bits that the enabled sieves put on the wire in one dwell of T samples: records of at most 1,024 outputs of 4 bytes, with 48 bytes of
header (R136) and 102 bytes of overhead each (R30, log 130). -/
def State.sieveBits (s : State) (T : Nat) : Nat :=
  (s.riddle.sieves.map fun x =>
    if !x.last.enable then 0
    else match s.chain x.last with
      | some (_, total, _) => let n := T / max 1 total; 8 * (4 * n + (n + 1023) / 1024 * (48 + 102))
      | none => 0).sum

/-- The peak egress of R30 fits `lanes` lanes at 100 Gb/s: harvest in D - 22 us, beams at their rate, sieve outputs at theirs (one dwell of
a channel in `chans` dwells of T), STREAM_RATE (Gb/s, log 11) in capture records of 8,192 bytes with 64 bytes of header (log 130); every record
with 102 bytes of overhead. Cross-multiplied: h / (d - 22000) + b + v + stream at most 100 lanes, all in bits per ns. -/
def egressFits (pairs inputs width dNum dDen budget beamWidth rate chans T sieves stream lanes : Nat) : Bool :=
  let h := harvestBits pairs inputs width * dDen
  let hd := dNum - 22000 * dDen
  let b := budget * rate * (8 * (48 + 102 + 2048 * (beamWidth + 1)))
  let bd := 1024 * 10 ^ 9
  let v := sieves * rate
  let vd := max 1 (chans * T) * 10 ^ 9
  let st := stream * (8192 + 64 + 102)
  decide (0 < hd ∧ 8192 * (h * bd * vd + b * hd * vd + v * hd * bd) + st * hd * bd * vd ≤ 8192 * (100 * lanes * hd * bd * vd))

/-- The active plan's egress with other widths on a number of lanes (R139, R267). -/
def Plan.egressOn (p : Plan) (width beamWidth lanes : Nat) (s : State) : Bool :=
  egressFits p.P p.inputs width p.dNum p.dDen p.req.beamBudget beamWidth p.req.rate p.layout.length p.req.T (s.sieveBits p.req.T)
    p.req.streamRate lanes

/-! ### The health record (R151, R367) -/

/-- Lanes marked lost. -/
def State.lostLanes (s : State) : List Nat :=
  (List.range 128).filter fun l => (s.lanes.lane.getD l {}).lost

/-- A value and its complement (R7). -/
def withCompl (v : List Byte) : List Byte := v ++ compl v

/-- The complement of a Loam remap entry, byte by byte (R7, R304). -/
def remapCompl (x : Nat × Nat) : Nat × Nat := (255 - x.1, 255 - x.2)

/-- The health record as it stands. -/
def State.health (s : State) (serial : W32) : Health :=
  { serial := serial
    learned := s.boot.learned
    seconds := s.plan.activeSecs
    spareMap := s.cells.spareMap
    spareMapN := s.cells.spareMapN
    retired := s.cells.retired
    rowsSpared := s.xa.rowsSpared
    loamRemap := s.cells.loamRemap.filter fun x => s.cells.loamRemapN.contains (remapCompl x)
    dramRemap := (s.mem.chan.zipIdx.map fun (c, i) => c.remaps.map fun r => (i * 2 ^ 20 + r.row, r.spare)).flatten
    lostStripes := s.cells.stripeLost
    phases := s.cells.sparePhaseIn
    lostLanes := s.lostLanes
    margin := s.cells.margin
    request := s.plan.request
    planSerial := s.plan.serial }

/-- A list with its length in front (log 13). -/
def counted (xs : List (List Byte)) : List Byte := le4 xs.length ++ xs.flatten

/-- The bytes of a request in the health record (log 13): every field of R138 as its item of log 11. -/
def requestBytes (r : Request) : List Byte :=
  counted (r.sources.map fun x => le4 x.id.toNat ++ le2 x.firstBlock ++ le1 x.nBlocks ++ le1 x.nLanes) ++
  counted (r.channels.map le2) ++ le8 r.rate ++ le1 r.framing ++ le4 r.T ++ le1 (bitOf r.wide) ++ le1 (bitOf r.long) ++
  le4 r.integLen ++ le1 r.harvestWidth ++ le2 r.beamBudget ++ le1 r.beamWidth ++ le1 r.fadeSlots ++ le2 r.heapMib ++
  le8 (r.captureBytes.getD (2 ^ 64 - 1)) ++ le4 r.captureRate ++ le4 r.streamRate ++
  (match r.laneProfile with | none => [0xFF, 0xFF, 0xFF] | some (a, b, c) => le1 a ++ le1 b ++ le1 c) ++
  counted (r.shedOrder.map le2) ++ le8 r.planLead ++ le1 (bitOf r.ingestVlan)
where
  /-- One byte. -/
  le1 (n : Nat) : List Byte := le 1 n

/-- The body of a health copy (R367; layout log 13): spare maps move with their complements (R7). -/
def healthBody (h : Health) : List Byte :=
  h.spareMap ++ h.spareMapN ++ counted (h.retired.map le2) ++
  counted (h.rowsSpared.map fun (c, b, r) => le2 c ++ le 1 (bitOf b) ++ le 1 r) ++
  counted (h.loamRemap.map fun (g, b) => withCompl (le 1 g ++ le 1 b)) ++
  counted (h.dramRemap.map fun (r, x) => withCompl (le4 r ++ le4 x)) ++
  le2 h.lostStripes.toNat ++ le2 h.phases.toNat ++ counted (h.lostLanes.map (le 1 ·)) ++ counted (h.margin.map (le 1 ·)) ++
  (match h.request with | none => [0] | some r => 1 :: requestBytes r) ++ le4 h.planSerial.toNat

/-- A whole health copy (R367). -/
def healthBytes (h : Health) : List Byte :=
  let body := healthBody h
  let head := le4 h.serial.toNat ++ le4 body.length ++ le4 (bitOf h.learned) ++ le4 h.seconds ++ body
  head ++ le4 (crc32c head)

/-- SERIAL of the newer health copy. -/
def State.healthSerial (s : State) : W32 :=
  let a := match s.flash.health0 with | some h => h.serial | none => 0
  let b := match s.flash.health1 with | some h => h.serial | none => 0
  if a < b then b else a

/-- The copy with the higher SERIAL (R367). -/
def State.healthNewest (s : State) : Option Health :=
  match s.flash.health0, s.flash.health1 with
  | some a, some b => if a.serial < b.serial then some b else some a
  | some a, none => some a
  | none, b => b

/-- Rewrite the health record into the copy that holds the older SERIAL, and journal it (R151, R333, R367). -/
def rewriteHealth (s : State) : State :=
  let h := s.health (s.healthSerial + 1)
  let older0 := match s.flash.health0, s.flash.health1 with
    | some a, some b => decide (a.serial ≤ b.serial)
    | none, _ => true
    | some _, none => false
  let s := if older0 then { s with flash := { s.flash with health0 := some h } }
           else { s with flash := { s.flash with health1 := some h } }
  record 0x11 s.srcTamzar (healthBytes h) s

/-- CRC-64 over the health record in use (R333). -/
def State.healthDigest (s : State) : Nat :=
  match s.healthNewest with | some h => crc64 (healthBytes h) | none => 0

/-! ### PLAN records, versions and forced re-plans (R142, R153, R157) -/

/-- A PLAN record: EVENT 0 ready, 1 switched, 2 refused, 3 withdrawn, 4 checked (R333). -/
def journalPlan (event : Nat) (p : Plan) (s : State) : State :=
  record 0x10 s.srcTamzar (le8 p.version.toNat ++ le8 p.digest.toNat ++ le 1 event ++ le 1 p.reason ++ zeros 2 ++
    le8 (p.switchSample.getD (2 ^ 48 - 1)) ++ le8 s.healthDigest) s

/-- The version of the next plan (R142). -/
def nextVersion (cause : Nat) (layout interim : Bool) (s : State) : W64 :=
  let provisional := !s.boot.learned && cause ≠ 2
  BitVec.ofNat 64 ((s.plan.serial + 1).toNat + 2 ^ 32 * cause + 2 ^ 40 * bitOf provisional + 2 ^ 41 * bitOf layout +
    2 ^ 42 * bitOf interim + 2 ^ 43 * s.mesh.index.toNat)

/-- Withdraw a pending plan unused (R157). -/
def withdrawPlan (p : Plan) (reason : Nat) (s : State) : State :=
  let p := { p with reason := reason }
  raiseEvent 0 (journalPlan 3 p { s with plan := { s.plan with
    last := some (p, .withdrawn), refused := true, reason := reason, pendingPlan := none } })

/-- Some dwell of a plan's version has come to the ingest. -/
def State.inPipe (s : State) (v : W64) : Bool :=
  let has (d : Option Dwell) : Bool := match d with | some d => d.ver = v | none => false
  has s.ingest.expected || has s.ingest.slot0.dwell || has s.ingest.slot1.dwell || has s.ingest.slot2.dwell

/-- A forced event of R153: its re-plan starts, is folded into one already being computed, or makes the Espalier
recompute a pending request (R157), of the whole system on a caller and of this device's own tile elsewhere. A recomputation that FINAL forces
carries CAUSE FINAL (R152, log 131). Nothing changes while there is no plan. -/
def forcePlan (cause : Nat) (s : State) : State :=
  match s.plan.computing with
  | some j =>
    if j.forced then s
    else { s with plan := { s.plan with computing := some { j with also := some (j.also.getD cause) } } }
  | none =>
    match s.plan.pendingPlan with
    | some p =>
      if p.requested && !s.inPipe p.version then
        let s := withdrawPlan p 0 s
        let v := nextVersion (if cause = 2 then 2 else 1) p.hasLayout false s
        let system := s.boot.system = 2 && s.mesh.caller
        let r := if system then { (s.plan.request.getD p.req) with start := p.req.start } else p.req
        let j : Job := { cause := 1, req := r, version := v, startedAt := s.now, also := some cause, place := if system then none else some p }
        { s with plan := { s.plan with computing := some j, serial := s.plan.serial + 1 } }
      else start s
    | none => start s
where
  /-- Start the forced re-plan of the active plan's request. -/
  start (s : State) : State :=
    match s.plan.active with
    | none => s
    | some p =>
      let v := nextVersion cause false false s
      let j : Job := { cause := cause, req := p.req, version := v, forced := true, startedAt := s.now }
      { s with plan := { s.plan with computing := some j, serial := s.plan.serial + 1 } }

end Sys2Proof.Machine
end

