-- ==== Sys2Proof/Machine/LaneOps.lean ====
section
/-! DEFINITION. Operations on lanes: access, lock exits, quieting, service, egress queues; SAFE_STOP and the thermal
trip, which quiet lanes. -/

namespace Sys2Proof.Machine
open Sys2Proof

/-- A lane. -/
def State.lane (s : State) (l : Nat) : Lane := s.lanes.lane.getD l {}

/-- Change a lane. -/
def State.onLane (s : State) (l : Nat) (f : Lane → Lane) : State :=
  { s with lanes := { s.lanes with lane := setAt l f s.lanes.lane } }

/-- Lanes that satisfy a test, as a 32-bit word for lanes 32k to 32k + 31. -/
def State.laneWord (s : State) (k : Nat) (f : Lane → Bool) : W32 :=
  BitVec.ofNat 32 ((List.range 32).foldl (fun n i => n + bitOf (f (s.lane (32 * k + i))) * 2 ^ i) 0)

/-- A mesh lane is up: in LOCK, with a LINK frame within the last 1 ms (R255). -/
def State.laneUp (s : State) (l : Nat) : Bool :=
  let x := s.lane l
  s.role l = 3 && x.fj && x.state == .lock && x.meshUp

/-- The up mesh lanes. -/
def State.upLanes (s : State) : List Nat := (List.range 128).filter s.laneUp

/-- The destination entry of a lane for a class: 1 BEAM, 2 STREAM, 3 HARVEST, 4 DRAIN (R264). -/
def Lane.dest (x : Lane) (cls : Nat) : Dest :=
  match cls with | 1 => x.destBeam | 3 => x.destHarvest | _ => x.destCapture

/-- An egress lane is in service for a class (R264). -/
def State.inService (s : State) (cls l : Nat) : Bool :=
  let x := s.lane l
  s.role l = 2 && (x.dest cls).enable && !x.txDoze && !x.txQuiet && !x.lost && x.state != .off

/-- The queue of a class. -/
def State.queue (s : State) (cls : Nat) : List EgRec :=
  match cls with
  | 1 => s.lanes.qBeam | 2 => s.lanes.qStream | 3 => s.lanes.qHarvest | _ => s.lanes.qDrain

/-- Replace the queue of a class. -/
def State.setQueue (s : State) (cls : Nat) (q : List EgRec) : State :=
  match cls with
  | 1 => { s with lanes := { s.lanes with qBeam := q } }
  | 2 => { s with lanes := { s.lanes with qStream := q } }
  | 3 => { s with lanes := { s.lanes with qHarvest := q } }
  | _ => { s with lanes := { s.lanes with qDrain := q } }

/-- Capacity of a class's queue in bytes (R101, R264). -/
def queueSize (cls : Nat) : Nat := if cls = 3 then 4 * 2 ^ 20 else 2 * 2 ^ 20

/-- Bytes waiting in a queue. -/
def queued (q : List EgRec) : Nat := (q.map (·.data.length)).sum

/-- A queue has room for `n` bytes. -/
def State.queueHas (s : State) (cls n : Nat) : Bool := queued (s.queue cls) + n ≤ queueSize cls

/-- The class has a lane in service (R265). -/
def State.classServed (s : State) (cls : Nat) : Bool := (List.range 128).any (s.inService cls)

/-- The class that a lane takes its next record from (R264). -/
def State.nextClass (s : State) (l : Nat) : Option Nat :=
  [1, 2, 3, 4].find? fun c => s.inService c l && !(s.queue c).isEmpty

/-- Bytes that a record's frame adds on the wire (R263): 36 over Fjotranu, 98 over IPv6, 78 over IPv4, and 4 for a tag. -/
def Lane.overhead (x : Lane) (cls : Nat) : Nat :=
  let d := x.dest cls
  if x.fj then 36 else (if d.ipv6 then 98 else 78) + (if d.vlan = 0 then 0 else 4)

/-- Wire bytes of a lane's egress frame that have not left yet: a lane sends 25 bytes in a TCLK period (R245). -/
def State.unsent (s : State) (l : Nat) : Nat :=
  match (s.lane l).sending with
  | some (r, at_) => r.data.length + (s.lane l).overhead r.cls - 25 * (s.now - at_)
  | none => 0

/-- The lane that takes a record first, of those that can take one: fewer bytes waiting, then the lower number (R264). -/
def State.nextTaker (s : State) : Option Nat :=
  (List.range 128).foldl (fun (b : Option Nat) l =>
    if (s.lane l).held.isSome || (s.nextClass l).isNone then b
    else match b with
      | some a => if s.unsent l < s.unsent a then some l else b
      | none => some l) none

/-- Lanes that have started their frame take their next record each, at most `fuel` of them (R264). -/
def takeRecords (fuel : Nat) (s : State) : State :=
  match fuel with
  | 0 => s
  | fuel + 1 =>
    match s.nextTaker with
    | none => s
    | some l =>
      match s.nextClass l with
      | none => s
      | some c =>
        match s.queue c with
        | [] => s
        | r :: rest => takeRecords fuel ((s.setQueue c rest).onLane l fun x => { x with held := some r })

/-- No record waits in any class. -/
def State.noRecords (s : State) : Bool := [1, 2, 3, 4].all fun c => (s.queue c).isEmpty

/-- Every lane that can take a record takes one. -/
def takeAll (s : State) : State := if s.noRecords then s else takeRecords 128 s

/-- Queue a record of a class: discarded and counted when no lane serves the class; a full BEAM queue drops it
(R265). HARVEST and DRAIN writers ask for room first. -/
def enqueueRecord (cls : Nat) (data : List Byte) (s : State) : State :=
  if !s.classServed cls then
    raiseEvent 7 ({ s with lanes := { s.lanes with noDestSeen := true } }.bump .lnEgNoDest)
  else if cls = 1 && !s.queueHas 1 data.length then
    raiseEvent 7 ({ s with lanes := { s.lanes with beamDropSeen := true } }.bump .lnEgBeamDrop)
  else takeAll (s.setQueue cls (s.queue cls ++ [{ cls := cls, data := data }]))

/-- The record that a lane has taken and not started returns to the head of its class: the lane leaves service (R265). -/
def unhold (l : Nat) (s : State) : State :=
  match (s.lane l).held with
  | none => s
  | some r => (s.setQueue r.cls (r :: s.queue r.cls)).onLane l fun x => { x with held := none }

/-- A record whose frame has not fully left when its lane leaves service returns to the head of its class, before the one that the
lane has taken (R265). The frame time is that of its wire bytes at 12.5 bytes per ns (R245, R263). -/
def resendUnsent (l : Nat) (s : State) : State :=
  let s := unhold l s
  match (s.lane l).sending with
  | none => s
  | some (r, _) =>
    let left := s.unsent l
    let s := s.onLane l fun x => { x with sending := none }
    if 0 < left then (s.setQueue r.cls (r :: s.queue r.cls)).bump .lnEgResent else s

/-- A transmit side that sends. -/
def State.txOpen (s : State) (l : Nat) : Bool :=
  let x := s.lane l
  x.state != .off && !x.txDoze && !x.txQuiet

/-- Frames that wait at a lane's output are dropped with its transmitter (R266, R268, log 116). -/
def dropWaiting (l : Nat) (s : State) : State :=
  { s with mesh := { s.mesh with waiting := s.mesh.waiting.filter (·.lane ≠ l) } }

/-- A transmitter becomes quiet (R268). -/
def quietLane (l : Nat) (s : State) : State :=
  if (s.lane l).txQuiet then s
  else journalLane l 7 (takeAll ((dropWaiting l (resendUnsent l s)).onLane l fun x => { x with txQuiet := true }))

/-- Quiet the lanes of a list. -/
def quietLanes (ls : List Nat) (s : State) : State := ls.foldl (fun s l => quietLane l s) s

/-- Clear a lane's stream table (R42). -/
def clearStreams (l : Nat) (s : State) : State :=
  { s with ingest := { s.ingest with streams := s.ingest.streams.filter (·.lane ≠ l) } }

/-- A lane leaves LOCK for a state (R42, R246, R248, R269): the exit is counted and its stream table cleared. -/
def exitLock (l : Nat) (toward : LaneState) (s : State) : State :=
  clearStreams l (s.onLane l fun x => { x with
    state := toward, outAt := s.now, exits := x.exits + 1, meshUp := false, linkAt := none })

/-- The lane goes to a state out of LOCK other than by doze. An exit from LOCK is counted, journaled and remembered for R248; a lane that
was out of LOCK already only changes its state, and one that was OFF begins to be out of LOCK (R246, R248, R270). -/
def leaveLock (l : Nat) (toward : LaneState) (s : State) : State :=
  if (s.lane l).state == .lock then
    let s := (exitLock l toward s).onLane l fun x => { x with
      recentExits := (s.now :: x.recentExits).filter fun t => !(s.passed t (10 ^ 9)) }
    journalLane l 1 (raiseEvent 7 ({ s with lanes := { s.lanes with lockLossSeen := true } }.bump .lnLockLoss))
  else s.onLane l fun x => { x with
    state := toward, outAt := if x.state == .off || x.state == .doze then s.now else x.outAt, meshUp := false, linkAt := none }

/-! ### Fjotranu frames as they are sent (R251, R252) -/

/-- System index for frames: 0x3FF while joining. -/
def State.srcIndex (s : State) : Nat := if s.boot.system = 1 then 0x3FF else s.mesh.index.toNat

/-- The 16-byte header of a frame (R252). Byte 0 is the start character, 0xFB. -/
def MeshFrame.head (f : MeshFrame) : List Byte :=
  [0xFB] ++ le 1 f.type ++ [1] ++ le 1 f.hops ++ le2 f.body.length ++ le2 f.dest.toNat ++ le2 f.src ++ le2 f.linkSeq.toNat ++ le4 f.fseq.toNat

/-- The bytes of a frame: header, body and FCRC (R251, R252). -/
def MeshFrame.wire (f : MeshFrame) : List Byte := f.head ++ f.body ++ le4 (crc32c (f.head.drop 1 ++ f.body))

/-- TCLK periods that a frame occupies its lane: LEN + 24 bytes at 25 bytes each (R245, R251). -/
def MeshFrame.ticks (f : MeshFrame) : Nat := (f.body.length + 48) / 25

/-- Priority of a waiting frame, 1 first (R257). -/
def MeshFrame.rank (f : MeshFrame) : Nat :=
  match f.type with
  | 0x14 => 1 | 0x11 => 2 | 0x12 => 3 | 0x13 => 3 | 0x15 => 4 | 0x16 => 4 | 0x10 => 5 | 0x18 => 5 | _ => 6

/-- The frame that a lane sends next: the highest priority, then the first to arrive (R257). -/
def nextFrame (l : Nat) (fs : List MeshFrame) : Option MeshFrame :=
  fs.foldl (fun (b : Option MeshFrame) f =>
    if f.lane ≠ l then b
    else match b with
      | some a => if f.rank < a.rank then some f else b
      | none => some f) none

/-- A frame starts on its lane at FRC `at_`, with the lane's next LINK_SEQ (R252, log 6). -/
def startFrame (f : MeshFrame) (at_ : Nat) (s : State) : State :=
  let s := { s with mesh := { s.mesh with tx := s.mesh.tx ++ [{ f with linkSeq := (s.lane f.lane).txLinkSeq }] } }
  s.onLane f.lane fun x => { x with framesOut := x.framesOut + 1, txLinkSeq := x.txLinkSeq + 1, txFree := at_ + f.ticks }

/-- Frames that wait at a lane start one after another, each when the one before has ended; none is interrupted (R257). -/
def pumpLane (fuel l : Nat) (s : State) : State :=
  match fuel with
  | 0 => s
  | fuel + 1 =>
    if s.now < (s.lane l).txFree then s
    else match nextFrame l s.mesh.waiting with
      | none => s
      | some f =>
        let s := { s with mesh := { s.mesh with waiting := s.mesh.waiting.erase f } }
        pumpLane fuel l (startFrame f (s.lane l).txFree s)

/-- Every output goes on with the frames that wait there (R257). -/
def pumpFrames (s : State) : State :=
  if s.mesh.waiting.isEmpty then s
  else (s.mesh.waiting.map (·.lane)).eraseDups.foldl (fun (s : State) l => pumpLane s.mesh.waiting.length l s) s

/-- A frame is given to a lane's output: it starts at once when the output is free, and waits otherwise (R257). A transmitter that
dozes or is quiet sends nothing (R266, R268). -/
def sendOn (l : Nat) (f : MeshFrame) (s : State) : State :=
  let s := pumpLane s.mesh.waiting.length l s
  let f := { f with lane := l }
  if !s.txOpen l then s
  else if (s.lane l).txFree ≤ s.now then startFrame f s.now s
  else { s with mesh := { s.mesh with waiting := s.mesh.waiting ++ [f] } }

/-- A frame leaves on each of some lanes. -/
def floodOn (ls : List Nat) (f : MeshFrame) (s : State) : State := ls.foldl (fun s l => sendOn l f s) s

/-- The actions of MODE 2 take place: the DRAM goes into self-refresh and the core supplies off (R324). -/
def stopFull (s : State) : State :=
  if s.gk.mode ≥ 2 then { s with mem := { s.mem with selfRefresh := true }, cells := { s.cells with powered := 0 } } else s

/-- The wait of a SAFE_STOP ends: the commit has ended, or it is cut short after 1 ms and journaled (R324). -/
def endStopWait (cut : Bool) (s : State) : State :=
  let s := if cut then journalEvent 3 blkGk 0 (0x3800 / 4) s.gk.mode 0 s else s
  stopFull { s with gk := { s.gk with commitWait := false } }

/-- SAFE_STOP (R324). Each mode includes the lower modes; a higher mode than the one in force replaces it. MODE 1 and 2 wait up to 1 ms
for the RMW commit in progress. -/
def safeStop (mode : Nat) (s : State) : State :=
  let was := s.gk.stopped
  let mode := if was then max mode s.gk.mode else mode
  let wait := decide (1 ≤ mode) && s.arraysRun && s.rmw.pass.isSome
  let s := quietLanes ((List.range 128).filter fun l => s.role l = 2 || s.role l = 3) s
  let s := { s with pcie := { s.pcie with dmaStopped := true }
                    gk := { s.gk with stopped := true, mode := mode, commitWait := wait,
                                      stoppedAt := if s.gk.commitWait then s.gk.stoppedAt else s.now } }
  freezeOn 8 (if was then (if wait then s else stopFull s) else raiseEvent 11 (if wait then s else stopFull s))

/-- The thermal trip of R325 and R393. -/
def thermalTrip (s : State) : State :=
  let was := s.gk.thermalTrip
  let s := freezeOn 1 s
  let s := safeStop 2 s
  let s := { s with gk := { s.gk with thermalTrip := true, thermtripN := false },
                    boot := { s.boot with thermalHold := true } }
  if was then s else raiseEvent 11 (journalFault 3 blkGk 3 (0x3800 / 4) 0 0 s)

end Sys2Proof.Machine
end

