-- ==== Sys2Proof/Machine/Kcp.lean ====
section
/-! DEFINITION. Kapex command packets: packet and reply bytes, rings, the checks of R230, the exactly-once record of
R231 to R233, cues at acceptance (R209 to R212), and the uniform description of an opcode. -/

namespace Sys2Proof.Machine
open Sys2Proof

/-! ### Packets (R218 to R220) -/

/-- The parameter bytes of a packet: PLEN bytes. -/
def kBody (k : KcpIn) : List Byte := fit k.plen.toNat k.params

/-- Header and parameters of a packet (R218). -/
def kBytes (code : BitVec 16) (k : KcpIn) : List Byte :=
  le2 k.magicVer.toNat ++ le2 code.toNat ++ le2 k.opcodeN.toNat ++ le2 k.flags.toNat ++ le4 k.seq.toNat ++
  le4 k.hostTag.toNat ++ le2 k.plen.toNat ++ le2 k.res0.toNat ++ le4 k.route.toNat ++ le8 k.executeAt.toNat ++ kBody k

/-- The CRC-32C that a packet must carry (R218). -/
def kCrc (code : BitVec 16) (k : KcpIn) : W32 := BitVec.ofNat 32 (crc32c (kBytes code k))

/-- The packet with its CRC-32C. -/
def kWire (code : BitVec 16) (k : KcpIn) : List Byte := kBytes code k ++ le4 k.crc.toNat

/-- Units that a packet occupies (R225). -/
def kUnits (k : KcpIn) : Nat := (36 + k.plen.toNat + 63) / 64

/-- FLAGS bits of R219. -/
def kExecAt (k : KcpIn) : Bool := k.flags.getLsbD 0
def kLateOk (k : KcpIn) : Bool := k.flags.getLsbD 1
def kNoReply (k : KcpIn) : Bool := k.flags.getLsbD 2
def kJournalOnly (k : KcpIn) : Bool := k.flags.getLsbD 3
def kRestep (k : KcpIn) : Bool := k.flags.getLsbD 4

/-- ROUTE fields of R218. -/
def kTarget (k : KcpIn) : Nat := k.route.toNat % 1024
def kScope (k : KcpIn) : Nat := k.route.toNat / 1024 % 4
def kOrigin (k : KcpIn) : Nat := k.route.toNat / 65536 % 1024

/-- A packet read from bytes that start with its 32-byte header (R218). -/
def kParse (path : Path) (dma : List Byte) (bs : List Byte) : BitVec 16 × KcpIn :=
  let plen := fieldAt 16 2 bs
  (BitVec.ofNat 16 (fieldAt 2 2 bs),
   { path := path
     magicVer := BitVec.ofNat 16 (fieldAt 0 2 bs)
     opcodeN := BitVec.ofNat 16 (fieldAt 4 2 bs)
     flags := BitVec.ofNat 16 (fieldAt 6 2 bs)
     seq := BitVec.ofNat 32 (fieldAt 8 4 bs)
     hostTag := BitVec.ofNat 32 (fieldAt 12 4 bs)
     plen := BitVec.ofNat 16 plen
     res0 := BitVec.ofNat 16 (fieldAt 18 2 bs)
     route := BitVec.ofNat 32 (fieldAt 20 4 bs)
     executeAt := BitVec.ofNat 64 (fieldAt 24 8 bs)
     params := slice 32 plen bs
     crc := BitVec.ofNat 32 (fieldAt (32 + plen) 4 bs)
     dma := dma })

/-! ### Answers and opcodes -/

/-- What the execution of a packet answers: a status, the detail of a refusal (R223), the result, and whether the
reply is still owed (RING_CFG, R229). -/
structure Answer where
  status : Status := .ok
  detail : Nat := 0
  arg : Nat := 0
  result : List Byte := []
  owed : Bool := false
  deriving DecidableEq, Repr

/-- Done as asked. -/
def ansOk (result : List Byte := []) : Answer := { result := result }
/-- Started; completes later. -/
def ansAccepted (result : List Byte := []) : Answer := { status := .accepted, result := result }
/-- BAD_PARAM, detail FIELD at a packet offset. -/
def ansField (off : Nat) : Answer := { status := .badParam, detail := 1, arg := off }
/-- BUSY, detail STATE with a state code. -/
def ansBusy (code : Nat) : Answer := { status := .busy, detail := 7, arg := code }

/-- Any other refusal without detail. -/
def ansRefuse (st : Status) : Answer := { status := st }

/-- DETAIL of R223, or the result. -/
def Answer.payload (a : Answer) : List Byte :=
  if statusRefused a.status then le2 a.detail ++ le2 a.arg else padTo 4 a.result

/-- What an opcode's own rules see of its packet: `par` are the effective parameters (from the buffer in buffer form). -/
structure Ctx where
  path : Path
  code : BitVec 16
  k : KcpIn
  par : List Byte
  buffered : Bool := false
  /-- The caller forms such packets itself: they have no number of the system series (log 22). -/
  own : Bool := false
  /-- The cue's place in the order of acceptance, when the packet is one (R212). -/
  cueId : Nat := 0

/-- SRC of the almanac records written for a packet: the groundskeeper on its paths, else the acting core (R331). -/
def pathSrc (p : Path) (s : State) : Nat := match p with | .gkr | .smbus => 3 | _ => s.srcTamzar

/-- An opcode of R241: cue class, path marks, the parameter form of R239 on parameter bytes, the packet offset of the
first RES0 parameter byte that is not zero, and what it does: run at once, be accepted as a cue whose point is fixed,
act at its point. -/
structure OpDef where
  code : BitVec 16
  cue : Option CueClass := none
  b : Bool := false
  bo : Bool := false
  g : Bool := false
  go : Bool := false
  uo : Bool := false
  sys : Bool := false
  xo : Bool := false
  never : Bool := false
  form : List Byte → Bool
  res0 : List Byte → Option Nat := fun _ => none
  /-- A complement-paired value or a table that the command uses has failed: the command is answered FAULT (R7, R240). -/
  fault : Ctx → State → Bool := fun _ _ => false
  run : Ctx → State → State × Answer
  accept : Ctx → Nat → State → State × Answer := fun _ _ s => (s, ansOk)
  atPoint : Ctx → State → State := fun _ s => s

/-- The first of some parameter byte ranges (offset, length) that holds a byte other than 0, as a packet offset. -/
def firstRes0 (ranges : List (Nat × Nat)) (p : List Byte) : Option Nat :=
  match ranges with
  | [] => none
  | (o, n) :: rs => if (slice o n p).all (· == 0) then firstRes0 rs p else some (32 + o)

/-- Parameters of exactly `n` bytes. -/
def formLen (n : Nat) (p : List Byte) : Bool := p.length == n

/-- The paged result of R239: TOTAL, OFFSET, then up to 4,056 bytes of the whole result from OFFSET. -/
def paged (off : Nat) (whole : List Byte) : List Byte :=
  le4 whole.length ++ le4 off ++ padTo 4 ((whole.drop off).take 4056)

/-- Items of R239: (ID, packet offset, value), or the offset of the item that does not fit. Recurses on fuel. -/
def parseItems (fuel off : Nat) (p : List Byte) : Option (List (Nat × Nat × List Byte)) × Nat :=
  match fuel with
  | 0 => (some [], off)
  | fuel + 1 =>
    if p.isEmpty then (some [], off)
    else if p.length < 4 then (none, off)
    else
      let id := fieldAt 0 2 p
      let len := fieldAt 2 2 p
      let tot := 4 + (len + 3) / 4 * 4
      if p.length < tot then (none, off)
      else
        match parseItems fuel (off + tot) (p.drop tot) with
        | (none, o) => (none, o)
        | (some rest, o) => (some ((id, off, slice 4 len p) :: rest), o)

/-- The Items form of R239: `lead` bytes of fixed fields, then items that end with the parameters. -/
def formItems (lead : Nat) (p : List Byte) : Bool :=
  decide (lead ≤ p.length) && (parseItems p.length 0 (p.drop lead)).1.isSome

/-- The offset of the second item of a repeated ID, if any (R239). -/
def repeatedItem : List (Nat × Nat × List Byte) → List Nat → Option Nat
  | [], _ => none
  | (id, off, _) :: rest, seen => if seen.contains id then some off else repeatedItem rest (id :: seen)

/-! ### Rings (R224 to R229) -/

/-- A ring of the machine. -/
def State.ring (s : State) : RingId → Ring
  | .urg => s.kcp.urg | .nrm => s.kcp.nrm | .blk => s.kcp.blk | .gkr => s.kcp.gkr

/-- Replace a ring. -/
def State.setRing (s : State) (r : RingId) (x : Ring) : State :=
  match r with
  | .urg => { s with kcp := { s.kcp with urg := x } }
  | .nrm => { s with kcp := { s.kcp with nrm := x } }
  | .blk => { s with kcp := { s.kcp with blk := x } }
  | .gkr => { s with kcp := { s.kcp with gkr := x } }

/-- The ring of a path, if it is one. -/
def pathRing : Path → Option RingId
  | .urg => some .urg | .nrm => some .nrm | .blk => some .blk | .gkr => some .gkr | _ => none

/-- The path of a ring. -/
def ringPath : RingId → Path
  | .urg => .urg | .nrm => .nrm | .blk => .blk | .gkr => .gkr

/-- Number r of a ring (R224). -/
def ringNum : RingId → Nat
  | .urg => 0 | .nrm => 1 | .blk => 2 | .gkr => 3

/-- RING byte of a RECEIVE record: r of R224; 4 for SMBus and 5 for the mesh (log 18). -/
def pathNum : Path → Nat
  | .urg => 0 | .nrm => 1 | .blk => 2 | .gkr => 3 | .smbus => 4 | .mesh => 5

/-- Units of the largest reply of a ring (R227). -/
def ringLargest : RingId → Nat
  | .gkr => 6 | _ => 65

/-- Size of a reply ring in units. -/
def Ring.rplUnits (x : Ring) : Nat := 2 ^ x.rplLog2 / 64

/-- Size of a command ring in units. -/
def Ring.cmdUnits (x : Ring) : Nat := 2 ^ x.cmdLog2 / 64

/-- Reply units in use. -/
def Ring.rplUsed (x : Ring) : Nat := (x.rplProd - x.rplCons).toNat

/-- Room for the largest reply for every reply owed and one more, and `extra` units for relayed replies (R227, R238). -/
def Ring.room (r : RingId) (x : Ring) (extra : Nat := 0) : Bool :=
  x.rplUsed + ringLargest r * (x.owed + 1) + extra ≤ x.rplUnits

/-- Relayed packets of a ring whose targets' replies are still to come (R238). -/
def State.relaysOf (s : State) (r : RingId) : List Relay := s.kcp.relayed.filter (·.path = ringPath r)

/-- Reply units kept for them: the largest reply for a single target, one unit for each of several (R227, R238). -/
def State.relayUnits (s : State) (r : RingId) : Nat :=
  ((s.relaysOf r).map fun x => if x.single then ringLargest r * x.due.length else x.due.length).sum

/-- Replies owed on a ring, those of relayed packets' targets among them (R227, R229). -/
def State.owedOn (s : State) (r : RingId) : Nat := (s.ring r).owed + ((s.relaysOf r).map (·.due.length)).sum

/-- The ring's vector is raised (R225). -/
def ringVector (r : RingId) (s : State) : State := sendVector (s.ring r).vector s

/-- Bytes enter the groundskeeper's part of BAR2, at an offset from 0x4_1000 (R225). -/
def gkWrite (off : Nat) (bs : List Byte) (s : State) : State :=
  { s with kcp := { s.kcp with gkWindow := Memory.writeBytes off bs s.kcp.gkWindow } }

/-- The writeback of R225: reply producer index and command consumer index. The groundskeeper ring's lies at 0x4_2000 of BAR2. -/
def writeback (r : RingId) (s : State) : State :=
  let x := s.ring r
  let bs := le4 x.rplProd.toNat ++ le4 x.cons.toNat
  match r with
  | .gkr => gkWrite 4096 bs s
  | _ => hostWrite x.wb.toNat bs s

/-- A halt of a ring (R228). -/
def haltRing (r : RingId) (cause : Nat) (s : State) : State :=
  let x := s.ring r
  ringVector r ((s.setRing r { x with halted := true, haltCause := cause }).bump .kcpHalt)

/-! ### Replies (R221, R225) -/

/-- Header, result and CRC-32C of a reply (R221). -/
def replyBytes (r : Reply) : List Byte :=
  let body := le2 0xCA51 ++ le2 r.status.toNat ++ le2 (~~~ r.status).toNat ++ le2 r.rflags.toNat ++
    le4 r.seq.toNat ++ le4 r.hostTag.toNat ++ le2 r.result.length ++ le2 r.opcode.toNat ++ le2 r.device.toNat ++
    le2 r.timeFrac.toNat ++ le8 r.timeNs.toNat ++ r.result
  body ++ le4 (crc32c body)

/-- Bytes written by `put` into a reply ring of `size` bytes at `base` from position `pos`, wrapping past its end (R225). -/
def ringWrite (put : Nat → List Byte → State → State) (base size pos : Nat) (bs : List Byte) (s : State) : State :=
  let off := pos % size
  let first := bs.take (size - off)
  let rest := bs.drop (size - off)
  let s := put (base + off) first s
  if rest.isEmpty then s else put base rest s

/-- Write a reply into the reply ring of a ring, its writeback, and raise its vector (R225). A ring whose ENABLE has
been cleared writes nothing: the replies it owed are discarded (R358). -/
def ringReply (r : RingId) (rep : Reply) (s : State) : State :=
  let x := s.ring r
  if x.enable then
    let bs := replyBytes rep
    let units := (bs.length + 63) / 64
    let s := match r with
      | .gkr => ringWrite gkWrite 0 (2 ^ x.rplLog2) (64 * x.rplProd.toNat) bs s
      | _ => ringWrite hostWrite x.rplBase.toNat (2 ^ x.rplLog2) (64 * x.rplProd.toNat) bs s
    let s := s.setRing r { x with rplProd := x.rplProd + BitVec.ofNat 32 units, replies := x.replies ++ [rep] }
    ringVector r (writeback r s)
  else s


/-- A frame leaves towards the mesh (R253, R256): a LINK frame on its own lane; a DEVICE frame on the lane of the route table,
or flooded and counted for want of a route; any other on every up mesh lane. -/
def meshOut (f : MeshFrame) (s : State) : State :=
  match f.dest.toNat / 1024 % 4 with
  | 0 => sendOn f.lane f s
  | 1 =>
    match s.mesh.routes.find? (·.1 = f.dest.toNat % 1024) with
    | some (_, l) => if s.laneUp l then sendOn l f s else floodOn s.upLanes f (s.bump .lnMeshNoRoute)
    | none => floodOn s.upLanes f (s.bump .lnMeshNoRoute)
  | _ => floodOn s.upLanes f s

/-- The next FSEQ of a TYPE, and the state that has used it (R252). -/
def takeFseq (type : Nat) (s : State) : W32 × State :=
  let n := match s.mesh.fseq.find? (·.1 = type) with | some (_, n) => n | none => 0
  (BitVec.ofNat 32 n,
   { s with mesh := { s.mesh with fseq := (type, n + 1) :: s.mesh.fseq.filter (·.1 ≠ type) } })

/-- DEST field of R252: [9:0] index, [11:10] SCOPE. -/
def destField (scope index : Nat) : BitVec 16 := BitVec.ofNat 16 (scope * 1024 + index)

/-- HOLDER of a caller lease word (R318). -/
def leaseHolder (w : W32) : Nat := w.toNat % 1024
/-- TERM of a caller lease word (R318). -/
def callerTerm (w : W32) : Nat := w.toNat / 1024
/-- A caller lease word. -/
def callerWord (holder term : Nat) : W32 := BitVec.ofNat 32 (holder + 1024 * (term % 2 ^ 22))
/-- The caller lease word that the device uses: none when it does not match its stored complement (R7, R318). -/
def State.callerLease (s : State) : W32 := if s.mesh.leaseN == ~~~ s.mesh.lease then s.mesh.lease else callerWord 0x3FF 0

/-! ### The exactly-once record (R231 to R233) -/

/-- SERIES code of a RECEIVE record (R333). -/
def pathSeries : Path → Nat
  | .gkr | .smbus => 1 | .mesh => 2 | _ => 0

/-- The series of a path (R231). -/
def State.series (s : State) (p : Path) : Series :=
  match pathSeries p with | 1 => s.kcp.gk | 2 => s.kcp.sys | _ => s.kcp.host

/-- Replace the series of a path. -/
def State.setSeries (s : State) (p : Path) (x : Series) : State :=
  match pathSeries p with
  | 1 => { s with kcp := { s.kcp with gk := x } }
  | 2 => { s with kcp := { s.kcp with sys := x } }
  | _ => { s with kcp := { s.kcp with host := x } }

/-- What R231 says of a packet's number. -/
inductive SeqCase where
  | first | ahead (gap : Nat) | within | executed (rep : Option Reply) | stale
  deriving DecidableEq, Repr

/-- The table of R231. -/
def seqCase (x : Series) (seq : W32) : SeqCase :=
  if !x.started then .first
  else
    let d := (seq - x.h).toNat
    if 1 ≤ d ∧ d ≤ 2 ^ 31 - 1 then .ahead (d - 1)
    else if (x.h - seq).toNat ≤ 1023 then
      match x.done.find? (·.1 = seq) with
      | some (_, rep) => .executed rep
      | none => .within
    else .stale

/-- The series after a number is entered, its reply still open: H moves, and only the last 1,024 numbers are kept. -/
def Series.enter (x : Series) (seq : W32) : Series :=
  let h := match seqCase x seq with | .first | .ahead _ => seq | _ => x.h
  { started := true, h := h,
    done := (seq, none) :: x.done.filter fun e => e.1 ≠ seq && (h - e.1).toNat ≤ 1023 }

/-- Store the reply of a number (R232). -/
def Series.store (x : Series) (seq : W32) (rep : Reply) : Series :=
  { x with done := x.done.map fun e => if e.1 = seq then (seq, some rep) else e }

/-- The 16-byte value of a cue entry (R212). -/
def CueEntry.value (e : CueEntry) : BitVec 128 :=
  let cls := match e.cls with | .sweep => 0 | .sample => 1 | .time => 2
  let flags := cls + 4 * bitOf e.lateRun + 8 * bitOf e.isLocal + 16 * bitOf e.system + 32 * bitOf e.tentative
  BitVec.ofNat 128 (e.point.toNat + 2 ^ 64 * e.seq.toNat + 2 ^ 96 * e.opcode.toNat + 2 ^ 112 * flags)

/-- The entry with its complement formed from its value. -/
def CueEntry.sealed (e : CueEntry) : CueEntry := { e with complement := ~~~ e.value }

/-- The complement matches (R7, R212). -/
def CueEntry.good (e : CueEntry) : Bool := e.complement == ~~~ e.value

/-- The 32 bytes of an entry (R212). -/
def CueEntry.bytes (e : CueEntry) : List Byte := le 16 e.value.toNat ++ le 16 e.complement.toNat


/-! ### Relayed frames and replies at the caller (R215, R236, R238, R262) -/

/-- Segment of a device as the caller knows it (R344). -/
def State.segmentOf (s : State) (d : Nat) : Nat :=
  if d = s.mesh.index.toNat then s.mesh.segment
  else match s.mesh.system.find? (·.index = d) with | some r => fieldAt 10 1 r.device | none => s.mesh.segment

/-- The lead of a segment: its device of lowest index that is not lost (R376). -/
def State.leadIndex (s : State) (seg : Nat) : Option Nat :=
  let me := s.mesh.index.toNat
  let ds := ((s.mesh.system.map (·.index)).filter fun d => d ≠ me && !s.mesh.lost.contains d && s.segmentOf d = seg) ++
    (if s.mesh.segment = seg then [me] else [])
  ds.foldl (fun (b : Option Nat) d => match b with | some e => some (min d e) | none => some d) none

/-- Segments that a packet's SCOPE and TARGET address. -/
def State.segments (s : State) (scope target : Nat) : List Nat :=
  match scope with
  | 1 => [s.segmentOf target]
  | 2 => [target % 32]
  | _ => ((s.mesh.system.map (·.index)).map s.segmentOf ++ [s.mesh.segment]).eraseDups

/-- What a lead sends on (R262): to the one target, or once to its whole segment. -/
def leadSend (scope target : Nat) (packet : List Byte) (s : State) : State :=
  let (n, s) := takeFseq 0x15 s
  let dest := if scope = 1 then destField 1 target else destField 2 s.mesh.segment
  meshOut { lane := 0, type := 0x15, src := s.mesh.index.toNat, dest := dest, fseq := n, body := packet } s

/-- The caller's KCP frames (R262): one with SCOPE DEVICE to the lead of each addressed segment; a segment that it leads
itself, or one without a known lead, it serves itself. -/
def relayFrames (scope target : Nat) (packet : List Byte) (s : State) : State :=
  (s.segments scope target).foldl (fun (s : State) seg =>
    match s.leadIndex seg with
    | some d =>
      if d = s.mesh.index.toNat then leadSend scope target packet s
      else
        let (n, s) := takeFseq 0x15 s
        meshOut { lane := 0, type := 0x15, src := s.mesh.index.toNat, dest := destField 1 d, fseq := n, body := packet } s
    | none =>
      let (n, s) := takeFseq 0x15 s
      meshOut { lane := 0, type := 0x15, src := s.mesh.index.toNat,
                dest := if scope = 1 then destField 1 target else destField 2 seg, fseq := n, body := packet } s) s

/-- The table's entry of a number: host and system cues are numbered apart (R214, R231). -/
def State.cueEntry (s : State) (system : Bool) (seq : W32) : Option CueEntry :=
  s.cues.entries.find? fun e => e.seq = seq && e.system == system

/-- What the units hold for a cue that will not run: its swap, its sieve resets and bank swaps, its stripe (R120, R131,
R134, R307). -/
def dropUnits (id : Nat) (s : State) : State :=
  { s with
    cells := { s.cells with stripeOff := s.cells.stripeOff.filter (·.cue ≠ some id) }
    beams := { s.beams with swaps := s.beams.swaps.filter (·.cue ≠ some id) }
    riddle := { s.riddle with sieves := s.riddle.sieves.map fun x =>
      { x with pend := x.pend.filter (·.cue ≠ some id), swaps := x.swaps.filter (·.cue ≠ some id) } } }

/-- Remove an entry, its packet and what the units hold for it. -/
def removeCue (e : CueEntry) (s : State) : State :=
  let s := dropUnits e.id s
  { s with cues := { s.cues with entries := s.cues.entries.filter (·.id ≠ e.id),
                                 packets := s.cues.packets.filter (·.1 ≠ e.id) } }

/-- A packet the caller forms itself for the members: CONFIRM (0x0610) or CANCEL (0x0611) of a system cue (R215). It carries
the cue's number and takes none of its own (log 22). -/
def sendCueWord (code : BitVec 16) (cue : W32) (s : State) : State :=
  let k : KcpIn := { path := .mesh, opcodeN := ~~~ code, seq := cue, plen := 4, params := le4 cue.toNat,
                     route := BitVec.ofNat 32 (3 * 1024 + 65536 * s.mesh.index.toNat) }
  let k := { k with crc := kCrc code k }
  relayFrames 3 0 (kWire code k) s

/-- A system cue is settled on the caller: CONFIRM when every device accepted, else CANCEL to all (R215). The caller's own
entry, if it holds one, follows. -/
def settleSystemCue (c : SysCue) (ok : Bool) (s : State) : State :=
  let s := { s with cues := { s.cues with system := s.cues.system.map fun x =>
                                if x.seq = c.seq then { x with settled := true, cancelled := x.cancelled || !ok } else x } }
  if ok then
    let s := sendCueWord 0x0610 c.seq s
    { s with cues := { s.cues with entries := s.cues.entries.map fun e =>
                                     if e.seq = c.seq && e.system && e.good then CueEntry.sealed { e with tentative := false } else e } }
  else
    let s := sendCueWord 0x0611 c.seq s
    match s.cueEntry true c.seq with
    | some e => removeCue e (s.bump .tmCueCancelled)
    | none => s

/-- A target's answer to a system cue (R215): the cue is settled when every device has accepted, or at once when one refuses. -/
def cueAnswer (src : Nat) (rep : Reply) (s : State) : State :=
  match s.cues.system.find? fun c => c.seq = rep.seq && !c.settled && c.devs.any fun d => d.1 = src && d.2.isNone with
  | none => s
  | some c =>
    let c := { c with devs := c.devs.map fun (d, st) => if d = src && st.isNone then (d, some rep.status) else (d, st) }
    let s := { s with cues := { s.cues with system := s.cues.system.map fun x =>
      if x.seq = c.seq && !x.settled then c else x } }
    if rep.status.getLsbD 15 then settleSystemCue c false s
    else if c.devs.all (·.2.isSome) then settleSystemCue c true s
    else s

/-- A target's reply has come (R238): it is written into the reply ring of the ring that carried the original, with RELAYED,
its result cut to 24 bytes when the packet had SCOPE 2 or 3. NO_REPLY suppresses what it suppresses of any reply, and no DUPLICATE
(R219, R233). A reply to a packet that the caller formed itself goes to no ring. -/
def takeReply (src : Nat) (rep : Reply) (s : State) : State :=
  if rep.opcode = 0x0205 || rep.opcode = 0x0610 || rep.opcode = 0x0611 then s
  else
  let s := cueAnswer src rep s
  match s.kcp.relayed.find? fun r => r.seq = rep.seq && r.due.contains src with
  | none => s
  | some r =>
    let s := { s with kcp := { s.kcp with relayed := (s.kcp.relayed.map fun (x : Relay) =>
      if x.seq = r.seq then { x with due := x.due.filter (· ≠ src) } else x).filter fun (x : Relay) => !x.due.isEmpty } }
    let long := !r.single && decide (24 < rep.result.length)
    let rep := { rep with
      hostTag := r.hostTag, device := BitVec.ofNat 16 src
      rflags := rep.rflags ||| BitVec.ofNat 16 (4 + 8 * bitOf long)
      result := if long then rep.result.take 24 else rep.result }
    let quiet := r.noReply && !rep.rflags.getLsbD 0 && decide (rep.status.toNat ≤ 2)
    match pathRing r.path with
    | some ring => if quiet then s else ringReply ring rep s
    | none => s

/-! ### Sending replies (R219, R221) -/

/-- Deliver a reply on the path its packet came by (R224, R238, R363); a relayed packet's goes to the caller that ORIGIN
names. -/
def sendReply (p : Path) (origin : Nat) (rep : Reply) (s : State) : State :=
  match p with
  | .urg => ringReply .urg rep s
  | .nrm => ringReply .nrm rep s
  | .blk => ringReply .blk rep s
  | .gkr => ringReply .gkr rep s
  | .smbus => { s with smb := { s.smb with replies := s.smb.replies ++ [rep] } }
  | .mesh =>
    if origin = s.mesh.index.toNat then takeReply origin rep s
    else
      let (n, s) := takeFseq 0x16 s
      meshOut { lane := 0, type := 0x16, src := s.srcIndex, dest := destField 1 origin, fseq := n,
                body := replyBytes rep } s

/-- The reply to a packet (R221): completion time is now. -/
def mkReply (p : Path) (code : BitVec 16) (k : KcpIn) (a : Answer) (flags : Nat) (s : State) : Reply :=
  { status := BitVec.ofNat 16 (statusCode a.status)
    rflags := BitVec.ofNat 16 (flags + (match p with | .gkr | .smbus => 0x20 | _ => 0))
    seq := k.seq
    hostTag := k.hostTag
    opcode := code
    device := BitVec.ofNat 16 s.mesh.index.toNat
    timeFrac := fracOf s.time16
    timeNs := nsOf s.time16
    result := a.payload }

/-- A status that NO_REPLY suppresses (R219). -/
def quietStatus (st : Status) : Bool := st == .ok || st == .accepted || st == .deferred

/-- Bytes in pieces of at most `n`. Recurses on fuel. -/
def chunksOf (fuel n : Nat) (bs : List Byte) : List (List Byte) :=
  match fuel with
  | 0 => []
  | fuel + 1 => if bs.length ≤ n then [bs] else bs.take n :: chunksOf fuel n (bs.drop n)

/-- The RECEIVE record of R333; a buffer-form parameter block follows in CONT records of at most the 8,191 units that LEN
holds (R331). -/
def journalReceive (p : Path) (code : BitVec 16) (k : KcpIn) (buffered : Bool) (s : State) : State :=
  let src := pathSrc p s
  let s := record 0x01 src (le 1 (pathSeries p) ++ le 1 (pathNum p) ++ zeros 2 ++ le4 s.kcp.take.toNat ++ kWire code k) s
  if buffered && !k.dma.isEmpty then
    (chunksOf k.dma.length 65528 k.dma).foldl (fun (s : State) (b : List Byte) => record 0x01 src b s 2) s
  else s

/-- The COMMIT record of R333. -/
def journalCommit (p : Path) (k : KcpIn) (rep : Reply) (s : State) : State :=
  record 0x02 (pathSrc p s) (le 1 (pathSeries p) ++ zeros 3 ++ le4 k.seq.toNat ++ replyBytes rep) s

/-! ### Cues at acceptance (R209 to R212) -/

/-- First sample at or after a device time in 2^-16 ns (R207). -/
def State.sampleAtOrAfter (s : State) (t16 : Int) : Nat :=
  let d := (t16 - s.time.epochTime) * s.time.pDen
  let n := s.time.pNum * 2 ^ 16
  if d ≤ 0 then 0
  else
    -- the smallest i with floor(i * pNum * 2^16 / pDen) ≥ t16 - t0
    (d.toNat + n - 1) / n

/-- Device time of a sample, 2^-16 ns (R207). -/
def State.sampleTime (s : State) (i : Nat) : Int :=
  s.time.epochTime + (i * s.time.pNum * 2 ^ 16 / s.time.pDen : Nat)

/-- Position of a device time in samples, in units of 2^-32 (R207). -/
def State.positionOf (s : State) (t16 : Int) : Int :=
  (t16 - s.time.epochTime) * s.time.pDen * 2 ^ 32 / (s.time.pNum * 2 ^ 16 : Nat)

/-- Where a cue acts: its point, whether it is late-run, and whether it is local. -/
structure CuePoint where
  point : Nat
  lateRun : Bool := false
  isLocal : Bool := false
  deriving DecidableEq, Repr

/-- The highest sweep of which a dwell has started compute (R210), plus one; 0 when none has. -/
def State.nextSweep (s : State) : Nat := match s.xa.startedSweep with | some k => k + 1 | none => 0

/-- Judge the point of a cue under R209 to R211: the point, or the refusal. PLAN_SUBMIT judges its own (R403). -/
def cuePoint (cls : CueClass) (k : KcpIn) (s : State) : CuePoint ⊕ Answer :=
  let v := k.executeAt.toNat
  let loc := k.executeAt.getLsbD 63
  let form62 := k.executeAt.getLsbD 62
  let T := s.planT
  if loc then
    match cls with
    | .time =>
      if form62 then .inr (ansField 24)
      else
        let f := v % 2 ^ 62
        if f < s.now then
          if kLateOk k then .inl { point := s.now, lateRun := true, isLocal := true } else .inr (ansRefuse .late)
        else .inl { point := f, isLocal := true }
    | _ =>
      if !form62 || v % 2 ^ 62 ≥ 2 ^ 48 then .inr (ansField 24)
      else if s.plan.active.isNone then .inr (ansBusy s.planCode)
      else
        let sc := v % 2 ^ 48
        let (sweep, pt) := match cls with | .sweep => ((sc + T - 1) / T, (sc + T - 1) / T * T) | _ => (sc / T, sc)
        if sweep < s.nextSweep then
          if kLateOk k then .inl { point := s.nextSweep * T, lateRun := true, isLocal := true }
          else .inr (ansRefuse .late)
        else .inl { point := pt, isLocal := true }
  else if !s.time.synced then .inr (ansRefuse .notSynced)
  else
    match cls with
    | .time =>
      if (v : Int) * 2 ^ 16 < s.time16 then
        if kLateOk k then .inl { point := (s.time16 / 2 ^ 16).toNat, lateRun := true } else .inr (ansRefuse .late)
      else .inl { point := v }
    | _ =>
      if !s.time.epochSet then .inr (ansRefuse .notSynced)
      else if s.plan.active.isNone then .inr (ansBusy s.planCode)
      else
        let sc := s.sampleAtOrAfter ((v : Int) * 2 ^ 16)
        let (sweep, pt) := match cls with | .sweep => ((sc + T - 1) / T, (sc + T - 1) / T * T) | _ => (sc / T, sc)
        if sweep < s.nextSweep then
          if kLateOk k then .inl { point := s.nextSweep * T, lateRun := true } else .inr (ansRefuse .late)
        else .inl { point := pt }

/-- Entries in use of the cue table (R212, TM_CUE_STATUS). -/
def State.cueFill (s : State) : Nat := s.cues.entries.length

/-- The cue prefix of a result (R223). -/
def cuePrefix (pt : CuePoint) : List Byte := le8 pt.point ++ le4 (bitOf pt.lateRun)

/-- Put a cue into the table with its packet (R212, log 7). -/
def addCue (cls : CueClass) (c : Ctx) (pt : CuePoint) (system : Bool) (s : State) : State :=
  let e : CueEntry := CueEntry.sealed
    { point := BitVec.ofNat 64 pt.point, seq := c.k.seq, opcode := c.code, cls := cls, id := s.cues.nextId
      lateRun := pt.lateRun, isLocal := pt.isLocal, system := system, tentative := system, complement := 0 }
  { s with cues := { s.cues with entries := s.cues.entries ++ [e], nextId := s.cues.nextId + 1
                                 packets := s.cues.packets ++ [(s.cues.nextId, c.code, c.k)] } }

/-- Accept a packet with EXEC_AT: steps 10 to 12 of R230 for a cue. -/
def runCue (op : OpDef) (cls : CueClass) (c : Ctx) (s : State) : State × Answer :=
  match cuePoint cls c.k s with
  | .inr a =>
    (match a.status with
     | .late => s.bump .tmCueLate
     | .notSynced => s.bump .tmCueNotSynced
     | _ => s, a)
  | .inl pt =>
    let c := { c with cueId := s.cues.nextId }
    let (s', a) := op.accept c pt.point s
    if statusRefused a.status then (s', a)
    else if s.cueFill ≥ 512 then
      ({ s with cues := { s.cues with fullSeen := true } }, ansBusy 512)
    else
      let system := c.path == .mesh && kScope c.k ≥ 2
      let s' := addCue cls c pt system s'
      (if pt.lateRun then s'.bump .tmCueLateRun else s', { a with result := (cuePrefix pt ++ a.result).take 4064 })

/-! ### The checks of R230 -/

/-- The opcode is allowed on a path (R224, R241). -/
def OpDef.allowed (op : OpDef) : Path → Bool
  | .urg => !op.bo && !op.xo && !op.go
  | .nrm => !op.bo && !op.xo && !op.go && !op.uo
  | .blk => op.b || op.bo
  | .gkr | .smbus => op.g || op.go
  | .mesh => !op.never && !op.bo && !op.go && !op.uo

/-- After a failed training, at step DRAM, Tamzar refuses PLAN_SUBMIT, the classes 0x05, 0x08 and 0x0A, and the lane commands that want
step LANES (R370, log 152). -/
def needTrained (f : Ctx → State → State × Answer) (c : Ctx) (s : State) : State × Answer :=
  if s.boot.trainFail && c.path != .gkr && c.path != .smbus then (s, ansBusy 4) else f c s

/-- The buffer form applies: an opcode marked B on Bulk (R239). -/
def OpDef.buffered (op : OpDef) (p : Path) : Bool := op.b && p == .blk

/-- The effective parameters of a packet: those of the buffer form are read only up to 16 MiB (R239). -/
def effPar (op : OpDef) (k : KcpIn) : List Byte :=
  if op.buffered k.path then (if fieldAt 8 4 (kBody k) ≤ 2 ^ 24 then fit (fieldAt 8 4 (kBody k)) k.dma else [])
  else kBody k

/-- The offset of the first offending header or RES0 field of step 6, if any. -/
def headerFault (op : OpDef) (k : KcpIn) : Option Nat :=
  if k.flags.toNat ≥ 32 || (kExecAt k && op.cue.isNone) || (kRestep k && op.code ≠ 0x0604) then some 6
  else if k.res0 ≠ 0 then some 18
  else if k.route.toNat / 4096 % 16 ≠ 0 || k.route.toNat ≥ 2 ^ 26
      || (k.path ≠ .mesh && kOrigin k ≠ 0) || (op.never && kScope k ≠ 0 && k.path ≠ .mesh) then some 20
  else if !kExecAt k && k.executeAt ≠ 0 then some 24
  else op.res0 (effPar op k)

/-- Steps 1 to 7 of R230. -/
def earlyCheck (code : BitVec 16) (op? : Option OpDef) (k : KcpIn) : Option Answer :=
  if k.magicVer ≠ 0xCA51 then some { status := .badOpcode, detail := 5 }
  else if k.plen.toNat > 4064 || k.plen.toNat % 4 ≠ 0 then some { status := .badLength, detail := 1, arg := 16 }
  else if k.crc ≠ kCrc code k then some { status := .badLength, detail := 6 }
  else if k.opcodeN ≠ ~~~ code then some { status := .badComplement }
  else match op? with
    | none => some { status := .badOpcode }
    | some op =>
      if !op.allowed k.path then some { status := .badOpcode, detail := 2 }
      else match headerFault op k with
        | some o => some (ansField o)
        | none =>
          let gk := k.path == .gkr || k.path == .smbus
          let okForm :=
            if op.buffered k.path then
              k.plen.toNat = 24 && fieldAt 8 4 (kBody k) ≤ 2 ^ 24 && op.form (effPar op k)
            else op.form (kBody k)
          if !okForm || (gk && k.plen.toNat > 64) then some { status := .badLength, detail := 1, arg := 16 }
          else none

/-- Authority: step 9 of R230 (R235, R237, R376). -/
def authority (op : OpDef) (c : Ctx) (s : State) : Option Answer :=
  let k := c.k
  match c.path with
  | .mesh =>
    if s.mesh.partitioned && kExecAt k && 2 ≤ kScope k then some (ansRefuse .partitioned)
    else if kOrigin k = leaseHolder s.callerLease then none
    else some { status := .noToken, detail := 4, arg := leaseHolder s.callerLease }
  | _ =>
    let need := op.sys || kScope k ≠ 0
    let alsoHeld := (op.code = 0x0604 && kRestep k) || (op.code = 0x0606 && fieldAt 4 1 c.par = 1)
    if s.boot.system = 1 && need then some { status := .noToken, detail := 4, arg := 0x3FF }
    else if s.mesh.partitioned && (need || alsoHeld) then some (ansRefuse .partitioned)
    else if need && !s.mesh.caller then some { status := .noToken, detail := 4, arg := leaseHolder s.callerLease }
    else none

/-! ### Taking a packet -/

/-- Reply to a packet that steps 1 to 7 refused: it does not enter the sequence record. -/
def refuseEarly (code : BitVec 16) (k : KcpIn) (a : Answer) (s : State) : State :=
  let jo := k.crc = kCrc code k && k.magicVer = 0xCA51 && kJournalOnly k
  let rep := mkReply k.path code k a (if jo then 0x10 else 0) s
  let s := s.bump .kcpHdrRefused
  let s := if jo then journalCommit k.path k rep (journalReceive k.path code k false s) else s
  let s := sendReply k.path (kOrigin k) rep s
  match pathRing k.path with
  | some r => if a.detail = 5 then haltRing r 1 s
              else if a.status = .badLength && a.detail = 1 && (k.plen.toNat > 4064 || k.plen.toNat % 4 ≠ 0) then
                haltRing r 2 s
              else s
  | none => s

/-- The caller itself is among the devices that a relayed packet addresses (R262). -/
def selfAddressed (k : KcpIn) (s : State) : Bool :=
  kScope k = 3 || (kScope k = 2 && kTarget k % 32 = s.mesh.segment)

/-- The devices a relayed packet addresses (R236): the members known to the caller, itself among them. -/
def relayTargets (k : KcpIn) (s : State) : List Nat :=
  let me := s.mesh.index.toNat
  let others := (s.mesh.system.map (·.index)).filter (· ≠ me)
  match kScope k with
  | 1 => [kTarget k]
  | 2 => (if selfAddressed k s then [me] else []) ++ others.filter fun d => s.segmentOf d = kTarget k % 32
  | _ => me :: others

/-- A host packet that the caller relays: SCOPE above 0, unless SCOPE 1 names itself (R235, R236). -/
def relays (c : Ctx) (s : State) : Bool :=
  c.path ≠ .mesh && kScope c.k ≠ 0 && !(kScope c.k = 1 && kTarget c.k = s.mesh.index.toNat)

/-- The packet as the caller relays it (R236): ORIGIN set, the CRC-32C formed anew. -/
def relayed (code : BitVec 16) (k : KcpIn) (s : State) : KcpIn :=
  let k := { k with route := k.route ||| BitVec.ofNat 32 (65536 * s.mesh.index.toNat), path := .mesh }
  { k with crc := kCrc code k }

/-- Relay a packet (R236): the frame leaves, and the replies become due. A cue with SCOPE 2 or 3 is a system cue, recorded for
its answers (R215). -/
def relayOut (c : Ctx) (s : State) : State :=
  let k := relayed c.code c.k s
  let devs := relayTargets c.k s
  let s := relayFrames (kScope c.k) (kTarget c.k) (kWire c.code k) s
  let s := if devs.isEmpty then s else { s with kcp := { s.kcp with relayed := s.kcp.relayed ++
    [{ seq := k.seq, hostTag := k.hostTag, path := c.path, single := kScope k = 1, due := devs,
       noReply := kNoReply k }] } }
  if kExecAt k && kScope k ≥ 2 then
    { s with cues := { s.cues with system := s.cues.system ++
      [{ seq := k.seq, path := c.path, sentAt := s.now, devs := devs.map fun d => (d, none) }] } }
  else s

/-- Steps 9 to 12 of R230 on a packet that has been journaled as received. -/
def lateSteps (op : OpDef) (c : Ctx) (s : State) : State × Answer :=
  match authority op c s with
  | some a => (if c.path == .mesh && a.status = .noToken then s.bump .kcpMeshNoToken else s, a)
  | none =>
    if relays c s then
      if kLateOk c.k && kExecAt c.k && kScope c.k ≥ 2 then (s, ansField 6)
      else (relayOut c s, ansAccepted)
    else
      match kExecAt c.k, op.cue with
      | true, some cls =>
        if op.code = 0x0201 then op.run c s
        else if op.fault c s then (s, { status := .fault })
        else
          let (s, a) := runCue op cls c s
          (countRefusedSwap op a s, a)
      | _, _ =>
        if op.fault c s then (s, { status := .fault })
        else
          let (s, a) := op.run c s
          (countRefusedSwap op a s, a)
where
  /-- BF_REFUSED: a BEAM_SWAP refused with BUSY or LATE (R137). -/
  countRefusedSwap (op : OpDef) (a : Answer) (s : State) : State :=
    if op.code = 0x0405 && (a.status == .busy || a.status == .late) then s.bump .bfRefused else s

/-- Write the result of a buffered packet by DMA; the reply result is the length written (R239). CAPTURE_DRAIN keeps the
buffer for its records (R184). -/
def bufferResult (c : Ctx) (s : State) (a : Answer) : State × Answer :=
  if c.buffered && !statusRefused a.status && c.code ≠ 0x0506 then
    let body := kBody c.k
    let len := fieldAt 12 4 body
    let out := (padTo 4 a.result).take len
    (startTransfer { seq := c.k.seq, kind := .bufferReply, addr := BitVec.ofNat 64 (fieldAt 16 8 body), data := out,
                     len := out.length } s,
     { a with result := le4 out.length })
  else (s, a)

/-- Commit and reply: the COMMIT record, the stored reply, then the reply unless NO_REPLY suppresses it (R219, R232). A target
always answers the caller, which suppresses the reply to its host. -/
def commitReply (c : Ctx) (a : Answer) (flags : Nat) (s : State) : State :=
  let rep := mkReply c.path c.code c.k a flags s
  let s := journalCommit c.path c.k rep s
  let s := if c.own then s else s.setSeries c.path ((s.series c.path).store c.k.seq rep)
  if kNoReply c.k && quietStatus a.status && c.path != .mesh then s else sendReply c.path (kOrigin c.k) rep s

/-- A packet is taken: the take index and KCP_TAKEN count it (R226, R243). -/
def countTaken (s : State) : State := ({ s with kcp := { s.kcp with take := s.kcp.take + 1 } }).bump .kcpTaken

/-- What the opcode's rules see of a packet. -/
def OpDef.ctx (op : OpDef) (k : KcpIn) : Ctx :=
  { path := k.path, code := op.code, k := k, par := effPar op k, buffered := op.buffered k.path, own := op.xo }

/-- The number of a packet enters its series, a gap is counted, and the RECEIVE record is written (R231, R333). -/
def enterPacket (op : OpDef) (k : KcpIn) (s : State) : State :=
  let t := match seqCase (s.series k.path) k.seq with | .ahead gap => s.bumpBy .kcpSeqGap gap | _ => s
  journalReceive k.path op.code k (op.buffered k.path) (t.setSeries k.path ((s.series k.path).enter k.seq))

/-- Steps 9 to 12 of R230, the buffer, and the commit (R232). -/
def finishPacket (op : OpDef) (c : Ctx) (s : State) : State :=
  let r := lateSteps op c s
  let b := bufferResult c r.1 r.2
  if b.2.owed then b.1
  else commitReply c b.2 0 (if b.2.status = .fault then commandFault c b.1 else b.1)
where
  /-- A command answered FAULT is counted and journaled with the fault (R240, R339). -/
  commandFault (c : Ctx) (s : State) : State :=
    freezeOn 7 (journalFault (pathSrc c.path s) blkKcp 0 Ctr.kcpFault.pid c.k.seq.toNat 0 (s.bump .kcpFault))

/-- Check and execute a packet that has been taken: R230 to R233. -/
def kcpTake (code : BitVec 16) (op? : Option OpDef) (k : KcpIn) (s : State) : State :=
  let s := countTaken s
  match earlyCheck code op? k, op? with
  | some a, _ => refuseEarly code k a s
  | none, none => s
  | none, some op =>
    if kJournalOnly k then
      let rep := mkReply k.path code k ansOk 0x10 s
      let s := journalCommit k.path k rep (journalReceive k.path code k (op.buffered k.path) s)
      if kNoReply k then s else sendReply k.path (kOrigin k) rep s
    else if op.xo then finishPacket op (op.ctx k) (journalReceive k.path code k false s)
    else
      match seqCase (s.series k.path) k.seq with
      | .executed (some rep) =>
        sendReply k.path (kOrigin k) { rep with rflags := rep.rflags ||| 1 } (s.bump .kcpDuplicate)
      | .executed none => s
      | .stale =>
        let rep := mkReply k.path code k { status := .badParam, detail := 3 } 0 s
        sendReply k.path (kOrigin k) rep (s.bump .kcpSeqStale)
      | .first | .ahead _ | .within => finishPacket op (op.ctx k) (enterPacket op k s)

/-- Take a packet. The caller executes a packet that it has relayed when the packet addresses it too, as the lead of its own
segment does (R262): the packet belongs to the system series there, and its reply is one of those due. -/
def kcpProcess (code : BitVec 16) (op? : Option OpDef) (k : KcpIn) (s : State) : State :=
  let n := s.kcp.relayed.length
  let s' := kcpTake code op? k s
  if k.path != .mesh && selfAddressed k s && n < s'.kcp.relayed.length then kcpTake code op? (relayed code k s) s' else s'

/-! ### Arrival of a packet on its path -/

/-- The path's executor takes packets now (R226, R370). The rings of Tamzar are read and answered by DMA (R358). -/
def State.pathServed (s : State) : Path → Bool
  | .gkr | .smbus => s.gkServes
  | .mesh => s.tamzarServes
  | _ => s.tamzarServes && s.msixOpen

/-- A ring may take its next packet: enabled, not halted, with reply room (R227, R228). -/
def State.ringReady (s : State) (r : RingId) (extra : Nat) : Bool :=
  (s.ring r).enable && !(s.ring r).halted && (s.ring r).room r (s.relayUnits r + extra)

/-- Reply units that a relayed packet with SCOPE 2 or 3 adds (R238). -/
def relayExtra (k : KcpIn) (s : State) : Nat := if kScope k ≥ 2 then (relayTargets k s).length else 0

/-- A packet is placed on its path and taken when the path can take it; otherwise its bytes wait in the ring (R225 to
R227), or, from the mesh, in the arrival order of R226. SMBus does not acknowledge it while four replies are held
(R363). -/
def kcpArrive (code : BitVec 16) (op? : Option OpDef) (k : KcpIn) (s : State) : State :=
  match k.path with
  | .smbus =>
    if !s.gkServes then s
    else if s.smb.replies.length ≥ 4 then { s with smb := { s.smb with nack := true } }
    else kcpProcess code op? k { s with smb := { s.smb with nack := false } }
  | .mesh =>
    let s := s.bump .kcpMeshIn
    if s.tamzarServes && s.kcp.meshWaiting.isEmpty then kcpProcess code op? k s
    else { s with kcp := { s.kcp with meshWaiting := s.kcp.meshWaiting ++ [(s.now, code, k)] } }
  | p =>
    match pathRing p with
    | none => s
    | some r =>
      let x := s.ring r
      if s.clk.held || !x.enable || x.halted then s
      else if (x.prod - x.cons).toNat + kUnits k > x.cmdUnits then haltRing r 3 s
      else
        let u := BitVec.ofNat 32 (kUnits k)
        if s.pathServed p && x.mem.isEmpty && s.ringReady r (relayExtra k s) then
          kcpProcess code op? k (s.setRing r { x with prod := x.prod + u, cons := x.cons + u })
        else
          let stall := s.pathServed p && x.mem.isEmpty
          let s := if stall then s.bump .kcpReplyStall else s
          s.setRing r { x with prod := x.prod + u, mem := x.mem ++ padTo 64 (kWire code k), dma := x.dma ++ [(s.now, k.dma)],
                               stall := x.stall || stall }

/-- The command of a table row that is a KCP opcode: its packet arrives on its path. -/
def kcpCommand (op : OpDef) (k : KcpIn) (s : State) : State := kcpArrive op.code (some op) k s

end Sys2Proof.Machine
end

