-- ==== Sys2Proof/Machine/TimeOps.lean ====
section
/-! DEFINITION. The state of the time unit, its sources and the choice of the PTP master (R193, R195, R196, R201). -/

namespace Sys2Proof.Machine
open Sys2Proof

/-- STATE code of R201. -/
def timeStateCode : TimeState → Nat
  | .unset => 0 | .acquire => 1 | .lock => 2 | .hold => 3 | .refuse => 4 | .unsynced => 5

/-- A TIME record (R333): KIND 0 step, 1 rate change, 2 accepted, 3 refused, 4 source change, 5 state change. -/
def journalTime (kind : Nat) (e : Int) (s : State) : State :=
  let t := s.time
  record 0x04 s.srcTamzar (le8 t.frc.toNat ++ le 1 kind ++ le 1 t.source ++ le 1 (timeStateCode t.state) ++ zeros 1 ++
    le4 t.rate.toNat ++ fit 16 (le 13 t.offset.toNat) ++ time10 e ++ zeros 6) s

/-- Change the state of the time unit, journaled when it changes. -/
def setTimeState (x : TimeState) (s : State) : State :=
  if s.time.state == x then s else journalTime 5 0 { s with time := { s.time with state := x } }

/-- RATE changes with its stored complement, and is journaled (R7, R193). -/
def setRate (r : BitVec 32) (s : State) : State :=
  if s.time.rate = r then s else journalTime 1 0 { s with time := { s.time with rate := r, rateN := ~~~ r } }

/-- OFFSET and RATE match their stored complements (R7, R193). -/
def State.timePaired (s : State) : Bool := s.time.offsetN == ~~~ s.time.offset && s.time.rateN == ~~~ s.time.rate

/-- The clamp of RATE: ±200 ppm in units of 2^-40 (R193, R203). -/
def rateLimit : Int := 219902325

/-- On entry to HOLD or REFUSE (R201): RATE becomes the frequency estimate; SYNCED stays only from LOCK, or from HOLD or
REFUSE with SYNCED. UNSET and UNSYNCED stay as they are. -/
def enterHeld (x : TimeState) (s : State) : State :=
  match s.time.state with
  | .unset | .unsynced => s
  | st =>
    if st == x then s
    else
      let keep := s.time.synced && st != .acquire
      let s := { s with time := { s.time with synced := keep, goodRun := 0 } }
      setTimeState x (if st == .hold || st == .refuse then s else holdRate s)
where
  /-- RATE becomes the frequency estimate; RATE_AT_LIMIT says whether that lies at the clamp (R216). -/
  holdRate (s : State) : State :=
    let est := s.time.freqEst
    setRate est { s with time := { s.time with rateAtLimit := decide (est.toInt = rateLimit ∨ est.toInt = -rateLimit) } }

/-! ### Sources (R195) -/

/-- A source is silent. -/
def State.sourceIsSilent (s : State) (k : Nat) : Bool :=
  match k with
  | 1 => s.time.ptpMaster.isNone
  | 2 => s.time.meshSilent || s.mesh.notSyncedLead
  | 3 => s.time.hostSilent
  | _ => true

/-- The highest-priority source that is not silent; 0 when every one is. -/
def State.bestSource (s : State) : Nat := (s.time.sources.find? fun k => !s.sourceIsSilent k).getD 0

/-- The current source follows the silence of the sources; with none, the unit enters HOLD (R195, R201). -/
def chooseSource (s : State) : State :=
  let b := s.bestSource
  let s := if s.time.source = b then s else journalTime 4 0 { s with time := { s.time with source := b } }
  if b = 0 then enterHeld .hold s else s

/-- Lexicographic order of number lists. -/
def lexLt : List Nat → List Nat → Bool
  | [], _ => false
  | _, [] => false
  | a :: as, b :: bs => if a < b then true else if b < a then false else lexLt as bs

/-- The data-set comparison of the default BMCA (R196; PRESUMED in its fields' order from IEEE 1588, log 21). -/
def PtpMaster.rank (m : PtpMaster) : List Nat :=
  [m.ann.priority1, m.ann.clockClass, m.ann.accuracy, m.ann.variance, m.ann.priority2, m.ann.gm.toNat, m.ann.steps,
   m.ann.id.clock.toNat, m.ann.id.port.toNat]

/-- The best of the qualified masters of DOMAIN on the PTP ports (R196). -/
def State.bestMaster (s : State) : Option PtpMaster :=
  (s.time.masters.filter fun m => m.qualified && m.ann.domain = s.time.domain && s.ptpPort m.lane).foldl (fun b m => match b with
    | none => some m
    | some x => if lexLt m.rank x.rank then some m else some x) none

/-- The BMCA chooses again; the exchanges with a former master end, and the current source follows (R195 to R197). -/
def bmca (s : State) : State :=
  let b := s.bestMaster
  let s := { s with time := { s.time with
    ptpMaster := b.map (·.ann.id)
    ptpExch := if b.map (·.ann.id) = s.time.ptpMaster then s.time.ptpExch else []
    utcOffset := match b with | some m => m.ann.utcOffset | none => s.time.utcOffset
    utcValid := match b with | some m => m.ann.utcValid | none => s.time.utcValid } }
  chooseSource s

/-- SOURCES of a device that TIME_SOURCE has given none, by its role (R195). -/
def State.defaultSources (s : State) : List Nat :=
  if s.mesh.caller then (if s.boot.system = 0 then [1, 3] else [1])
  else if s.mesh.lead then [1, 2] else [2]

/-- SOURCES follow the device's role until TIME_SOURCE sets them (R195). -/
def followRole (s : State) : State :=
  if s.time.sourcesSet then s else chooseSource { s with time := { s.time with sources := s.defaultSources } }

end Sys2Proof.Machine
end

