-- ==== Sys2Proof/Machine/Lanes.lean ====
section
/-! DEFINITION. The lane family (R244 to R250, R255, R263 to R269): configuration, status, doze, lock, LINK frames,
egress frames. -/

namespace Sys2Proof.Machine
open Sys2Proof

/-- What a command answers. -/
abbrev Out := Host.Outcome State Fault Refusal

/-! ### LANE_CFG (R249, R250) -/

/-- A destination entry from its 36 bytes; none when a RES0 field or a VLAN is out of range. -/
def destOf (v : List Byte) : Option Dest :=
  let en := fieldAt 0 1 v
  if en ≥ 4 || fieldAt 1 1 v ≠ 0 || fieldAt 2 2 v > 4094 || fieldAt 14 2 v ≠ 0 then none
  else some { enable := en % 2 = 1, ipv6 := en / 2 = 1, vlan := fieldAt 2 2 v, destId := BitVec.ofNat 32 (fieldAt 4 4 v),
              mac := slice 8 6 v, ip := slice 16 16 v, sport := fieldAt 32 2 v, dport := fieldAt 34 2 v }

/-- Length of each item's value in bytes (R249, log 11). -/
def laneItemLen (id : Nat) : Nat :=
  match id with
  | 7 => 6 | 8 => 2 | 9 => 8 | 10 => 16 | 11 => 2 | 13 => 36 | 14 => 36 | 15 => 36
  | 1 | 2 | 3 | 4 | 5 | 6 | 12 => 1
  | _ => 0

/-- Apply one item of R249; none when the ID, the length or the value is not acceptable. -/
def laneItem (id : Nat) (v : List Byte) (x : Lane) : Option Lane :=
  let n := unle v
  if laneItemLen id = 0 || v.length ≠ laneItemLen id then none
  else match id with
    | 1 => if n < 2 then some { x with fj := n = 1 } else none
    | 2 => if n < 4 then some { x with phy := n } else none
    | 3 => if n < 2 then some { x with an := n = 1 } else none
    | 4 => if n < 2 then some { x with train := n = 1 } else none
    | 5 => if n < 4 then some { x with polarity := BitVec.ofNat 2 n } else none
    | 6 => if 1 ≤ n ∧ n ≤ 3 then some { x with txPreset := n } else none
    | 7 => some { x with mac := some v }
    | 8 => if n ≤ 4094 then some { x with vlan := n } else none
    | 9 => if fieldAt 4 1 v ≤ 32 ∧ fieldAt 5 3 v = 0 then
             some { x with ipv4 := slice 0 4 v, ipv4Prefix := fieldAt 4 1 v } else none
    | 10 => some { x with ipv6 := some v }
    | 11 => some { x with ingestPort := n }
    | 12 => if n < 2 then some { x with ptpEn := n = 1 } else none
    | 13 => (destOf v).map fun d => { x with destHarvest := d }
    | 14 => (destOf v).map fun d => { x with destBeam := d }
    | 15 => (destOf v).map fun d => { x with destCapture := d }
    | _ => none

/-- Apply items in order; the offset of the first that fails. -/
def laneItems : List (Nat × Nat × List Byte) → Lane → Lane ⊕ Nat
  | [], x => .inl x
  | (id, off, v) :: rest, x =>
    match laneItem id v x with
    | some y => laneItems rest y
    | none => .inr off

/-- The lane carries traffic of the active plan: a placed stream, a mesh role or an egress hedge (R249). -/
def State.laneTraffic (s : State) (l : Nat) : Bool := s.placedStream l || s.role l = 3 || s.role l = 2

/-- A plan, active or pending, that was checked without tags and places a stream on the lane (R250). -/
def State.untaggedPlan (s : State) (l : Nat) : Bool :=
  [s.plan.active, s.plan.pendingPlan, s.plan.follower].any fun p? => match p? with
    | some p => !p.tagged && p.req.framing < 2 && (p.myRoutes s).any (·.lane = l)
    | none => false

/-- The last lane item with ID 8 and a nonzero value, as its offset. -/
def vlanItem : List (Nat × Nat × List Byte) → Option Nat
  | [] => none
  | (8, off, v) :: rest => if unle v ≠ 0 then some off else vlanItem rest
  | _ :: rest => vlanItem rest

/-- LANE_CFG at step 11 of R230. -/
def laneCfgRun (c : Ctx) (s : State) : State × Answer :=
  let l := fieldAt 0 1 c.par
  match parseItems c.par.length 36 (c.par.drop 4) with
  | (none, o) => (s, ansField o)
  | (some items, _) =>
    match repeatedItem items [] with
    | some o => (s, ansField o)
    | none =>
      if l ≥ 128 then (s, ansField 32)
      else match laneItems items (s.lane l) with
        | .inr o => (s, ansField o)
        | .inl y =>
          let untagged := s.untaggedPlan l
          match (if untagged then vlanItem items else none) with
          | some o => (s, ansField o)
          | none =>
            let retrain := items.any fun i => i.1 ≤ 6
            if retrain && s.laneTraffic l then (s, ansBusy 6)
            else if retrain then
              let s := dropWaiting l (leaveLock l .train (resendUnsent l s))
              let was := s.lane l
              (newPorts s.time.ptpLanes (takeAll (s.onLane l fun _ => { y with
                state := .train, outAt := was.outAt, exits := was.exits, recentExits := was.recentExits,
                linkAt := none, meshUp := false, egSeq := 0, sending := none, held := none, txDoze := false, rxDoze := false,
                partnerDozes := false })), ansOk)
            else (newPorts s.time.ptpLanes (takeAll (s.onLane l fun _ => y)), ansOk)
where
  /-- A lane that PTP_LANES names may have become a PTP port or ceased to be one: the BMCA chooses again. -/
  newPorts (ports : List Nat) (s : State) : State := if ports.isEmpty then s else bmca s

/-- LANE_CFG. -/
def opLaneCfg : OpDef :=
  { code := 0x0701, form := formItems 4, res0 := firstRes0 [(1, 3)], run := needTrained laneCfgRun }

/-- R249. -/
def execLaneCfg (k : KcpIn) (s : State) : Out := .next (kcpCommand opLaneCfg k s)

/-! ### LANE_STATUS_GET (R269) -/

/-- STATE code of R246. -/
def laneStateCode : LaneState → Nat
  | .off => 0 | .train => 1 | .align => 2 | .lock => 3 | .doze => 4

/-- The 64-byte record of R269. -/
def laneRecord (l : Nat) (s : State) : List Byte :=
  let x := s.lane l
  let ms := if x.state == .lock then min ((s.now - x.lockAt) / 500000) (2 ^ 32 - 1) else 0
  le 1 l ++ le 1 (bitOf x.fj) ++ le 1 (laneStateCode x.state) ++
  le 1 (bitOf x.txDoze + 2 * bitOf x.rxDoze + 4 * bitOf x.txQuiet + 8 * bitOf x.lost + 16 * bitOf x.degraded +
    32 * bitOf (s.laneUp l)) ++ le 1 (s.role l) ++ le 1 x.phy ++ zeros 2 ++ le4 ms ++ le4 x.exits.toNat ++
  le8 x.symbolsCorrected.toNat ++ le4 x.codewordsBad.toNat ++ le8 x.framesIn.toNat ++ le4 x.discarded.toNat ++
  le8 x.framesOut.toNat ++ le4 x.ser.toNat ++ le8 x.partnerBirth.toNat ++ le2 x.partnerIndex.toNat ++
  le 1 x.partnerLane ++ zeros 1

/-- LANE_STATUS_GET: records of COUNT lanes from FIRST_LANE, paged; a range past lane 127 is refused. -/
def opLaneStatusGet : OpDef :=
  { code := 0x0702, form := formLen 8, res0 := firstRes0 [(2, 2)]
    run := fun c s =>
      let f := fieldAt 0 1 c.par
      let n := fieldAt 1 1 c.par
      if f ≥ 128 then (s, ansField 32)
      else if f + n > 128 then (s, ansField 33)
      else (s, ansOk (paged (fieldAt 4 4 c.par) ((List.range n).map fun i => laneRecord (f + i) s).flatten)) }

/-- R269. -/
def execLaneStatusGet (k : KcpIn) (s : State) : Out := .next (kcpCommand opLaneStatusGet k s)

/-! ### LANE_DOZE and LANE_WAKE (R266, R267) -/

/-- The lanes of a 16-byte LANE_MASK. -/
def maskLanes (p : List Byte) : List Nat := (List.range 128).filter fun l => (fieldAt (l / 8) 1 p).testBit (l % 8)

/-- The code of R265 that refuses a doze, if any (R267). -/
def dozeRefusal (lanes : List Nat) (tx rx : Bool) (s : State) : Option Nat :=
  if lanes.any (fun l => s.placedStream l && (rx || (tx && !(s.lane l).fj))) then
    if lanes.any (fun l => s.placedStream l && rx) then some 1 else some 5
  else if lanes.any (fun l => s.ptpPort l && rx) then some 2
  else if (tx || rx) && lanes.any (fun l => s.role l = 3) then some 3
  else if lanes.any (fun l => s.ptpPort l && tx) then some 5
  else match s.plan.active with
    | some p =>
      let left := (egressLanes p.roles).filter fun l =>
        !(s.lane l).txDoze && !(s.lane l).txQuiet && !(s.lane l).lost && !(tx && lanes.contains l)
      let takes := tx && lanes.any fun l => s.role l = 2
      if takes && !p.egressOn p.req.harvestWidth p.req.beamWidth left.length s then some 4 else none
    | none => none

/-- A DOZE frame leaves on a Fjotranu lane whose transmitter is on, after the frame in transmission (R266). -/
def sendDozeNotice (l : Nat) (flags : Byte) (s : State) : State :=
  if (s.lane l).fj && s.txOpen l then
    let s := pumpLane s.mesh.waiting.length l s
    startFrame { lane := l, type := 0x18, src := s.srcIndex, dest := 0, body := flags :: zeros 7 } (max s.now (s.lane l).txFree) s
  else s

/-- A doze takes effect (R266): a Fjotranu transmitter sends its notice first, and the frame in transmission is sent whole. A receiver that
was in LOCK leaves it, which is no lock loss (R246, R270). -/
def dozeLane (l : Nat) (tx rx : Bool) (s : State) : State :=
  let s := if tx && !(s.lane l).txDoze then
      let s := dropWaiting l (unhold l (sendDozeNotice l 1 s))
      journalLane l 5 (takeAll (s.onLane l fun x => { x with txDoze := true }))
    else s
  if rx && !(s.lane l).rxDoze then
    let s := if (s.lane l).state == .lock then exitLock l .doze s else s.onLane l fun x => { x with state := .doze }
    journalLane l 5 (s.onLane l fun x => { x with rxDoze := true, rxDozeAt := s.now })
  else s

/-- A wake (R266, R268): a dozing or quiet transmitter resumes; a dozing receiver goes to ALIGN and LOCK follows. -/
def wakeLane (l : Nat) (tx rx : Bool) (s : State) : State :=
  let s := if tx && ((s.lane l).txDoze || (s.lane l).txQuiet) then
      let dozed := (s.lane l).txDoze
      let s := s.onLane l fun x => { x with txDoze := false, txQuiet := false }
      let s := if dozed then sendDozeNotice l 2 s else s
      journalLane l 6 (takeAll s)
    else s
  if rx && (s.lane l).rxDoze then
    journalLane l 6 (s.onLane l fun x => { x with rxDoze := false, state := .align, outAt := s.now })
  else s

/-- Lanes and directions of LANE_DOZE and LANE_WAKE. -/
def dozeArgs (p : List Byte) : List Nat × Bool × Bool :=
  (maskLanes p, (fieldAt 16 1 p).testBit 0, (fieldAt 16 1 p).testBit 1)

/-- The RES0 bytes and bits of LANE_DOZE and LANE_WAKE. -/
def dozeRes0 (p : List Byte) : Option Nat :=
  if fieldAt 16 1 p ≥ 4 then some 48 else firstRes0 [(17, 3)] p

/-- LANE_DOZE at once, or judged as a cue and applied at its point. -/
def opLaneDoze : OpDef :=
  { code := 0x0703, cue := some .time, form := formLen 20, res0 := dozeRes0
    run := needTrained fun c s =>
      let (ls, tx, rx) := dozeArgs c.par
      match dozeRefusal ls tx rx s with
      | some code => (s, ansBusy code)
      | none => (ls.foldl (fun s l => dozeLane l tx rx s) s, ansOk)
    accept := fun c _ s => needTrained (fun c s =>
      let (ls, tx, rx) := dozeArgs c.par
      match dozeRefusal ls tx rx s with
      | some code => (s, ansBusy code)
      | none => (s, ansOk)) c s
    atPoint := fun c s =>
      let (ls, tx, rx) := dozeArgs c.par
      match dozeRefusal ls tx rx s with
      | some _ => s
      | none => ls.foldl (fun s l => dozeLane l tx rx s) s }

/-- R266, R267. -/
def execLaneDoze (k : KcpIn) (s : State) : Out := .next (kcpCommand opLaneDoze k s)

/-- LANE_WAKE. -/
def opLaneWake : OpDef :=
  { code := 0x0704, cue := some .time, form := formLen 20, res0 := dozeRes0
    run := needTrained fun c s =>
      let (ls, tx, rx) := dozeArgs c.par
      (ls.foldl (fun s l => wakeLane l tx rx s) s, ansOk)
    accept := fun c _ s => needTrained (fun _ s => (s, ansOk)) c s
    atPoint := fun c s =>
      let (ls, tx, rx) := dozeArgs c.par
      ls.foldl (fun s l => wakeLane l tx rx s) s }

/-- R266. -/
def execLaneWake (k : KcpIn) (s : State) : Out := .next (kcpCommand opLaneWake k s)

/-- LANE_QUIET, executed by the groundskeeper whatever the lane's role. -/
def opLaneQuiet : OpDef :=
  { code := 0x0705, g := true, never := true, form := formLen 16
    run := fun c s => (quietLanes (maskLanes c.par) s, ansOk) }

/-- R268. -/
def execLaneQuiet (k : KcpIn) (s : State) : Out := .next (kcpCommand opLaneQuiet k s)

/-! ### Lane states (R246 to R248) -/

/-- The edge dies run. -/
def State.laneRuns (s : State) : Bool := s.dieRuns && s.boot.step ≥ 6

/-- R246: negotiation and training end, or signal appears; TRAIN becomes ALIGN. -/
def execLaneTrainingDone (lane : Fin 128) (s : State) : Out :=
  .next (if s.laneRuns && (s.lane lane).state == .train then
    s.onLane lane fun x => { x with state := .align } else s)

/-- R246: ALIGN becomes LOCK, journaled. A lane whose partner dozed returns to LOCK as well. -/
def execLaneLock (lane : Fin 128) (s : State) : Out :=
  .next (if s.laneRuns && ((s.lane lane).state == .align || ((s.lane lane).partnerDozes && (s.lane lane).state == .train))
    then journalLane lane 0 (s.onLane lane fun x => { x with state := .lock, lockAt := s.now, partnerDozes := false })
    else s)

/-- R246: a lane leaves LOCK for ALIGN, or for TRAIN on signal loss. After a DOZE notice the loss of signal counts
neither as a lock loss nor as a lost lane (R266). -/
def execLaneLockLoss (lane : Fin 128) (signalLost : Bool) (s : State) : Out :=
  let x := s.lane lane
  .next (if !s.laneRuns || !(x.state == .lock || (signalLost && x.state == .align)) then s
    else if signalLost && x.partnerDozes then
      if x.state == .lock then journalLane lane 1 (exitLock lane .train s) else s.onLane lane fun x => { x with state := .train }
    else leaveLock lane (if signalLost then .train else .align) s)

/-- R248: 10 ms out of LOCK other than in DOZE, or 5 exits within 1 s, marks the lane lost and forces LANE_LOSS. -/
def execLaneLost (lane : Fin 128) (s : State) : Out :=
  let x := s.lane lane
  let out := x.state != .off && x.state != .lock && x.state != .doze && !x.partnerDozes
  let five := (x.recentExits.filter fun t => !(s.passed t (10 ^ 9))).length ≥ 5
  .next (if s.laneRuns && !x.lost && (out || five) then
    let s := if five then s else s.waitFor x.outAt 10000000
    let used := s.role lane ≠ 0
    let s := resendUnsent lane s
    let s := takeAll (s.onLane lane fun x => { x with lost := true, outAt := s.now })
    let s := raiseEvent 7 (journalLane lane 2 { s with lanes := { s.lanes with lostSeen := true } })
    let s := rewriteHealth s
    if used then forcePlan 5 s else s
    else s)

/-- R248: after 1 s of continuous LOCK a lost lane is healthy again. -/
def execLaneHealthy (lane : Fin 128) (s : State) : Out :=
  let x := s.lane lane
  .next (if s.laneRuns && x.lost && x.state == .lock then
    let s := s.waitFor x.lockAt (10 ^ 9)
    rewriteHealth (journalLane lane 3 (takeAll (s.onLane lane fun x => { x with lost := false }))) else s)

/-- R247: the symbol error ratio of a 100 ms window; above 5 × 10^-5 sets DEGRADED. -/
def execSerWindow (lane : Fin 128) (errors symbols : Nat) (s : State) : Out :=
  let bad := errors * 100000 > 5 * symbols
  .next (if s.laneRuns && (s.lane lane).state == .lock && symbols > 0 then
    let was := (s.lane lane).degraded
    let s := s.onLane lane fun x => { x with
      ser := BitVec.ofNat 32 (min (errors * 10 ^ 9 / symbols) (2 ^ 32 - 1)), degraded := decide bad,
      symbolsCorrected := x.symbolsCorrected + BitVec.ofNat 64 errors }
    if bad && !was then
      raiseEvent 7 (journalLane lane 4 { s with lanes := { s.lanes with degradedSeen := true } })
    else s
    else s)

/-! ### LINK and DOZE frames (R255, R266) -/

/-- A Fjotranu lane takes frames: in LOCK, in Fjotranu mode. -/
def State.fjOpen (s : State) (l : Nat) : Bool := s.laneRuns && (s.lane l).state == .lock && (s.lane l).fj

/-- A lane discards a frame. -/
def discardOn (l : Nat) (s : State) : State := s.onLane l fun x => { x with discarded := x.discarded + 1 }

/-- A lane has received a frame. -/
def receivedOn (l : Nat) (s : State) : State := s.onLane l fun x => { x with framesIn := x.framesIn + 1 }

/-- A frame that has a row of its own has passed the checks of R254, and carries the LINK_SEQ that follows the lane's last (log 15). -/
def nextLink (l : Nat) (s : State) : State := s.onLane l fun x => { x with rxLinkSeq := x.rxLinkSeq + 1, rxLinkSeen := true }

/-- A mesh frame is taken on a lane of the mesh role (else LN_FJ_ROLE, R253) that is up (R255). -/
def meshGate (l : Nat) (take : State → State) (s : State) : State :=
  if !s.fjOpen l then s
  else
    let s := nextLink l (receivedOn l s)
    if s.role l ≠ 3 then s.bump .lnFjRole
    else if !s.laneUp l then s
    else take s

/-- A LINK frame updates the partner fields and keeps a mesh lane up. -/
def takeLink (l : Nat) (body : LinkBody) (s : State) : State :=
  (receivedOn l s).onLane l fun x => { x with
    partnerBirth := body.birth, partnerIndex := body.index, partnerLane := body.lane, linkAt := some s.now, meshUp := true }

/-- R255. -/
def execLinkFrame (lane : Fin 128) (body : LinkBody) (s : State) : Out :=
  .next (if s.fjOpen lane then takeLink lane body (nextLink lane s) else s)

/-- The partner's birth identity of this device (R343). -/
def birthOf (d : DieId) : W64 :=
  if d.checkOk then
    let code (b : Byte) : Nat := if b.toNat ≥ 0x41 then b.toNat - 0x41 + 10 else b.toNat - 0x30
    let lot := d.lot.foldl (fun n b => n * 64 + code b) 0
    BitVec.ofNat 64 (lot * 2 ^ 24 + d.wafer.toNat * 2 ^ 16 + d.x.toNat * 2 ^ 8 + d.y.toNat)
  else BitVec.ofNat 64 (2 ^ 64 - 1)

/-- The birth identity (R343). -/
def State.birth (s : State) : W64 := match s.fuses.dies.head? with | some d => birthOf d | none => BitVec.ofNat 64 (2 ^ 64 - 1)

/-- Active PLAN_VERSION, or 0. -/
def State.planVersion (s : State) : Nat := match s.plan.active with | some p => p.version.toNat | none => 0


/-- R255: the LINK frame a Fjotranu lane sends every 100 us, unless its transmit side dozes or is quiet. -/
def execLinkFrameSend (lane : Fin 128) (s : State) : Out :=
  .next (if s.laneRuns && (s.lane lane).fj && s.txOpen lane then
    let s := s.waitFor (s.lane lane).linkSentAt 100000
    meshOut { lane := lane, type := 0x10, src := s.srcIndex, dest := 0,
              body := le8 s.birth.toNat ++ le2 s.srcIndex ++ le 1 s.mesh.segment ++ le 1 lane.val ++
                le 1 (s.role lane) ++ zeros 3 ++ le8 s.planVersion ++ zeros 8 }
      (s.onLane lane fun x => { x with linkSentAt := s.now })
    else s)

/-- R255: no LINK frame for 1 ms; the mesh lane is no longer up. -/
def execLinkFrameTimeout (lane : Fin 128) (s : State) : Out :=
  .next (match (s.lane lane).linkAt with
    | some t => if s.laneRuns then
        (s.waitFor t 1000000).onLane lane fun x => { x with meshUp := false, linkAt := none } else s
    | none => s)

/-- A DOZE notice. [0]: the coming loss of signal is ignored; [1]: the partner wakes. -/
def takeDoze (l : Nat) (flags : Byte) (s : State) : State :=
  (receivedOn l s).onLane l fun x => { x with
    partnerDozes := (flags.getLsbD 0) || (x.partnerDozes && !flags.getLsbD 1) }

/-- R266. -/
def execDozeFrame (lane : Fin 128) (flags : Byte) (s : State) : Out :=
  .next (if s.fjOpen lane then takeDoze lane flags (nextLink lane s) else s)

/-! ### Egress frames (R263, R264) -/

/-- The lane's MAC: configured, or the default of R249 in its member or birth-identity form. -/
def State.macOf (s : State) (l : Nat) : List Byte :=
  match (s.lane l).mac with
  | some m => m
  | none =>
    if s.boot.system = 2 then
      [0x02, 0xAD, 0x00] ++ le 1 (s.mesh.index.toNat / 256) ++ le 1 s.mesh.index.toNat ++ le 1 l
    else
      let c := crc32c (le8 s.birth.toNat)
      [0x02, 0xAD] ++ le 1 (128 + c / 65536 % 128) ++ le 1 (c / 256) ++ le 1 c ++ le 1 l

/-- Big-endian field (standard protocol headers, R4). -/
def be (n v : Nat) : List Byte := (le n v).reverse

/-- Sum of big-endian 16-bit words, for the Internet checksum. -/
def sum16 : List Byte → Nat
  | [] => 0
  | [a] => a.toNat * 256
  | a :: b :: rest => a.toNat * 256 + b.toNat + sum16 rest

/-- The Internet checksum over a sum of words. -/
def inetCheck (n : Nat) : Nat :=
  let f (n : Nat) : Nat := n % 65536 + n / 65536
  65535 - f (f (f n))

/-- The envelope of R263 with the record and the CRC over DEST_ID, envelope and record. -/
def egressFrame (destId : W32) (seq : W32) (lane cls : Nat) (rec : List Byte) : List Byte :=
  let body := le4 seq.toNat ++ le 1 lane ++ le 1 cls ++ zeros 2 ++ rec
  body ++ le4 (crc32c (le4 destId.toNat ++ body))

/-- The Ethernet frame, without preamble and FCS, that carries an egress frame (R263). -/
def ethernetOut (l : Nat) (d : Dest) (pay : List Byte) (s : State) : List Byte :=
  let x := s.lane l
  let tag := if d.vlan = 0 then [] else [0x81, 0x00] ++ be 2 d.vlan
  let ulen := 8 + pay.length
  if d.ipv6 then
    let src := x.ipv6.getD (zeros 16)
    let pseudo := sum16 (src ++ d.ip) + ulen + 17
    let u0 := be 2 d.sport ++ be 2 d.dport ++ be 2 ulen
    let ck := inetCheck (pseudo + sum16 u0 + sum16 pay)
    d.mac ++ s.macOf l ++ tag ++ [0x86, 0xDD, 0x60, 0, 0, 0] ++ be 2 ulen ++ [17, 64] ++ src ++ d.ip ++
      u0 ++ be 2 (if ck = 0 then 65535 else ck) ++ pay
  else
    let h0 := [0x45, 0x00] ++ be 2 (20 + ulen) ++ be 2 0 ++ [0x40, 0x00, 64, 17]
    let ad := x.ipv4 ++ slice 0 4 d.ip
    d.mac ++ s.macOf l ++ tag ++ [0x08, 0x00] ++ h0 ++ be 2 (inetCheck (sum16 (h0 ++ ad))) ++ ad ++
      be 2 d.sport ++ be 2 d.dport ++ be 2 ulen ++ be 2 0 ++ pay

/-- The RECORD frame that carries an egress frame on a Fjotranu lane (R253, R263). -/
def recordFrame (l : Nat) (pay : List Byte) (s : State) : MeshFrame :=
  { lane := l, type := 0x02, src := s.srcIndex, dest := 0, linkSeq := (s.lane l).txLinkSeq, body := padTo 4 pay }

/-- A lane starts the frame of the record that it has taken (R263): an Ethernet frame, or a RECORD frame. -/
def startRecord (l : Nat) (r : EgRec) (s : State) : State :=
  let x := s.lane l
  let d := x.dest r.cls
  let pay := egressFrame d.destId x.egSeq l r.cls r.data
  let out := if x.fj then (recordFrame l pay s).wire else ethernetOut l d pay s
  let s := s.onLane l fun x => { x with
    egSeq := x.egSeq + 1, framesOut := x.framesOut + 1, sending := some (r, s.now), held := none,
    txLinkSeq := if x.fj then x.txLinkSeq + 1 else x.txLinkSeq }
  { s with lanes := { s.lanes with sent := s.lanes.sent ++ [(l, out)] } }.bump .lnEgRecords

/-- R263, R264: a lane starts the frame of the record that it has taken, and takes its next one. Before it, every lane that can take a
record has taken one, in the order of R264. -/
def execEgressFrameSend (lane : Fin 128) (s : State) : Out :=
  .next (if !s.laneRuns || (s.gk.stopped) then s
    else
      let s := takeAll s
      match (s.lane lane).held with
      | none => s
      | some r => takeAll (startRecord lane r s))

/-- An address is the lane's own. -/
def Lane.owns (x : Lane) (ipv6 : Bool) (target : List Byte) : Bool :=
  if ipv6 then x.ipv6 == some target else x.ipv4 == target && x.ipv4 != zeros 4

/-- The answer to an ARP request or a Neighbor Solicitation for the lane's address, at most 1,000 a second (R249). The
answer leaves as an Ethernet frame of the standard's form. -/
def answerAddress (lane : Nat) (ipv6 : Bool) (target senderMac senderIp : List Byte) (s : State) : State :=
  let x := s.lane lane
  let recent := x.answers.filter fun t => !(s.passed t (10 ^ 9))
  if s.laneRuns && !x.fj && x.state == .lock && x.owns ipv6 target && s.txOpen lane && recent.length < 1000 then
    let mac := s.macOf lane
    let tag := if x.vlan = 0 then [] else [0x81, 0x00] ++ be 2 x.vlan
    let out :=
      if ipv6 then
        let na0 := [136, 0]
        let na1 := [0x60, 0, 0, 0] ++ target ++ [2, 1] ++ mac
        let ck := inetCheck (sum16 (target ++ senderIp) + 32 + 58 + sum16 na0 + sum16 na1)
        senderMac ++ mac ++ tag ++ [0x86, 0xDD, 0x60, 0, 0, 0] ++ be 2 32 ++ [58, 255] ++ target ++ senderIp ++
          na0 ++ be 2 ck ++ na1
      else
        senderMac ++ mac ++ tag ++ [0x08, 0x06] ++ be 2 1 ++ be 2 0x0800 ++ [6, 4] ++ be 2 2 ++
          mac ++ target ++ senderMac ++ senderIp
    let s := s.onLane lane fun x => { x with answers := s.now :: recent, framesOut := x.framesOut + 1 }
    { s with lanes := { s.lanes with sent := s.lanes.sent ++ [(lane, out)] } }
  else s

/-- R249. -/
def execArpNsRequest (lane : Fin 128) (ipv6 : Bool) (target senderMac senderIp : List Byte) (s : State) : Out :=
  .next (answerAddress lane ipv6 target senderMac senderIp s)

end Sys2Proof.Machine
end

