-- ==== Sys2Proof/Machine/Dram.lean ====
section
/-! DEFINITION. Device DRAM (R271 to R283, R294): address map, access rules, stores, reads with their errors and poison, and the REFab. -/

namespace Sys2Proof.Machine
open Sys2Proof

/-! ### Addresses (R272) -/

/-- Subchannel of an address: 0 is A, 1 is B. -/
def subOfAddr (a : Nat) : Nat := a / 64 % 2
/-- Column address C[9:0] of the unit that holds an address: A[12:7] is C[9:4], C[3:0] is zero. -/
def columnOf (a : Nat) : Nat := a / 128 % 64 * 16
/-- Bank group of an address. -/
def groupOf (a : Nat) : Nat := a / 2 ^ 17 % 4
/-- Bank of its group. -/
def bankInGroup (a : Nat) : Nat := a / 2 ^ 19 % 4
/-- DRAM row of an address: A[36:21]. -/
def dramRow (a : Nat) : Nat := a / 2 ^ 21
/-- Beat of a unit that carries the byte at an address. -/
def beatOf (a : Nat) : Nat := a % 64 / 4
/-- DQ pins 8j to 8j + 7 that carry byte j of a beat: the first of them. -/
def firstPin (a : Nat) : Nat := 8 * (a % 4)
/-- Data symbol `p` of a unit of 64 bytes: the 16 beats of DQ pin p, beat b in bit b (R272, R282). -/
def unitSymbol (bs : List Byte) (p : Nat) : BitVec 16 :=
  BitVec.ofNat 16 (((List.range 16).map fun b => bitOf ((bs.getD (4 * b + p / 8) 0).getLsbD (p % 8)) * 2 ^ b).sum)
/-- Multiplication in GF(2^16) with the field polynomial x^16 + x^12 + x^3 + x + 1 (R282). -/
def gfMul (a b : BitVec 16) : BitVec 16 :=
  ((List.range 16).foldl (fun (x : BitVec 16 × BitVec 16) i =>
    (if b.getLsbD i then x.1 ^^^ x.2 else x.1,
     if x.2.getLsbD 15 then (x.2 <<< 1) ^^^ 0x100B else x.2 <<< 1)) (0, a)).1
/-- The generator: the product of (x - α^i) for i from 0 to 7, α = 2 a root of the field polynomial; coefficients from x^8 down (R282). -/
def rsGenerator : List (BitVec 16) :=
  ((List.range 8).foldl (fun (g : List (BitVec 16) × BitVec 16) _ =>
    ((g.1 ++ [0]).zipWith (· ^^^ ·) (0 :: g.1.map (gfMul g.2)), gfMul g.2 2)) ([1], 1)).1
/-- The 8 check symbols of the 32 data symbols: the remainder of the data, symbol 0 first, by the generator (R282, log 146). -/
def checkSymbols (data : List (BitVec 16)) : List (BitVec 16) :=
  data.foldl (fun r d =>
    let top := (r.headD 0) ^^^ d
    ((r.drop 1) ++ [0]).zipWith (fun x g => x ^^^ gfMul top g) (rsGenerator.drop 1)) (List.replicate 8 0)
/-- The check symbols stored with a unit of 64 bytes: those of its data, or in a poisoned unit their bitwise complements (R282, R283). -/
def storedChecks (poisoned : Bool) (bs : List Byte) : List (BitVec 16) :=
  (checkSymbols ((List.range 32).map (unitSymbol bs))).map fun c => if poisoned then ~~~ c else c
/-- DRAM channel of an address. -/
def chanOf (a : Nat) : Nat := a / 2 ^ 13 % 16
/-- Row number of an address: A[36:17], bank group, bank and row. -/
def rowOf (a : Nat) : Nat := a / 2 ^ 17
/-- The bank of a row number (bank group and bank). -/
def bankOf (row : Nat) : Nat := row % 16
/-- First address of a channel row of 8 KiB. -/
def rowBase (ch row : Nat) : Nat := row * 2 ^ 17 + ch * 2 ^ 13
/-- The unit of 64 bytes that holds an address. -/
def unitOf (a : Nat) : Nat := a / 64
/-- Start of the spare-row region: the top 1,024 MiB. -/
def spareBase : Nat := 127 * 2 ^ 30
/-- End of device addresses. -/
def dramEnd : Nat := 128 * 2 ^ 30

/-- A channel. -/
def State.memChan (s : State) (c : Nat) : MemChan := s.mem.chan.getD c {}
/-- Change a channel. -/
def State.onChan (s : State) (c : Nat) (f : MemChan → MemChan) : State :=
  { s with mem := { s.mem with chan := setAt c f s.mem.chan } }

/-- DRAM can be accessed: initialised and not in self-refresh. -/
def State.dramUp (s : State) : Bool := !s.clk.held && s.boot.step ≥ 5 && !s.mem.selfRefresh

/-! ### Access rules of PCI Express (R294) -/

/-- A region of the active plan by kind (R402). -/
def Plan.region (p : Plan) (kind : Nat) : Option DramRegion := p.regions.find? (·.kind = kind)

/-- An address range lies within a region. -/
def DramRegion.holds (r : DramRegion) (a n : Nat) : Bool := r.base ≤ a && a + n ≤ r.base + r.size

/-- A PCI Express write of `n` bytes at `a` is permitted (R294). -/
def State.pcieWritable (s : State) (a n : Nat) : Bool :=
  if a + n > spareBase || a < 2 ^ 30 then false
  else match s.plan.active with
    | none => true
    | some p => [1, 6].any fun k => match p.region k with | some r => r.holds a n | none => false

/-- A PCI Express read is permitted outside the spare-row region (R294). -/
def pcieReadable (a n : Nat) : Bool := a + n ≤ spareBase

/-- A refused access is counted (R294). -/
def denied (s : State) : State :=
  { s with tl := { s.tl with deniedSeen := true } }.bump .tlAddrDenied

/-- Write bytes to DRAM. A unit written whole is no longer poisoned; a unit written in part is merged and counted
(R273). -/
def dramStore (a : Nat) (bs : List Byte) (s : State) : State :=
  let e := a + bs.length
  let firstFull := (a + 63) / 64
  let lastFull := e / 64
  let head := if a % 64 ≠ 0 then 1 else 0
  let tail := if e % 64 ≠ 0 && !(e / 64 = a / 64 && a % 64 ≠ 0) then 1 else 0
  let merges := if bs.isEmpty then 0 else head + tail
  let s := { s with mem := { s.mem with poison := s.mem.poison.filter fun u => !(firstFull ≤ u && u < lastFull) } }
  (s.dramWrite a bs).bumpBy .mcMergeWrite merges

/-- The reports of aborted bursts reach their master when it returns from reset (R293). -/
def takeAborted (m : Nat) (s : State) : State := { s with tl := { s.tl with aborted := s.tl.aborted.filter fun a => a.master ≠ m } }

/-! ### Reads: errors and poison (R282, R283) -/

/-- The symbols of a unit that differ (R282). -/
def badSymbols (errs : SymErrs) : List Nat := ((errs.filter fun e => e.1 < 40 && e.2 ≠ 0).map (·.1)).eraseDups

/-- What the decoder makes of a unit's errors. -/
inductive Decoded where
  | clean | corrected | uncorrectable | miscorrected
  deriving DecidableEq, Repr

/-- The decoder of R282: 3 symbols corrected, 5 detected; beyond that a free value decides (log 20). -/
def decodeUnit (errs : SymErrs) (free : Nat) : Decoded :=
  let n := (badSymbols errs).length
  if n = 0 then .clean else if n ≤ 3 then .corrected else if n ≤ 5 then .uncorrectable
  else if Config.beyondDetected free then .uncorrectable else .miscorrected

/-- Ask for a repair of a row (R285). -/
def askRepair (ch row : Nat) (s : State) : State :=
  s.onChan ch fun c => if c.repairAsked.contains row then c else { c with repairAsked := c.repairAsked ++ [row] }

/-- A read of a unit by a master: counts, journal, repair; the answer says whether the data are marked (R283). -/
def unitRead (a : Nat) (errs : SymErrs) (s : State) : Bool × State :=
  let u := unitOf a
  let ch := chanOf a
  if s.mem.poison.contains u then
    let s := askRepair ch (rowOf a) ((s.bump .mcPoisonRead).onChan ch fun c => { c with poisonReads := c.poisonReads + 1 })
    if (s.memChan ch).poisonLogged.contains u then (true, s)
    else (true, journalFault 2 blkMc 0 Ctr.mcPoisonRead.pid 0 (64 * u)
      (s.onChan ch fun c => { c with poisonLogged := u :: c.poisonLogged }))
  else
    let (f, s) := if (badSymbols errs).length > 5 then takeFree s else (0, s)
    match decodeUnit errs f with
    | .clean => (false, s)
    | .corrected | .miscorrected => (false, (s.bump .mcCe).onChan ch fun c => { c with ce := c.ce + 1 })
    | .uncorrectable =>
      let s := (s.bump .mcUe).onChan ch fun c => { c with ue := c.ue + 1, lastUe := BitVec.ofNat 64 (64 * u) }
      let s := raiseEvent 8 (journalFault 2 blkMc 0 Ctr.mcUe.pid 0 (64 * u) { s with mem := { s.mem with ueSeen := true } })
      (true, freezeOn 5 (askRepair ch (rowOf a) s))

/-! ### REFab (R274 to R276, R281) -/

/-- A REFab of a channel: the debt falls, one that was due counts as forced, and write delays that wait for it shift (R275, R281). -/
def issueRefab (ch : Nat) (s : State) : State :=
  let c := s.memChan ch
  let shifted := c.dqsPend.foldl (fun (xs : List (Nat × Int)) (e : Nat × Int) =>
    let old := match xs.find? (·.1 = e.1) with | some (_, x) => x | none => 0
    (e.1, old + e.2) :: xs.filter (·.1 ≠ e.1)) c.dqsShift
  let s := s.onChan ch fun c => { c with
    debt := c.debt - 1, refab := c.refab + 1, due := c.due - 1, dqsShift := shifted, dqsPend := [] }
  let s := (s.bump .mcRefresh).bumpBy .mcDqsRetune c.dqsPend.length
  if c.due > 0 then s.bump .mcRefreshForced else s

/-- Every refresh that is due is issued, back to back (R275, R276). -/
def issueDue (ch : Nat) (s : State) : State := (List.range (s.memChan ch).due).foldl (fun s _ => issueRefab ch s) s

end Sys2Proof.Machine
end

