-- ==== Sys2Proof/Machine/Trellis.lean ====
section
/-! DEFINITION. The Trellis (R290 to R293): bursts and sub-bursts, the reel of each DRAM port with its credits and its weighted round robin,
and the DMA of PCI Express through the ports. -/

namespace Sys2Proof.Machine
open Sys2Proof

/-! ### Masters and ports (R290) -/

/-- A master of the real-time class: RMW engine, cold-frame writer, beam-table loader, almanac writer. -/
def isReal (m : Nat) : Bool := m = 0 || m = 2 || m = 3 || m = 6

/-- The pace of a real-time master in 0.1 GB/s (R290). -/
def State.masterPace (s : State) (m : Nat) : Nat :=
  match m with
  | 0 => s.rmw.pace.toNat + 400
  | 2 => 10 * (match s.plan.active with | some p => p.cfBudget | none => 0)
  | 3 | 6 => 10
  | _ => 0

/-- The reel of a DRAM port. -/
def State.reel (s : State) (ch : Nat) : Reel := s.tl.reels.getD ch {}
/-- Set the reel of a DRAM port. -/
def State.setReel (s : State) (ch : Nat) (r : Reel) : State := { s with tl := { s.tl with reels := setAt ch (fun _ => r) s.tl.reels } }

/-- A request waits at a DRAM port. -/
def State.portBusy (s : State) (ch : Nat) : Bool := !(s.reel ch).waiting.isEmpty

/-! ### The reel (R292) -/

/-- 128 KiB in units of 1/160 byte: a credit grows by its pace, in 0.1 GB/s, over 16, each ns. -/
def creditCap : Int := 131072 * 160

/-- Credits grow with time, also during a refresh, at one sixteenth of their masters' paces, to at most 128 KiB. -/
def Reel.grow (r : Reel) (s : State) : Reel :=
  { r with
    grownAt := s.now
    credit := r.credit.zipIdx.map fun (c, m) => min creditCap (c + ((s.masterPace m * (2 * (s.now - r.grownAt)) : Nat) : Int)) }

/-- A master has a sub-burst waiting at the port. -/
def Reel.asks (r : Reel) (m : Nat) : Bool := r.waiting.any (·.master = m)

/-- The weight of a master in the round: 0 acts as 1. -/
def Reel.weightOf (r : Reel) (m : Nat) : Nat := max 1 (r.weights.toNat / 16 ^ m % 16)

/-- The first rule: a waiting real-time master with positive credit, in round robin after the one granted last. -/
def Reel.nextReal (r : Reel) : Option Nat :=
  ((List.range 8).map fun k => (r.lastReal + 1 + k) % 8).find? fun m => isReal m && r.asks m && decide (0 < r.credit.getD m 0)

/-- The second rule: every waiting master in ascending ID, up to its weight in sub-bursts a round. A new round takes TL_WEIGHT as it
stands. -/
def Reel.nextRound (r : Reel) (weights : W32) : Reel × Option Nat :=
  if r.asks r.turn && decide (r.taken < r.weightOf r.turn) then ({ r with taken := r.taken + 1 }, some r.turn)
  else match (List.range 8).find? fun m => decide (r.turn < m) && r.asks m with
    | some m => ({ r with turn := m, taken := 1 }, some m)
    | none => match (List.range 8).find? r.asks with
      | some m => ({ r with weights := weights, turn := m, taken := 1 }, some m)
      | none => (r, none)

/-- The master that the reel grants next. -/
def Reel.next (r : Reel) (weights : W32) : Reel × Option Nat :=
  match r.nextReal with
  | some m => ({ r with lastReal := m }, some m)
  | none => r.nextRound weights

/-- A credit falls by the bytes of a grant. -/
def Reel.spend (r : Reel) (m bytes : Nat) : Reel := { r with credit := setAt m (fun c => c - (160 * bytes : Nat)) r.credit }

/-- With no request left the round is over; the next one takes the weights as they stand (log 142). -/
def Reel.settle (r : Reel) (weights : W32) : Reel :=
  if r.waiting.isEmpty then { r with turn := 0, taken := 0, weights := weights } else r

/-! ### Grants -/

/-- A granted sub-burst of a DMA does its work: a write stores its data, a read returns the bytes, with any poison (R273, R283). A master's
own access does its work in its meaning. -/
def doSub (q : SubReq) (s : State) : State :=
  if q.write then (if q.data.isEmpty then s else dramStore q.addr q.data s)
  else if q.xfer = 0 then s
  else
    let (bad, s) := (List.range ((q.addr + q.bytes + 63) / 64 - q.addr / 64)).foldl (fun (x : Bool × State) i =>
      let (m, s) := unitRead (64 * (q.addr / 64 + i)) [] x.2
      (x.1 || m, s)) (false, s)
    let got := s.dramRead q.addr q.bytes
    { s with pcie := { s.pcie with transfers := s.pcie.transfers.map fun t =>
        if t.xfer = q.xfer then { t with got := t.got ++ [(q.addr - t.dev, got)], poisoned := t.poisoned || bad } else t } }

/-- One grant at a DRAM port: refreshes that are due come first, then the sub-burst that the reel chooses (R275, R292). -/
def grantOne (ch : Nat) (s : State) : State :=
  let s := issueDue ch s
  let (r, m) := ((s.reel ch).grow s).next s.tl.weight
  match m.bind fun m => r.waiting.find? (·.master = m) with
  | some q => doSub q (s.setReel ch (({ r with waiting := r.waiting.erase q }.spend q.master q.bytes).settle s.tl.weight))
  | none => s

/-- Grants at a port until none of the requests named waits. Recurses on fuel. -/
def grantUntil (ch : Nat) (mine : SubReq → Bool) : Nat → State → State
  | 0, s => s
  | fuel + 1, s => if (s.reel ch).waiting.any mine then grantUntil ch mine fuel (grantOne ch s) else s

/-- The sub-bursts of an access at a port, cut at 1 KiB boundaries in whole units (R291). Recurses on fuel. -/
def subBursts (m xfer : Nat) (write : Bool) (fuel a n : Nat) (data : List Byte) : List SubReq :=
  match fuel with
  | 0 => []
  | fuel + 1 =>
    if n = 0 then []
    else
      let k := min n (1024 - a % 1024)
      { master := m, addr := a, bytes := k, write := write, data := data.take k, xfer := xfer } ::
        subBursts m xfer write fuel (a + k) (n - k) (data.drop k)

/-- An access of a master at a port takes its grants, each sub-burst waiting its turn behind those the reel puts first. Alone at the port
it has every grant at once. -/
def portAccess (m ch a n : Nat) (s : State) : State :=
  let s := issueDue ch s
  let r := (s.reel ch).grow s
  let units := 64 * ((a + n + 63) / 64 - a / 64)
  if r.waiting.isEmpty then
    let last := if isReal m && decide (0 < r.credit.getD m 0) then m else r.lastReal
    s.setReel ch ({ r with lastReal := last }.spend m units |>.settle s.tl.weight)
  else
    let qs := subBursts m 0 false (n / 1024 + 2) a n []
    let s := s.setReel ch { r with waiting := r.waiting ++ qs }
    grantUntil ch (fun q => q.master = m && q.xfer = 0) (r.waiting.length + qs.length) s

/-- An access of a master to DRAM: one burst for each channel row it crosses (R291). Recurses on fuel. -/
def memPieces : Nat → Nat → Nat → List (Nat × Nat)
  | 0, _, _ => []
  | fuel + 1, a, n => if n = 0 then [] else let k := min n (8192 - a % 8192); (a, k) :: memPieces fuel (a + k) (n - k)

/-- A master's access to `n` bytes at `a`. -/
def memAccess (m a n : Nat) (s : State) : State :=
  (memPieces (n / 8192 + 2) a n).foldl (fun s x => portAccess m (chanOf x.1) x.1 x.2 s) s

/-! ### DMA of PCI Express (R241, R291) -/

/-- A DMA between the host and DRAM starts: its sub-bursts wait at their ports as best-effort requests of master 4. -/
def startDma (seq : W32) (write : Bool) (host : W64) (a n : Nat) (data : List Byte) (s : State) : State :=
  let x := s.tl.nextXfer
  let s := { s with tl := { s.tl with nextXfer := x + 1 } }
  let s := (memPieces (n / 8192 + 2) a n).foldl (fun (s : State) p =>
    let ch := chanOf p.1
    let r := s.reel ch
    s.setReel ch { r with waiting := r.waiting ++ subBursts 4 x write (p.2 / 1024 + 2) p.1 p.2 ((data.drop (p.1 - a)).take p.2) }) s
  startTransfer { seq := seq, kind := if write then .memWrite else .memRead, addr := if write then BitVec.ofNat 64 a else host
                  data := data, len := n, xfer := x, dev := a } s

/-- Every sub-burst of a DMA that still waits is granted. -/
def finishDma (x : Nat) (s : State) : State :=
  if x = 0 then s
  else (List.range 16).foldl (fun s ch => grantUntil ch (fun q => q.xfer = x) (s.reel ch).waiting.length s) s

/-- Each port with a request waiting grants one sub-burst. -/
def pumpPorts (s : State) : State :=
  (List.range 16).foldl (fun s ch => if s.portBusy ch then grantOne ch s else s) s

/-- The PCI Express side resets (R293): reads not yet granted are dropped; writes whose data had come are still made. -/
def dropReads (s : State) : State :=
  { s with tl := { s.tl with reels := s.tl.reels.map fun r =>
      { r with waiting := (r.waiting.filter fun q => q.write).map fun q => { q with xfer := 0 } } } }

end Sys2Proof.Machine
end

