-- ==== Sys2Proof/Machine/Memory.lean ====
section
/-! DEFINITION. The commands of the memory controllers and of the Trellis (R274 to R296): DMA, repair, training, refresh, scrub, torn bursts,
BAR4. -/

namespace Sys2Proof.Machine
open Sys2Proof

/-! ### MEM_READ, MEM_WRITE (R241, R294) -/

/-- MEM_READ: DMA of device DRAM to the host. Reads refused by R294 return zeros. -/
def opMemRead : OpDef :=
  { code := 0x0801, bo := true, never := true, form := formLen 24
    run := needTrained fun c s =>
      let a := fieldAt 0 8 c.par
      let n := fieldAt 8 8 c.par
      if a + n > dramEnd then (s, ansField 32)
      else
        let host := BitVec.ofNat 64 (fieldAt 16 8 c.par)
        if pcieReadable a n then (startDma c.k.seq false host a n [] s, ansAccepted)
        else (startTransfer { seq := c.k.seq, kind := .memRead, addr := host, data := zeros n, len := n } (denied s), ansAccepted) }

/-- R241. -/
def execMemRead (k : KcpIn) (s : State) : Out := .next (kcpCommand opMemRead k s)

/-- MEM_WRITE: DMA of host data into permitted DRAM; elsewhere BAD_PARAM, detail FIELD at DEV_ADDR. -/
def opMemWrite : OpDef :=
  { code := 0x0802, bo := true, never := true, form := formLen 24
    run := needTrained fun c s =>
      let a := fieldAt 0 8 c.par
      let n := fieldAt 8 8 c.par
      if !(s.pcieWritable a n) then (s, ansField 32)
      else (startDma c.k.seq true 0 a n (fit n c.k.dma) s, ansAccepted) }

/-- R241, R294. -/
def execMemWrite (k : KcpIn) (s : State) : Out := .next (kcpCommand opMemWrite k s)

/-! ### MEM_STATUS_GET (R289) -/

/-- The 64-byte channel status record of R289. -/
def chanRecord (ch : Nat) (s : State) : List Byte :=
  let c := s.memChan ch
  le 1 ch ++ le 1 (bitOf c.trained + 2 * bitOf c.hot + 4 * bitOf c.overtemp + 8 * bitOf (c.remaps.length ≥ 256)) ++
  le 1 c.debt ++ le 1 c.postpone ++ le 1 c.mr4 ++ le 1 c.hardLeft ++ le2 c.remaps.length ++ le4 c.ce.toNat ++
  le4 c.ue.toNat ++ le4 c.poisonReads.toNat ++ le4 c.remapCount.toNat ++ le8 c.refab.toNat ++ le8 c.lastUe.toNat ++
  le8 c.lastRepairAddr.toNat ++ le 1 c.lastRepair ++ zeros 1 ++ le2 c.eyeRead.toNat ++ le2 c.eyeWrite.toNat ++ zeros 2 ++
  le4 c.passes.toNat ++ zeros 4

/-- MEM_STATUS_GET. -/
def opMemStatusGet : OpDef :=
  { code := 0x0803, form := formLen 4, res0 := firstRes0 [(1, 3)]
    run := needTrained fun c s =>
      let ch := fieldAt 0 1 c.par
      if ch ≥ 16 then (s, ansField 32) else (s, ansOk (chanRecord ch s)) }

/-- R289. -/
def execMemStatusGet (k : KcpIn) (s : State) : Out := .next (kcpCommand opMemStatusGet k s)

/-! ### Repair (R285, R286, R288) -/

/-- MEM_REPAIR: the row that holds ROW_ADDR is to be repaired; its address must lie in the channel named. -/
def opMemRepair : OpDef :=
  { code := 0x0804, form := formLen 12, res0 := firstRes0 [(1, 3)]
    run := needTrained fun c s =>
      let ch := fieldAt 0 1 c.par
      let a := fieldAt 4 8 c.par
      if ch ≥ 16 then (s, ansField 32)
      else if a ≥ spareBase || chanOf a ≠ ch then (s, ansField 36)
      else (askRepair ch (rowOf a) s, ansAccepted) }

/-- R285. -/
def execMemRepair (k : KcpIn) (s : State) : Out := .next (kcpCommand opMemRepair k s)

/-- The remap table entry of a row, if its complement matches (R7, R286). -/
def MemChan.remapOf (c : MemChan) (row : Nat) : Option Remap :=
  c.remaps.find? fun r => r.row = row && r.complement == ~~~ BitVec.ofNat 64 (r.row + 2 ^ 32 * r.spare)

/-- The next free spare row of a bank: rows 0xFE00 to 0xFFFE in turn, never reused (R272, R286). -/
def MemChan.nextSpare (c : MemChan) (bank : Nat) : Option Nat :=
  let used := match c.spareNext.find? (·.1 = bank) with | some (_, n) => n | none => 0
  if used < 511 then some ((0xFE00 + used) * 16 + bank) else none

/-- R286, R288: the row is copied to a spare row of its bank and remapped, or no spare is found. Uncorrectable units
`lost` (0 to 127 of the row) are written poisoned. -/
def execRowRepair (chan : Fin 16) (row : Nat) (lost : List Nat) (s : State) : Out :=
  let c := s.memChan chan
  .next (if !s.dramUp || !c.repairAsked.contains row then s
    else
      let bank := bankOf row
      let addr := rowBase chan row
      let again := (c.remaps.find? (·.row = row)).isSome
      let s := s.onChan chan fun c => { c with repairAsked := c.repairAsked.filter (· ≠ row) }
      match c.nextSpare bank with
      | some spare =>
        if c.remaps.length ≥ 256 && !again then noSpare chan addr s
        else
          let entry : Remap := { row := row, spare := spare, complement := ~~~ BitVec.ofNat 64 (row + 2 ^ 32 * spare) }
          let s := s.onChan chan fun c => { c with
            remaps := c.remaps.filter (·.row ≠ row) ++ [entry]
            spareNext := (bank, spare / 16 - 0xFE00 + 1) :: c.spareNext.filter (·.1 ≠ bank)
            remapCount := c.remapCount + 1, lastRepair := 1, lastRepairAddr := BitVec.ofNat 64 addr }
          let bad := (lost.filter (· < 128)).map fun u => addr / 64 + u
          let s := { s with mem := { s.mem with poison := s.mem.poison ++ bad.filter fun u => !s.mem.poison.contains u,
                                                remapSeen := true } }
          let s := journalSpare 2 4 chan.val spare addr (s.bump .mcRemap)
          raiseEvent 4 (raiseEvent 8 s)
      | none => noSpare chan addr s)
where
  /-- R288. -/
  noSpare (chan : Fin 16) (addr : Nat) (s : State) : State :=
    let s := s.onChan chan fun c => { c with lastRepair := 3, lastRepairAddr := BitVec.ofNat 64 addr }
    let s := { s with mem := { s.mem with noSpareSeen := true } }.bump .mcNoSpare
    raiseEvent 4 (raiseEvent 8 (journalSpare 2 8 chan.val 0 addr s))

/-! ### Training (R279, R280) -/

/-- MEM_TRAIN: the channels of its mask train; BUSY while a plan is active. -/
def opMemTrain : OpDef :=
  { code := 0x0805, never := true, form := formLen 4, res0 := firstRes0 [(2, 2)]
    run := needTrained fun c s =>
      if s.plan.active.isSome then (s, ansBusy s.planCode)
      else ({ s with mem := { s.mem with training := s.mem.training ||| BitVec.ofNat 16 (fieldAt 0 2 c.par) } }, ansAccepted) }

/-- R280. -/
def execMemTrain (k : KcpIn) (s : State) : Out := .next (kcpCommand opMemTrain k s)

/-- Step 8 of training: every DQ pin has a read and a write eye of at least 0.30 UI (37.5 ps), every CA and CS pin one of at least 0.40 of
its bit period (R279). -/
def eyesGood (e : Eyes) : Bool := decide (375 ≤ e.read ∧ 375 ≤ e.write ∧ 400 ≤ e.command)

/-- Steps 1 to 8 on a channel (R279): both subchannels are calibrated, the write delays are trained anew, the eyes are measured and checked
against their limits. Write training touches the training row only. -/
def trainChannel (e : Eyes) (now : Nat) (c : MemChan) : MemChan :=
  { c with
    zqA := now, zqB := now, dqsShift := [], dqsPend := [], eyeRead := BitVec.ofNat 16 (e.read / 10), eyeWrite := BitVec.ofNat 16 (e.write / 10)
    hardLeft := e.hard, trained := eyesGood e }

/-- The channels of a mask are trained. -/
def trainChannels (mask : BitVec 16) (eyes : List Eyes) (s : State) : State :=
  let chan := s.mem.chan.zipIdx.map fun (c, i) => if mask.getLsbD i then trainChannel (eyes.getD i {}) s.now c else c
  { s with mem := { s.mem with chan := chan } }

/-- Channels of a mask that failed their last training. -/
def State.failedChans (s : State) (mask : BitVec 16) : BitVec 16 :=
  BitVec.ofNat 16 ((s.mem.chan.zipIdx.map fun (c, i) => bitOf (mask.getLsbD i && !c.trained) * 2 ^ i).sum)

/-- R280: steps 1 to 8 end on the channels that MEM_TRAIN named; contents are preserved. -/
def execMemTrainDone (eyes : List Eyes) (s : State) : Out :=
  .next (if !s.dramUp || s.mem.training = 0 then s
    else
      let mask := s.mem.training
      let s := trainChannels mask eyes { s with mem := { s.mem with training := 0 } }
      let failed := s.mem.chan.any fun c => !c.trained
      let was := s.mem.trainFail
      let s := { s with mem := { s.mem with trainFail := failed } }
      let s := if failed && !was then journalFault s.srcTamzar blkMc 5 (0x2044 / 4) (s.failedChans mask).toNat 0 s else s
      raiseEvent 4 s)

/-! ### Refresh (R274 to R277) -/

/-- tREFI of a channel in ns: 3,900, or 1,950 in the hot regime. -/
def MemChan.trefi (c : MemChan) : Nat := if c.hot then 1950 else 3900

/-- R275: a tick of the refresh timer adds 1 to the debt; the debt beyond REFRESH_POSTPONE is due. A new
REFRESH_POSTPONE takes effect here. An idle port issues one refresh at once. -/
def execRefreshTick (chan : Fin 16) (portBusy : Bool) (s : State) : Out :=
  let c := s.memChan chan
  .next (if !s.dramUp then s
    else
      let post := s.sup.refreshPostpone
      let d := c.debt + 1
      let s := s.onChan chan fun c => { c with debt := d, postpone := post, due := max c.due (d - post), timerAt := s.now }
      if !portBusy && !s.portBusy chan && d - post = 0 && c.due = 0 then issueRefab chan s else s)

/-- R275: a REFab is issued at a sub-burst boundary: one that is due, or one while no request waits at the port. -/
def execRefreshIssue (chan : Fin 16) (forced : Bool) (s : State) : Out :=
  let c := s.memChan chan
  .next (if !s.dramUp || c.debt = 0 || (forced && c.due = 0) || (!forced && c.due = 0 && s.portBusy chan) then s
    else issueRefab chan s)

/-- R274, R276, R277: the MR4 read of every die. A die that asks for more than 1x refresh puts the channel into the hot
regime; when all ask for 1x it returns. `rates` are the dies' refresh-rate fields, 1 for 1x, more for more. -/
def execMr4Read (chan : Fin 16) (rates : List Nat) (overtemp : Bool) (s : State) : Out :=
  let c := s.memChan chan
  .next (if !s.dramUp then s
    else
      let s := s.onChan chan fun c => { c with mr4 := rates.foldl max 0, mr4At := s.now }
      let anyHot := overtemp || rates.any (· > 1)
      let firstHot := !(s.mem.chan.any (·.hot))
      let s :=
        if anyHot && !c.hot then
          let s := s.onChan chan fun c => { c with hot := true, debt := 2 * c.debt, due := 2 * c.debt, timerAt := s.now }
          let s := raiseEvent 8 ({ s with mem := { s.mem with hotSeen := true },
                                          plan := { s.plan with coolAt := none } }.bump .mcHotRecount)
          if firstHot then forcePlan 6 { s with plan := { s.plan with derated := true } } else s
        else if !anyHot && c.hot then
          let s := s.onChan chan fun c => { c with
            hot := false, overtemp := false, debt := (c.debt + 1) / 2, due := 0, timerAt := s.now }
          if s.mem.chan.any (·.hot) then s else { s with plan := { s.plan with coolAt := some s.now } }
        else s
      if overtemp then
        let s := s.onChan chan fun c => { c with overtemp := true }
        let s := raiseEvent 8 { s with mem := { s.mem with overtempSeen := true } }
        thermalTrip (journalFault 2 blkMc 3 (0x2044 / 4) chan.val 0 s)
      else s)

/-- R281: ZQ calibration of a subchannel, at most every 128 ms. Refresh and contents are unchanged. -/
def execZqCalibration (chan : Fin 16) (subB : Bool) (s : State) : Out :=
  .next (if !s.dramUp then s
    else s.onChan chan fun c => if subB then { c with zqB := s.now } else { c with zqA := s.now })

/-- R281: the drift of a die's DQS oscillator in 1/1024 UI; above 1/32 UI its write delays shift by the drift at the next REFab. -/
def execDqsOscillator (chan : Fin 16) (die : Nat) (drift : Int) (s : State) : Out :=
  .next (if s.dramUp && (drift > 32 || drift < -32) && die < 6 then
    s.onChan chan fun c => { c with dqsPend := c.dqsPend.filter (·.1 ≠ die) ++ [(die, drift)] }
    else s)

/-! ### Scrub (R284, R285) -/

/-- Address of the scrub's unit number `u` of a channel: ascending addresses. -/
def scrubAddr (ch u : Nat) : Nat := u / 128 * 2 ^ 17 + ch * 2 ^ 13 + u % 128 * 64

/-- Note a corrected unit of a row on the watch list of 32 rows (R285). -/
def MemChan.note (c : MemChan) (row u : Nat) : MemChan :=
  match c.watch.find? (·.1 = row) with
  | some (_, us) =>
    let us := if us.contains u then us else us ++ [u]
    { c with watch := c.watch.map fun e => if e.1 = row then (row, us) else e }
  | none =>
    if c.watch.length < 32 then { c with watch := c.watch ++ [(row, [u])] }
    else
      let least := (c.watch.map (·.2.length)).foldl min 1000000
      match c.watch.findIdx? (·.2.length = least) with
      | some i => { c with watch := (c.watch.eraseIdx i) ++ [(row, [u])] }
      | none => c

/-- R284: the scrubber reads the channel's next unit. A unit that needs correction is rewritten, unless a write to it has
been granted since. Four corrected units of a row within a pass ask for its repair. -/
def execScrubRead (chan : Fin 16) (errs : SymErrs) (granted : Bool) (s : State) : Out :=
  .next (if !s.dramUp then s
    else
      let u := (s.memChan chan).scrubUnit
      let a := scrubAddr chan u
      let row := rowOf a
      let n := (badSymbols errs).length
      let corrected := !s.mem.poison.contains (unitOf a) && 0 < n && n ≤ 3
      let (_, s) := unitRead a errs (memAccess 7 a 64 s)
      let s := if corrected then
          let s := if granted then s else s.bump .mcMergeWrite
          let s := (s.bump .mcScrubCe).onChan chan fun c => c.note row (u % 128)
          match (s.memChan chan).watch.find? (·.1 = row) with
          | some (_, us) => if us.length ≥ 4 then askRepair chan row s else s
          | none => s
        else s
      if u + 1 ≥ 2 ^ 27 then
        let s := s.onChan chan fun c => { c with scrubUnit := 0, passes := c.passes + 1, watch := [] }
        if (s.mem.chan.map (·.passes.toNat)).foldl min (2 ^ 32) > s.mem.scrubPasses.toNat then
          { s with mem := { s.mem with scrubPasses := s.mem.scrubPasses + 1 } } else s
      else s.onChan chan fun c => { c with scrubUnit := u + 1 })

/-! ### The Trellis (R291, R293, R295) -/

/-- R293: a master resets with a write burst of `total` sub-bursts in progress at a target, `done` of which had fully
arrived. The rest go with strobes off. -/
def execMasterResetBurst (master : Fin 8) (target : Fin 22) (addr done total : Nat) (s : State) : Out :=
  .next (if !s.dieRuns || done > total then s
    else
      let ab : Abort := { master := master, target := target, addr := addr, written := done }
      let s := { s with tl := { s.tl with abortedSeen := true, aborted := s.tl.aborted ++ [ab] } }.bump .tlAbortedBurst
      journalFault 2 blkTl 8 Ctr.tlAbortedBurst.pid (master.val + 256 * target.val + 65536 * done) addr s)

/-- R295: a bridge access is not answered within 2 us: a read returns ones, a write is dropped. -/
def execBridgeTimeout (path : BusPath) (offset : BitVec 16) (write : Bool) (s : State) : Out :=
  .next (if s.clk.held || offset.toNat % 4 ≠ 0 then s
    else
      let s := busTimeout s
      if write then s
      else match path with
        | .bar0 => { s with pcie := { s.pcie with lastRead := List.replicate 4 0xFF } }
        | .smbus => { s with smb := { s.smb with lastRead := List.replicate 4 0xFF } })

/-- MC_STATUS (R296 registers). -/
def mcStatus (s : State) : W32 :=
  BitVec.ofNat 32 ((s.mem.chan.zipIdx.map fun (c, i) => bitOf c.trained * 2 ^ i + bitOf c.hot * 2 ^ (16 + i)).sum)

/-- The bytes of a write whose strobes are on: address and byte (R273). -/
def strobed (a : Nat) : List Byte → List Bool → List (Nat × Byte)
  | b :: bs, true :: ss => (a, b) :: strobed (a + 1) bs ss
  | _ :: bs, false :: ss => strobed (a + 1) bs ss
  | _, _ => []

/-- R357, R294: an access through the BAR4 aperture reaches BASE × 1 GiB + x (a larger BASE acts as 124). Strobes that
are missing are on. A unit with some strobes off is merged; one with all off is not sent. A marked read completes poisoned (R283). -/
def execBar4Access (write : Bool) (offset : W32) (len : Nat) (data : List Byte) (strobes : List Bool) (s : State) : Out :=
  let a := min s.pcie.aperture.toNat 124 * 2 ^ 30 + offset.toNat
  .next (if !s.pcie.up || s.pcie.perst || !s.dramUp || offset.toNat + len > 2 ^ 32 then s
    else if write then
      let bs := fit len data
      let st := strobes ++ List.replicate (len - strobes.length) true
      if !s.pcieWritable a len then denied s
      else
        let cells := strobed a bs st
        let units := (cells.map fun c => c.1 / 64).eraseDups
        units.foldl (fun s u => storeUnit u (cells.filter fun c => c.1 / 64 = u) s) (memAccess 4 a len s)
    else if pcieReadable a len then
      let (bad, s) := (List.range ((a + len + 63) / 64 - a / 64)).foldl (fun (x : Bool × State) i =>
        let (m, s) := unitRead (64 * (a / 64 + i)) [] x.2
        (x.1 || m, s)) (false, memAccess 4 a len s)
      { s with pcie := { s.pcie with lastRead := s.dramRead a len, lastPoisoned := bad } }
    else denied { s with pcie := { s.pcie with lastRead := zeros len, lastPoisoned := false } })
where
  /-- The strobed bytes of one unit: all 64 of them replace it, fewer are merged into it (R273). -/
  storeUnit (u : Nat) (cells : List (Nat × Byte)) (s : State) : State :=
    if cells.length = 64 then dramStore (64 * u) (cells.map (·.2)) s
    else (cells.foldl (fun s c => s.dramWrite c.1 [c.2]) s).bump .mcMergeWrite

/-- R296: MC_CNT_CLR clears the MC_ counters of R296. -/
def execMcCntClr (value : W32) (s : State) : Out :=
  .next (overBus (clearOn 0x2050 0x2078 value) s)

/-- R296: TL_CNT_CLR clears the TL_ counters. -/
def execTlCntClr (value : W32) (s : State) : Out :=
  .next (overBus (clearOn 0x240C 0x2418 value) s)

end Sys2Proof.Machine
end

