-- ==== Sys2Proof/Machine/Time.lean ====
section
/-! DEFINITION. Device time (R192 to R208): sources, measurements, the jump test, the servo, steps, PTP and mesh
exchanges, the epoch mapping. -/

namespace Sys2Proof.Machine
open Sys2Proof

/-! ### Readings -/

/-- TM_STATUS (R216). -/
def tmStatus (s : State) : W32 :=
  let t := s.time
  let ns := clampInt (-32767) 32767 (t.lastErr / 2 ^ 16)
  BitVec.ofNat 32 (timeStateCode t.state + 8 * bitOf t.synced + 16 * bitOf t.epochSet + 32 * t.source +
    128 * bitOf t.rateAtLimit + 256 * bitOf t.jumpRefusedSeen + 512 * bitOf t.steppedSeen + 1024 * bitOf t.syncEdgeSeen +
    65536 * (BitVec.ofInt 16 ns).toNat)

/-- TIME_READ: TIME, RES0, FRC, TM_STATUS. -/
def opTimeRead : OpDef :=
  { code := 0x0601, g := true, form := formLen 0, fault := fun _ s => !s.timePaired
    run := fun _ s =>
      (s, ansOk (time10 s.time16 ++ zeros 2 ++ le8 s.time.frc.toNat ++ le4 (tmStatus s).toNat)) }

/-- R323. -/
def execTimeRead (k : KcpIn) (s : State) : Out := .next (kcpCommand opTimeRead k s)

/-- R194: a read of TM_NOW_LO latches the other words from the same TCLK period, one latch for each path. -/
def execTmNowRead (path : BusPath) (s : State) : Out :=
  let ns := (nsOf s.time16).toNat
  let l : TimeLatch := { mid := BitVec.ofNat 32 (ns / 2 ^ 32), frac := BitVec.ofNat 32 (fracOf s.time16).toNat,
                         frcLo := BitVec.ofNat 32 s.now, frcHi := BitVec.ofNat 32 (s.now / 2 ^ 32) }
  .next (if s.boot.step < 2 then s
    else match path with
      | .bar0 => { s with time := { s.time with nowLatch := l }, pcie := { s.pcie with lastRead := le4 ns } }
      | .smbus => { s with time := { s.time with nowLatchSmb := l }, smb := { s.smb with lastRead := le4 ns } })

/-! ### Records, steps and states -/

/-- TIME cues that a step from device time `t0` to `t1` puts in the past (R206). -/
def State.steppedOver (s : State) (t0 t1 : Int) : List Nat :=
  (s.cues.entries.filter fun e => e.cls == .time && !e.isLocal &&
    decide (t0 < (e.point.toNat : Int) * 2 ^ 16 ∧ (e.point.toNat : Int) * 2 ^ 16 < t1)).map (·.id)

/-- A step of OFFSET by `d` (2^-16 ns): R202, R205, R206. -/
def stepOffset (d : Int) (s : State) : State :=
  let t := s.time
  let cues := { s.cues with stepped := s.cues.stepped ++ s.steppedOver s.time16 (s.time16 + d) }
  let s := ({ s with cues := cues, time := { t with
    offset := t.offset + BitVec.ofInt 104 (d * 2 ^ 24), offsetN := ~~~ (t.offset + BitVec.ofInt 104 (d * 2 ^ 24))
    steppedSeen := true, synced := false, goodRun := 0, stepNext := false } }).bump .tmSteps
  setTimeState .acquire (journalTime 0 d (raiseEvent 6 s))

/-! ### Measurements (R201 to R204) -/

/-- The effective jump threshold in 2^-16 ns; values below 100 ns act as 100 (R216). -/
def State.jumpThr16 (s : State) : Int := (max s.time.jumpThr.toNat 100 : Nat) * 2 ^ 16

/-- The servo (R203): RATE and the frequency estimate are free values within the clamp (log 10). -/
def servo (e : Int) (s : State) : State :=
  let (i, s) := takeFree s
  let raw := Config.servoRate i s.time.rate.toInt e
  let r := clampInt (-rateLimit) rateLimit raw
  let est := clampInt (-rateLimit) rateLimit (Config.servoEstimate i s.time.rate.toInt e)
  let hit := decide (raw ≠ r)
  let s := { s with time := { s.time with freqEst := BitVec.ofInt 32 est, rateAtLimit := hit } }
  setRate (BitVec.ofInt 32 r) (if hit then s.bump .tmRateClamp else s)

/-- An accepted measurement after the first step (R201, R203). -/
def acceptMeasure (e : Int) (s : State) : State :=
  let within := decide (-(s.time.lockThr * 2 ^ 16 : Int) ≤ e ∧ e ≤ s.time.lockThr * 2 ^ 16)
  let run := if within then s.time.goodRun + 1 else 0
  let s := ({ s with time := { s.time with goodRun := run, lastAccepted := s.now } }).bump .tmMeasAccepted
  let s := journalTime 2 e (servo e s)
  match s.time.state with
  | .hold | .refuse => setTimeState (if s.time.synced then .lock else .acquire) s
  | .unsynced => setTimeState .acquire s
  | .acquire =>
    if run ≥ 8 then setTimeState .lock { s with time := { s.time with synced := true } } else s
  | _ => s

/-- A refused measurement (R204). -/
def refuseMeasure (e : Int) (s : State) : State :=
  let s := ({ s with time := { s.time with jumpRefusedSeen := true } }).bump .tmMeasRefused
  journalTime 3 e (enterHeld .refuse (raiseEvent 6 s))

/-- A measurement `e` (device time minus source time, 2^-16 ns) of a source: used only from the current source. -/
def measured (src : Nat) (e : Int) (s : State) : State :=
  if s.time.source ≠ src then s
  else
    let s := { s with time := { s.time with lastErr := e } }
    if s.time.state == .unset || s.time.stepNext then
      stepOffset (-e) (({ s with time := { s.time with lastAccepted := s.now } }).bump .tmMeasAccepted)
    else if e > s.jumpThr16 || e < -s.jumpThr16 then refuseMeasure e s
    else acceptMeasure e s

/-! ### TIME_SOURCE (R195) -/

/-- Distinct small numbers of a byte list. -/
def distinct (xs : List Nat) : Bool := xs.eraseDups.length == xs.length

/-- One item of R195 (byte forms of log 11); none when it is not acceptable. -/
def timeItem (id : Nat) (v : List Byte) (s : State) (t : Time) : Option Time :=
  let n := unle v
  let bs := v.map (·.toNat)
  match id with
  | 1 => if 1 ≤ v.length ∧ v.length ≤ 3 ∧ bs.all (fun b => 1 ≤ b && b ≤ 3) ∧ distinct bs then some { t with sources := bs, sourcesSet := true } else none
  | 2 => if v.length ≤ 2 ∧ bs.all (fun b => b < 128 && !(s.lane b).fj) ∧ distinct bs then some { t with ptpLanes := bs } else none
  | 3 => if v.length = 1 ∧ n ≤ 127 then some { t with domain := n } else none
  | 4 => if v.length % 12 = 0 ∧ v.length ≤ 24 then
      some { t with asymmetry := (List.range (v.length / 12)).map fun i => timeAt (12 * i) v } else none
  | 5 => if v.length = 4 ∧ 500 ≤ n ∧ n ≤ 64000 then some { t with servoTau := n } else none
  | 6 => if v.length = 4 ∧ 10 ≤ n ∧ n ≤ 10000 then some { t with lockThr := n } else none
  | 7 => if v.length = 4 ∧ 1 ≤ n ∧ n ≤ 3600 then some { t with holdLimit := n } else none
  | 8 => if v.length = 1 ∧ n ≤ 1 then some { t with segAlign := n = 1 } else none
  | _ => none

/-- Apply items in order; the offset of the first that fails. -/
def timeItems (s : State) : List (Nat × Nat × List Byte) → Time → Time ⊕ Nat
  | [], t => .inl t
  | (id, off, v) :: rest, t =>
    match timeItem id v s t with
    | some u => timeItems s rest u
    | none => .inr off

/-- TIME_SOURCE at step 11. Naming HOST makes it silent until its first accepted measurement. -/
def timeSourceRun (off : Nat) (par : List Byte) (s : State) : State × Answer :=
  match parseItems par.length off par with
  | (none, o) => (s, ansField o)
  | (some items, _) =>
    match repeatedItem items [] with
    | some o => (s, ansField o)
    | none =>
      match timeItems s items s.time with
      | .inr o => (s, ansField o)
      | .inl t =>
        let named := items.any (·.1 = 1) && t.sources.contains 3
        let t := if named then { t with hostSilent := true, hostTimes := [] } else t
        (bmca { s with time := t }, ansOk)

/-- TIME_SOURCE. -/
def opTimeSource : OpDef :=
  { code := 0x0602, form := formItems 0, run := fun c s => timeSourceRun 32 c.par s }

/-- R195. -/
def execTimeSource (k : KcpIn) (s : State) : Out := .next (kcpCommand opTimeSource k s)

/-! ### TIME_MEASURE (R200) -/

/-- A source of higher priority than HOST is not silent. -/
def State.aboveHost (s : State) : Bool := (s.time.sources.takeWhile (· ≠ 3)).any fun k => !s.sourceIsSilent k

/-- TIME_MEASURE: the FRC of the parameters is when E holds; the measurement is used as it is. -/
def opTimeMeasure : OpDef :=
  { code := 0x0603, never := true, form := formLen 24, res0 := firstRes0 [(10, 6)], fault := fun _ s => !s.timePaired
    run := fun c s =>
      if !s.time.sources.contains 3 || s.aboveHost then (s, ansRefuse .badParam)
      else
        let recent := s.time.hostTimes.filter fun t => !(s.passed t (10 ^ 9))
        if recent.length ≥ 100 then (s, ansBusy 100)
        else
          let s := { s with time := { s.time with hostSilent := false, hostTimes := s.now :: recent } }
          (measured 3 (timeAt 0 c.par) (chooseSource s), ansOk) }

/-- R200. -/
def execTimeMeasure (k : KcpIn) (s : State) : Out := .next (kcpCommand opTimeMeasure k s)

/-! ### TIME_STEP (R202, R205) -/

/-- TIME_STEP: MODE (0 DELTA, 1 SOURCE), DELTA and its complement. -/
def opTimeStep : OpDef :=
  { code := 0x0604, form := formLen 24, res0 := firstRes0 [(1, 1), (22, 2)], fault := fun _ s => !s.timePaired
    run := fun c s =>
      let mode := fieldAt 0 1 c.par
      if mode > 1 then (s, ansField 32)
      else if slice 12 10 c.par ≠ compl (slice 2 10 c.par) then (s, ansRefuse .badComplement)
      else if kRestep c.k then
        if mode = 0 then (stepOffset (timeAt 2 c.par) s, ansOk)
        else ({ s with time := { s.time with stepNext := true } }, ansOk)
      else if s.time.state != .unset then (s, ansRefuse .badParam)
      else if mode = 0 then (stepOffset (timeAt 2 c.par) s, ansOk)
      else (s, ansOk) }

/-- R202, R205. -/
def execTimeStep (k : KcpIn) (s : State) : Out := .next (kcpCommand opTimeStep k s)

/-! ### TIME_EPOCH_SET (R207, R208) -/

/-- The caller of a joined system passes a system-scope setting to every device as a relayed packet (R235, log 19). -/
def relayAll (c : Ctx) (s : State) : State :=
  if s.boot.system = 2 && c.path ≠ .mesh && !s.mesh.system.isEmpty then
    let kept := s.kcp.relayed
    let s := relayOut { c with k := { c.k with route := BitVec.ofNat 32 (3 * 1024) } } s
    { s with kcp := { s.kcp with relayed := kept } }
  else s

/-- TIME_EPOCH_SET: EPOCH_TIME, P_DEN and P_NUM; the period must lie between 1 ns and 10^9 ns. -/
def opTimeEpochSet : OpDef :=
  { code := 0x0605, sys := true, form := formLen 24, res0 := firstRes0 [(10, 2)]
    run := fun c s =>
      let den := fieldAt 12 4 c.par
      let num := fieldAt 16 8 c.par
      if den = 0 then (s, ansField 44)
      else if num < den || num > 10 ^ 9 * den then (s, ansField 48)
      else
        let s := { s with time := { s.time with
          epochSet := true, epochTime := (fieldAt 0 8 c.par : Int) * 2 ^ 16 + fieldAt 8 2 c.par, pNum := num, pDen := den } }
        (relayAll c (record 0x05 s.srcTamzar c.par s), ansOk) }

/-- R207, R208. -/
def execTimeEpochSet (k : KcpIn) (s : State) : Out := .next (kcpCommand opTimeEpochSet k s)

/-! ### PTP (R196, R197) -/

/-- Announce interval in ns: 2^log seconds. -/
def intervalNs (log : Int) : Nat := if log ≥ 0 then 10 ^ 9 * 2 ^ log.toNat else 10 ^ 9 / 2 ^ (-log).toNat

/-- A message of another domain, or outside the accepted intervals, is discarded and counted. -/
def ptpDiscard (s : State) : State := s.bump .tmPtpDiscard

/-- R196: an Announce; two within 4 announce intervals qualify the master. -/
def execPtpAnnounce (lane : Fin 128) (msg : PtpAnnounce) (s : State) : Out :=
  .next (if !s.laneRuns || !s.ptpPort lane then s
    else if msg.domain ≠ s.time.domain || msg.logInterval < -3 || msg.logInterval > 4 then ptpDiscard s
    else
      let old := s.time.masters.find? fun m => m.ann.id = msg.id && m.lane = lane.val
      let prior := match old with | some m => m.heard.filter fun t => !(s.passed t (4 * intervalNs msg.logInterval)) | none => []
      let q := (match old with | some m => m.qualified | none => false) || !prior.isEmpty
      let m : PtpMaster := { lane := lane, ann := msg, heard := s.now :: prior.take 3, qualified := q }
      let rest := s.time.masters.filter fun m => !(m.ann.id = msg.id && m.lane = lane.val)
      bmca { s with time := { s.time with masters := rest ++ [m] } })

/-- R196: a master's announceReceiptTimeout (3 intervals) expires. -/
def execAnnounceReceiptTimeout (lane : Fin 128) (master : PtpId) (s : State) : Out :=
  .next (if s.clk.held then s
    else
      let due (m : PtpMaster) : Bool := m.ann.id = master && m.lane = lane.val
      if s.time.masters.any due then
        let s := match s.time.masters.find? due with
          | some m => (match m.heard.head? with | some t => s.waitFor t (3 * intervalNs m.ann.logInterval) | none => s)
          | none => s
        bmca { s with time := { s.time with masters := s.time.masters.filter fun m => !due m } }
      else s)

/-- R196: Delay_Req leaves a PTP port and its transmit timestamp t3 is kept beside the port's latest complete exchange. -/
def execPtpDelayReqSend (lane : Fin 128) (t3 : Int) (s : State) : Out :=
  .next (if s.laneRuns && s.ptpPort lane && s.txOpen lane && s.time.ptpMaster.isSome then
    let rest := s.time.ptpExch.filter fun x => x.lane ≠ lane.val || x.complete
    let s := s.onLane lane fun x => { x with framesOut := x.framesOut + 1 }
    { s with time := { s.time with ptpExch := rest ++ [{ lane := lane, t3 := t3 }] } }
    else s)

/-- R196: a Delay_Resp completes the exchange of its port; its logMessageInterval is limited to -7 to +5. -/
def execPtpDelayResp (lane : Fin 128) (master : PtpId) (domain : Nat) (t4 correction logInterval : Int) (s : State) : Out :=
  .next (if !s.laneRuns || !s.ptpPort lane then s
    else if domain ≠ s.time.domain then ptpDiscard s
    else if s.time.ptpMaster ≠ some master then s
    else match s.time.ptpExch.find? fun x => x.lane = lane.val && !x.complete with
      | none => s
      | some x =>
        let x := { x with t4 := t4, correction := correction, complete := true, logInterval := clampInt (-7) 5 logInterval }
        { s with time := { s.time with ptpExch := s.time.ptpExch.filter (·.lane ≠ lane.val) ++ [x] } })

/-- ASYMMETRY of a PTP port. -/
def State.asymmetryOf (s : State) (l : Nat) : Int :=
  match s.time.ptpLanes.findIdx? (· = l) with | some i => s.time.asymmetry.getD i 0 | none => 0

/-- R197: a Sync (with its Follow_Up) paired with the latest complete Delay_Req exchange of its port yields one measurement. -/
def execPtpSync (lane : Fin 128) (master : PtpId) (domain : Nat) (t1 t2 correction logInterval : Int) (s : State) : Out :=
  .next (if !s.laneRuns || !s.ptpPort lane then s
    else if domain ≠ s.time.domain || logInterval < -7 || logInterval > 1 then ptpDiscard s
    else if s.time.ptpMaster ≠ some master then s
    else match s.time.ptpExch.find? fun x => x.lane = lane.val && x.complete with
      | none => s
      | some x =>
        let e := ((t2 - t1 - correction) - (x.t4 - x.t3 - x.correction)) / 2 - s.asymmetryOf lane
        measured 1 e s)

/-! ### Mesh time (R198, R202, R260) -/

/-- The device's time parent: the segment lead, or the caller for a lead. -/
def State.timeParent (s : State) : Nat :=
  if s.mesh.lead then leaseHolder s.callerLease
  else match (s.mesh.heard.find? fun h => h.body.lead && h.body.segment = s.mesh.segment) with
    | some h => h.index
    | none => leaseHolder s.callerLease

/-- Body of a time frame (R260). -/
def timeBody (b : TimeBody) : List Byte :=
  le4 b.exch.toNat ++ le4 (bitOf b.notSynced) ++ time10 b.t1 ++ zeros 2 ++ time10 b.t4 ++ zeros 2 ++ leInt 8 b.corrReq ++
    leInt 8 b.corrResp

/-- R198, R260: a child sends TIME_REQ to its parent and keeps t3. -/
def execTimeExchangeSend (t3 : Int) (s : State) : Out :=
  .next (if s.laneRuns && s.boot.system ≠ 0 && !s.mesh.caller then
    let n := s.time.exch + 1
    let s := { s with time := { s.time with exch := n, exchT3 := t3, exchFrc := s.now } }
    let (q, s) := takeFseq 0x12 s
    meshOut { lane := 0, type := 0x12, src := s.srcIndex, dest := destField 1 s.timeParent, fseq := q,
              body := timeBody { exch := n, notSynced := false, t1 := 0, t4 := 0, corrReq := 0, corrResp := 0 } } s
    else s)

/-- A parent answers TIME_REQ; while it is not SYNCED it marks the response (R198). -/
def answerTimeReq (src : Nat) (body : TimeBody) (t4 t1 : Int) (s : State) : State :=
  if s.boot.system = 0 then s
  else
    let (q, s) := takeFseq 0x13 s
    meshOut { lane := 0, type := 0x13, src := s.srcIndex, dest := destField 1 src, fseq := q,
              body := timeBody { exch := body.exch, notSynced := !s.time.synced, t1 := t1, t4 := t4,
                                 corrReq := body.corrReq, corrResp := 0 } } s

/-- R260. -/
def execTimeReq (lane : Fin 128) (src : Nat) (body : TimeBody) (t4 t1 : Int) (s : State) : Out :=
  .next (meshGate lane (answerTimeReq src body t4 t1) s)

/-- Device time of an FRC value in the recent past, 2^-16 ns, under the present RATE. -/
def State.timeAtFrc (s : State) (f : Nat) : Int :=
  (s.time.offset.toInt + (2 * 2 ^ 40 * f : Nat) + s.time.drift.toInt - 2 * s.time.rate.toInt * (s.now - f : Nat)) / 2 ^ 24

/-- The last SYNC edge counted lies at least 10 µs from any edge before it (R202). -/
def State.loneEdge (s : State) : Bool :=
  s.time.syncEdges = 1 || (s.time.syncEdges = 2 && decide (s.time.prevSyncFrc.toNat + 5000 ≤ s.time.syncFrc.toNat))

/-- The segment alignment step of R202, if the device can take it now: it is the first step, in place of -e, so that R203 and R205 hold
after it. `lead` is the lead's capture of an edge that meets the rule's spacing on the lead's side (log 119). -/
def alignStep (e : Int) (lead : Option Int) (s : State) : Option State :=
  if s.time.segAlign && s.time.state == .unset && s.loneEdge then
    match lead with
    | none => none
    | some l =>
      let mine := s.timeAtFrc s.time.syncFrc.toNat - 4 * 2 ^ 16
      let d := mine - e - l
      if d ≤ 1000 * 2 ^ 16 && d ≥ -(1000 * 2 ^ 16) then
        let s := { s with time := { s.time with aligned := true, meshAsym := e + (l - mine), lastErr := e,
                                                lastAccepted := s.now } }
        some (stepOffset (l - mine) (s.bump .tmMeasAccepted))
      else none
  else none

/-- TIME_RESP yields a MESH measurement; one that arrives more than 10 ms after its request, or of another
exchange, is discarded. NOT_SYNCED makes MESH silent. -/
def takeTimeResp (src : Nat) (body : TimeBody) (t2 : Int) (s : State) : State :=
  if src ≠ s.timeParent || body.exch ≠ s.time.exch || s.passed s.time.exchFrc 10000002 then s
  else if body.notSynced then chooseSource { s with mesh := { s.mesh with notSyncedLead := true } }
  else
    let e := ((t2 - body.t1 - body.corrResp) - (body.t4 - s.time.exchT3 - body.corrReq)) / 2
    let s := { s with time := { s.time with meshSilent := false, meshLast := s.now },
                      mesh := { s.mesh with notSyncedLead := false } }
    let s := chooseSource s
    if s.time.source = 2 then
      match alignStep e body.leadSync s with
      | some s => s
      | none => measured 2 (e - s.time.meshAsym) s
    else s

/-- R198, R260. -/
def execTimeResp (lane : Fin 128) (src : Nat) (body : TimeBody) (t2 : Int) (s : State) : Out :=
  .next (meshGate lane (takeTimeResp src body t2) s)

/-! ### Timeouts -/

/-- R195: a source's silence timeout expires. -/
def execSourceSilent (source : Nat) (s : State) : Out :=
  .next (if s.clk.held then s
    else match source with
      | 2 =>
        let s := s.waitFor s.time.meshLast (10 ^ 9)
        chooseSource { s with time := { s.time with meshSilent := true } }
      | 3 =>
        let s := match s.time.hostTimes.head? with | some t => s.waitFor t (10 * 10 ^ 9) | none => s
        chooseSource { s with time := { s.time with hostSilent := true } }
      | 1 => chooseSource s
      | _ => s)

/-- R201: HOLD_LIMIT has passed in HOLD or REFUSE since the last accepted measurement. -/
def execHoldLimitExpiry (s : State) : Out :=
  .next (if !s.clk.held && (s.time.state == .hold || s.time.state == .refuse) then
    let s := s.waitFor s.time.lastAccepted (s.time.holdLimit * 10 ^ 9)
    setTimeState .unsynced { s with time := { s.time with synced := false, goodRun := 0 } }
    else s)

/-- R217: TM_CNT_CLR clears the time counters. -/
def execTmCntClr (value : W32) (s : State) : Out :=
  .next (if s.gkServes then clearOn 0x1438 0x1464 value s else s)

end Sys2Proof.Machine
end

