-- ==== Sys2Proof/Machine/Cues.lean ====
section
/-! DEFINITION. The cue table (R212 to R215): cancelling, listing, system cues, passing to hardware. -/

namespace Sys2Proof.Machine
open Sys2Proof

/-- CLASS of a CUE_RUN record: byte 14 of R212. -/
def CueEntry.classByte (e : CueEntry) : Nat := e.value.toNat / 2 ^ 112 % 256

/-- A CUE_RUN record: OUTCOME 0 ran, 1 ran STEPPED, 2 dropped on complement mismatch, 3 dropped TENTATIVE, 4 invalid
under a new plan (R333). -/
def journalCue (src outcome ranAt : Nat) (e : CueEntry) (s : State) : State :=
  record 0x03 src (le4 e.seq.toNat ++ le2 e.opcode.toNat ++ le 1 e.classByte ++ le 1 outcome ++ le8 e.point.toNat ++
    le8 ranAt) s

/-- R215: not every device has accepted a system cue within 2 ms. -/
def execSystemCueTimeout (seq : W32) (s : State) : Out :=
  .next (match s.cues.system.find? fun c => c.seq = seq && !c.settled with
    | some c => if s.tamzarServes then settleSystemCue c false (s.waitFor c.sentAt 2000000) else s
    | none => s)

/-- The caller cancels a system cue that every addressed device may still hold (R214, R215): CANCEL goes to all. -/
def cancelSystem (seq : W32) (s : State) : State :=
  sendCueWord 0x0611 seq { s with cues := { s.cues with system := s.cues.system.map fun x =>
    if x.seq = seq then { x with settled := true, cancelled := true } else x } }

/-- A system cue of the caller that no entry of its own table stands for, and that may still be pending elsewhere: not settled, or
confirmed and addressed to other devices only (log 144). -/
def State.cancellable (s : State) (seq : W32) : Bool :=
  s.mesh.caller && s.cues.system.any fun c =>
    c.seq = seq && !c.cancelled && (!c.settled || c.devs.all fun d => d.1 ≠ s.mesh.index.toNat)

/-- CUE_CANCEL (R214). -/
def opCueCancel : OpDef :=
  { code := 0x0606, form := formLen 8, res0 := firstRes0 [(5, 3)]
    run := fun c s =>
      let seq := BitVec.ofNat 32 (fieldAt 0 4 c.par)
      let sys := fieldAt 4 1 c.par
      if sys > 1 then (s, ansField 36)
      else
        if sys = 1 && !(c.path == .mesh || s.mesh.caller) then
          (s, ansRefuse (if s.mesh.partitioned then .partitioned else .badParam))
        else match s.cueEntry (sys = 1) seq with
        | some e =>
          let s := removeCue e (s.bump .tmCueCancelled)
          let s := if e.system && s.mesh.caller && c.path != .mesh then cancelSystem seq s else s
          (s, ansOk)
        | none =>
          if sys = 1 && c.path != .mesh && s.cancellable seq then (cancelSystem seq s, ansOk)
          else if s.cues.hw.any (fun e => e.seq = seq && e.system == (sys = 1)) || s.cues.done.contains (decide (sys = 1), seq) then
            (s, ansRefuse .late)
          else (s, ansRefuse .badParam) }

/-- R214. -/
def execCueCancel (k : KcpIn) (s : State) : Out := .next (kcpCommand opCueCancel k s)

/-- The whole CUE_LIST_GET result: entries, and on the caller the devices' outcomes of each system cue. -/
def cueListing (s : State) : List Byte :=
  (s.cues.entries.map fun e => e.bytes ++
    (if s.mesh.caller && e.system then sysPart e.seq else [])).flatten ++
  (if s.mesh.caller then
    ((s.cues.system.filter fun c => (s.cueEntry true c.seq).isNone).map fun c =>
      (CueEntry.sealed { point := 0, seq := c.seq, opcode := 0, cls := .sweep, system := true, complement := 0 }).bytes ++
        sysPart c.seq).flatten
   else [])
where
  /-- NDEV, RES0, then INDEX and STATUS of each device; a device that has not answered shows ACCEPTED (log 22). -/
  sysPart (seq : W32) : List Byte :=
    match s.cues.system.find? (·.seq = seq) with
    | none => le2 0 ++ zeros 2
    | some c => le2 c.devs.length ++ zeros 2 ++ (c.devs.map fun (d, st) => le2 d ++ le2 (st.getD 1).toNat).flatten

/-- CUE_LIST_GET. -/
def opCueListGet : OpDef :=
  { code := 0x0607, form := formLen 4
    run := fun c s => (s, ansOk (paged (fieldAt 0 4 c.par) (cueListing s))) }

/-- R214. -/
def execCueListGet (k : KcpIn) (s : State) : Out := .next (kcpCommand opCueListGet k s)

/-- CONFIRM clears TENTATIVE (R215). -/
def opConfirm : OpDef :=
  { code := 0x0610, xo := true, form := formLen 4
    run := fun c s =>
      let seq := BitVec.ofNat 32 (fieldAt 0 4 c.par)
      match s.cueEntry true seq with
      | some x =>
        ({ s with cues := { s.cues with entries := s.cues.entries.map fun e =>
                              if e.id = x.id && e.good then CueEntry.sealed { e with tentative := false } else e } }, ansOk)
      | none => (s, ansRefuse .badParam) }

/-- R215. -/
def execConfirm (k : KcpIn) (s : State) : Out := .next (kcpCommand opConfirm k s)

/-- CANCEL removes a system cue that has not yet passed to hardware (R214, R215). -/
def opCancel : OpDef :=
  { code := 0x0611, xo := true, form := formLen 4
    run := fun c s =>
      let seq := BitVec.ofNat 32 (fieldAt 0 4 c.par)
      match s.cueEntry true seq with
      | some e => (removeCue e (s.bump .tmCueCancelled), ansOk)
      | none => (s, ansRefuse .badParam) }

/-- R215. -/
def execCancel (k : KcpIn) (s : State) : Out := .next (kcpCommand opCancel k s)

/-- An entry whose complement no longer matches is dropped with a FAULT record (R212). -/
def dropBroken (src : Nat) (e : CueEntry) (s : State) : State :=
  let s := removeCue e (s.bump .tmCueDropped)
  journalCue src 2 0 e (journalFault src blkTm 0 Ctr.tmCueDropped.pid e.seq.toNat 0 s)

/-- A cue that is still TENTATIVE when it would pass is dropped, and the caller that sent it gets LATE (R215). -/
def dropTentative (src : Nat) (e : CueEntry) (s : State) : State :=
  let held := s.cues.packets.find? (·.1 = e.id)
  let s := journalCue src 3 0 e (removeCue e (s.bump .tmCueDropped))
  match held with
  | some (_, code, k) =>
    if k.path == .mesh then sendReply .mesh (kOrigin k) (mkReply .mesh code k (ansRefuse .late) 0 s) s else s
  | none => s

/-- The sweep of the dwell that starts compute next: that of a CLOSED slot, else the expected one (R48). -/
def State.comingSweep (s : State) : Nat :=
  let closed := [s.ingest.slot0, s.ingest.slot1, s.ingest.slot2].find? fun x => x.state == .closed
  match closed.bind (·.dwell), s.ingest.expected with
  | some d, _ => s.dwellSample d / s.planT
  | none, some d => s.dwellSample d / s.planT
  | none, none => s.nextSweep

/-- R213: the hardware scheduler moves a SWEEP or SAMPLE cue from the table one dwell period before the first dwell of
its sweep: once every dwell before that sweep has started, so that the next to start is of it (log 120). An entry whose complement
fails, or that is tentative, is dropped (R212, R215). No supervisor is needed. -/
def passEntry (e : CueEntry) (s : State) : State :=
  if !s.dieRuns || e.cls == .time || e.point.toNat / s.planT > s.comingSweep then s
  else if !e.good then dropBroken 2 e s
  else if e.tentative then dropTentative 2 e s
  else { s with cues := { s.cues with entries := s.cues.entries.filter (·.id ≠ e.id), hw := s.cues.hw ++ [e] } }

/-- R213. The first entry accepted under the number passes. -/
def execCuePassToHardware (system : Bool) (seq : W32) (s : State) : Out :=
  .next (match s.cueEntry system seq with | some e => passEntry e s | none => s)

end Sys2Proof.Machine
end

