-- ==== Sys2Proof/Machine/Sup.lean ====
section
/-! DEFINITION. The supervisor pair and the stripe supplies (R306 to R316, R372, R373): lease, self-test, handover,
revert, firmware update, steward and phase faults, margins. -/

namespace Sys2Proof.Machine
open Sys2Proof

/-! ### Cores and the lease (R310 to R312) -/

/-- State of a core. -/
def State.core (s : State) (c : Nat) : CoreState := if c = 0 then s.sup.core0 else s.sup.core1

/-- Change the state of a core. -/
def State.setCore (s : State) (c : Nat) (x : CoreState) : State :=
  if c = 0 then { s with sup := { s.sup with core0 := x } } else { s with sup := { s.sup with core1 := x } }

/-- PREFERRED of SUP_CFG. -/
def State.preferred (s : State) : Nat := if s.sup.cfg.getLsbD 0 then 1 else 0

/-- A lease word (R310). -/
def leaseWord (holder term : Nat) (held : Bool) : W32 := BitVec.ofNat 32 (holder + 2 * bitOf held + 256 * (term % 2 ^ 24))

/-- The lease unit grants the lease to a core: TERM increments, the core is ACTIVE (R310, R312). -/
def grantLease (c kind : Nat) (s : State) : State :=
  let w := leaseWord c (s.leaseTerm + 1) true
  let s := (s.setCore c .active)
  let s := { s with sup := { s.sup with lease := w, leaseN := ~~~ w, renewedAt := s.now, noHolderStep := 0 } }
  journalLease 2 kind w.toNat c s

/-- Mark pending RING_CFGs, and ALMANAC_FREEZEs of Tamzar that wait, as executed again after a fail-over (R232): the only commands received
and not committed. -/
def replayPending (s : State) : State :=
  let mark (r : RingId) (s : State) : State :=
    match (s.ring r).pendingCfg with
    | some p => (s.setRing r { s.ring r with pendingCfg := some { p with replayed := true } }).bump .kcpReplayed
    | none => s
  let mine (x : KcpIn × Bool) : Bool := x.1.path != .gkr && x.1.path != .smbus
  let s := mark .blk (mark .nrm s)
  { s with alm := { s.alm with freezeReplies := s.alm.freezeReplies.map fun (x : KcpIn × Bool) => (x.1, x.2 || mine x) } }.bumpBy .kcpReplayed
    (s.alm.freezeReplies.filter mine).length

/-- A firmware update ends as FAILED: the other core reboots from the holder's image and BOOT names it (R373). -/
def failUpdate (s : State) : State :=
  if s.boot.fwUpdate = 1 then
    let img := if s.leaseCore = 0 then s.boot.image0 else s.boot.image1
    let s := { s with boot := { s.boot with fwUpdate := 3, fwStep := 0 },
                      flash := { s.flash with boot := BitVec.ofNat 8 (bitOf img), bootN := ~~~ BitVec.ofNat 8 (bitOf img),
                                              dirCrcOk := true } }
    raiseEvent 4 s
  else s

/-- The lease lapses: the other core takes it in the same cycle if it is in STANDBY (R312). Otherwise no core holds it. -/
def lapse (s : State) : State :=
  let old := s.leaseCore
  let other := 1 - old
  if s.core other == .standby then
    let s := grantLease other 0 s
    let s := ({ s with sup := { s.sup with failoverSeen := true } }).bump .supFailover
    let s := freezeOn 2 (raiseEvent 10 s)
    let s := s.setCore old .boot
    let s :=
      if old = s.preferred then
        let recent := s.now :: s.sup.failovers.filter fun t => !(s.passed t (86400 * 10 ^ 9))
        { s with sup := { s.sup with failovers := recent,
                                     preferredRetired := s.sup.preferredRetired || recent.length ≥ 3 } }
      else s
    replayPending (failUpdate s)
  else
    let s := if s.core old == .active then s.setCore old .failed else s
    freezeOn 2 { s with sup := { s.sup with lease := leaseWord old s.leaseTerm false, leaseN := ~~~ leaseWord old s.leaseTerm false, lapsedAt := s.now } }

/-- R310: the holder renews the lease before it lapses. -/
def execLeaseRenew (s : State) : Out :=
  .next (if s.dieRuns && s.leaseHeld && !s.passed s.sup.renewedAt 200000 then
    { s with sup := { s.sup with renewedAt := s.now } } else s)

/-- R312: the lease lapses 200 us after its last renewal. -/
def execLeaseLapse (s : State) : Out :=
  .next (if s.dieRuns && s.leaseHeld then lapse (s.waitFor s.sup.renewedAt 200000) else s)

/-- A core is reset: it boots again, and its lease lapses at once (R310, R315). -/
def resetCore (c : Nat) (s : State) : State :=
  let held := s.leaseHeld && s.leaseCore = c
  let s := s.setCore c .boot
  if held then lapse s else s

/-! ### Boot and self-test (R311, R313, R366) -/

/-- An image is valid (R366). -/
def Image.valid (i : Image) : Bool :=
  i.magicOk && i.targetRev == 0x00B0 && decide (i.length ≤ 16 * 2 ^ 20 - 256) && i.crcOk

/-- An image: false A, true B. -/
def State.image (s : State) (b : Bool) : Image := if b then s.flash.imageB else s.flash.imageA

/-- The image that the directory names: A when BOOT and BOOT_N disagree or the directory's CRC-32C fails (R366). -/
def State.bootNames (s : State) : Bool :=
  s.flash.dirCrcOk && s.flash.bootN == ~~~ s.flash.boot && s.flash.boot == 1

/-- The image that is booted: the one named, or the other if that is not valid; none with no valid image (R366). -/
def State.bootImage (s : State) : Option Bool :=
  let n := s.bootNames
  if (s.image n).valid then some n else if (s.image (!n)).valid then some (!n) else none

/-- The orderly handover: the lease passes to the standby core with the next TERM; the former holder stands by. `why` is
1 for a command, 2 for a revert, 3 for a firmware update. -/
def handover (why : Nat) (s : State) : State :=
  let old := s.leaseCore
  let new := 1 - old
  if s.leaseHeld && s.core new == .standby then
    let s := grantLease new (if why = 2 then 2 else 1) (s.setCore old .standby)
    let s := { s with sup := { s.sup with handoverDue := 0, standbyAt := if old = s.preferred then s.now else s.sup.standbyAt } }
    let s := s.bump .supHandover
    let s := if why = 2 then s.bump .supRevert else s
    if why = 3 && s.boot.fwUpdate = 1 then
      (s.setCore old .boot : State) |> fun s => { s with boot := { s.boot with fwStep := 3 } }
    else s
  else { s with sup := { s.sup with handoverDue := 0 } }

/-- A handover runs at once without a plan, and otherwise waits for the next dwell boundary. -/
def requestHandover (why : Nat) (s : State) : State :=
  if s.plan.active.isNone then handover why s else { s with sup := { s.sup with handoverDue := why } }

/-- The firmware update goes on when a core reaches STANDBY (R372): after step 1 a handover is due; after step 3 the
directory is rewritten and the update is DONE. -/
def updateStandby (c : Nat) (s : State) : State :=
  if s.boot.fwUpdate ≠ 1 then s
  else if s.boot.fwStep = 1 && c ≠ s.leaseCore then
    requestHandover 3 { s with boot := { s.boot with fwStep := 2 } }
  else if s.boot.fwStep = 3 && c ≠ s.leaseCore then
    let x := BitVec.ofNat 8 (bitOf s.boot.fwImage)
    let s := { s with flash := { s.flash with boot := x, bootN := ~~~ x, dirCrcOk := true },
                      boot := { s.boot with fwUpdate := 2, fwStep := 0 } }
    raiseEvent 4 s
  else s

/-- A failed core during an update (R373): at step 1 the update ends; at step 3 BOOT is set to X and the update ends. -/
def updateFailed (c : Nat) (s : State) : State :=
  if s.boot.fwUpdate ≠ 1 || c = s.leaseCore then s
  else if s.boot.fwStep = 3 then
    let x := BitVec.ofNat 8 (bitOf s.boot.fwImage)
    raiseEvent 4 { s with flash := { s.flash with boot := x, bootN := ~~~ x, dirCrcOk := true },
                          boot := { s.boot with fwUpdate := 3, fwStep := 0 } }
  else
    let run := if s.leaseCore = 0 then s.boot.image0 else s.boot.image1
    let s := { s with boot := if c = 0 then { s.boot with fwUpdate := 3, fwStep := 0, image0 := run }
                              else { s.boot with fwUpdate := 3, fwStep := 0, image1 := run } }
    raiseEvent 4 (s.setCore c .boot)

/-- Step TAMZAR ends: step DRAM (R369). -/
def endTamzar (s : State) : State :=
  if s.boot.step = 3 then { s with boot := { s.boot with step := 4 } } else s

/-- The preferred core takes the lease when both cores have left BOOT at step TAMZAR (R369). -/
def tamzarTake (s : State) : State :=
  if s.boot.step = 3 && s.sup.core0 != .boot && s.sup.core1 != .boot && !s.leaseHeld &&
      s.core s.preferred == .selftest then
    endTamzar (grantLease s.preferred 0 s)
  else s

/-- R311, R366, R369: a core finishes loading. Without a valid image BOOT_FAIL is set. At step TAMZAR the preferred core
takes the lease once both have loaded; a core booted while no core holds the lease takes it (R316, log 23). -/
def execCoreBootDone (core : Fin 2) (ok : Bool) (s : State) : Out :=
  .next (if s.clk.held || s.boot.step < 3 || s.core core != .boot then s
    else
      match s.bootImage with
      | none => { s with boot := { s.boot with bootFail := true } }
      | some img =>
        let img := if s.boot.fwUpdate = 1 && core.val ≠ s.leaseCore then s.boot.fwImage else img
        if !ok then tamzarTake (updateFailed core (s.setCore core .failed))
        else
          let s := takeAborted 5 { s with boot := if core.val = 0 then { s.boot with image0 := img } else { s.boot with image1 := img } }
          if s.boot.step > 3 && !s.leaseHeld then replayPending (grantLease core 0 s)
          else tamzarTake (s.setCore core .selftest))

/-- Consecutive failed cycles of a core. -/
def State.selfFails (s : State) (c : Nat) : Nat := if c = 0 then s.sup.selfFails0 else s.sup.selfFails1
/-- Set them. -/
def State.setSelfFails (s : State) (c n : Nat) : State :=
  if c = 0 then { s with sup := { s.sup with selfFails0 := n } } else { s with sup := { s.sup with selfFails1 := n } }

/-- R313: a self-test cycle of a core in SELFTEST or STANDBY ends. -/
def execSelftestCycle (core : Fin 2) (passed : Bool) (s : State) : Out :=
  let st := s.core core
  .next (if s.clk.held || s.boot.step < 3 || !(st == .selftest || st == .standby) then s
    else if passed then
      let s := (s.setCore core .standby).setSelfFails core 0
      let s := if core.val = s.preferred && st == .selftest then
          { s with sup := { s.sup with standbyAt := s.now } } else s
      if !s.leaseHeld then endTamzar (replayPending (grantLease core 0 s)) else updateStandby core s
    else
      let n := s.selfFails core + 1
      let s := ((s.setCore core .failed).setSelfFails core n).bump .supSelftestFail
      let s := updateFailed core s
      if s.leaseHeld && n < 3 then s.setCore core .boot else s)

/-! ### Handover and revert (R314, R315) -/

/-- SUPERVISOR_HANDOVER (R315). -/
def opSupervisorHandover : OpDef :=
  { code := 0x0904, never := true, form := formLen 0
    run := fun _ s =>
      if s.core (1 - s.leaseCore) == .standby then (requestHandover 1 s, ansOk) else (s, ansRefuse .noSpare) }

/-- R315. -/
def execSupervisorHandover (k : KcpIn) (s : State) : Out := .next (kcpCommand opSupervisorHandover k s)

/-- SUPERVISOR_RESET, a groundskeeper operation: CORE 0, 1, or 2 for both (R323). -/
def opSupervisorReset : OpDef :=
  { code := 0x0905, go := true, never := true, form := formLen 4, res0 := firstRes0 [(1, 3)]
    run := fun c s =>
      match fieldAt 0 1 c.par with
      | 0 => (resetCore 0 s, ansOk)
      | 1 => (resetCore 1 s, ansOk)
      | 2 =>
        let holder := s.leaseCore
        (resetCore holder (s.setCore (1 - holder) .boot), ansOk)
      | _ => (s, ansField 32) }

/-- R323. -/
def execSupervisorReset (k : KcpIn) (s : State) : Out := .next (kcpCommand opSupervisorReset k s)

/-- R314: REVERT_HOLD has passed with the preferred core in STANDBY; reverting is suspended during an update (R372). -/
def execRevert (s : State) : Out :=
  .next (if s.dieRuns && s.sup.cfg.getLsbD 1 && !s.sup.preferredRetired && s.leaseHeld && s.leaseCore ≠ s.preferred &&
      s.core s.preferred == .standby && s.boot.fwUpdate ≠ 1 then
    requestHandover 2 (s.waitFor s.sup.standbyAt (s.sup.revertHold * 10 ^ 9)) else s)

/-- R314: a write of SUP_CFG sets PREFERRED and REVERT_EN and clears PREFERRED_RETIRED. -/
def writeSupCfg (value : W32) (s : State) : State :=
  { s with sup := { s.sup with cfg := BitVec.ofNat 2 value.toNat, preferredRetired := false, failovers := [] } }

/-- R314. -/
def execSupCfgWrite (value : W32) (s : State) : Out :=
  .next (overBus (writeSupCfg value) s)

/-! ### No holder (R316) -/

/-- R316: no core has held the lease for 10 ms: the core that last held it is reset. -/
def execNoHolderTimeout (s : State) : Out :=
  .next (if s.dieRuns && s.boot.step > 3 && !s.leaseHeld && s.sup.noHolderStep = 0 then
    let s := s.waitFor s.sup.lapsedAt 10000000
    let s := s.setCore s.leaseCore .boot
    let s := ({ s with sup := { s.sup with noHolderStep := 1, noHolderAt := s.now, noHolderSeen := true } }).bump .supNoHolder
    freezeOn 3 (raiseEvent 10 (journalLease 3 3 s.sup.lease.toNat 0 s))
    else s)

/-- R316: 500 ms later the lease is still unheld: the other core is reset as well. -/
def execNoHolderSecondTimeout (s : State) : Out :=
  .next (if s.dieRuns && !s.leaseHeld && s.sup.noHolderStep = 1 then
    let s := s.waitFor s.sup.noHolderAt 500000000
    let s := s.setCore (1 - s.leaseCore) .boot
    { s with sup := { s.sup with noHolderStep := 2, noHolderSeen := true } }.bump .supNoHolder
    else s)

/-- R329: SUP_CNT_CLR. -/
def execSupCntClr (value : W32) (s : State) : Out :=
  .next (overBus (clearOn 0x3424 0x343C value) s)

/-- R329: PW_CNT_CLR. -/
def execPwCntClr (value : W32) (s : State) : Out :=
  .next (overBus (clearOn 0x3608 0x360C value) s)

/-! ### Firmware (R241, R372) -/

/-- The image running on a core. -/
def State.running (s : State) (c : Nat) : Bool := if c = 0 then s.boot.image0 else s.boot.image1

/-- An image from its bytes (R366). -/
def imageOf (bs : List Byte) : Image :=
  let len := fieldAt 12 4 bs
  { magicOk := slice 0 4 bs == [0x54, 0x4D, 0x5A, 0x52]
    targetRev := BitVec.ofNat 16 (fieldAt 4 2 bs), compat := BitVec.ofNat 16 (fieldAt 6 2 bs)
    version := BitVec.ofNat 32 (fieldAt 8 4 bs), length := len
    crcOk := crc32c (slice 256 len bs) == fieldAt 16 4 bs && decide (256 + len ≤ bs.length) }

/-- FW_IMAGE_WRITE: BUSY if either core runs that image; a length above 16 MiB or a bad IMAGE is BAD_PARAM. -/
def opFwImageWrite : OpDef :=
  { code := 0x0906, bo := true, never := true, form := formLen 24, res0 := firstRes0 [(1, 7)]
    run := fun c s =>
      let i := fieldAt 0 1 c.par
      let len := fieldAt 16 8 c.par
      if i > 1 then (s, ansField 32)
      else if len > 16 * 2 ^ 20 then (s, ansField 48)
      else if s.running 0 = (i = 1 : Bool) || s.running 1 = (i = 1 : Bool) then (s, ansBusy 0)
      else
        let img := imageOf (fit len c.k.dma)
        let s := if i = 0 then { s with flash := { s.flash with imageA := img } }
                 else { s with flash := { s.flash with imageB := img } }
        (startTransfer { seq := c.k.seq, kind := .image, addr := BitVec.ofNat 64 (fieldAt 8 8 c.par), len := len } s,
         ansAccepted) }

/-- R241. -/
def execFwImageWrite (k : KcpIn) (s : State) : Out := .next (kcpCommand opFwImageWrite k s)

/-- FW_UPDATE: the table of R372. -/
def opFwUpdate : OpDef :=
  { code := 0x0907, never := true, form := formLen 4, res0 := firstRes0 [(1, 3)]
    run := fun c s =>
      let x := fieldAt 0 1 c.par
      let xb : Bool := x = 1
      if x > 1 then (s, ansField 32)
      else if s.running 0 = xb && s.running 1 = xb then (s, ansOk)
      else if !(s.image xb).valid || (s.image xb).compat ≠ (s.image (s.running s.leaseCore)).compat then (s, ansField 32)
      else if s.boot.fwUpdate = 1 then (s, ansBusy 1)
      else if s.core (1 - s.leaseCore) != .standby then (s, ansRefuse .noSpare)
      else
        let s := { s with boot := { s.boot with fwUpdate := 1, fwStep := 1, fwImage := xb } }
        (s.setCore (1 - s.leaseCore) .boot, ansAccepted) }

/-- R372. -/
def execFwUpdate (k : KcpIn) (s : State) : Out := .next (kcpCommand opFwUpdate k s)

/-! ### Stewards and phases (R306, R308) -/

/-- R308: a steward's status word reaches the active supervisor. -/
def execStewardStatus (stripe : Fin 10) (s : State) : Out :=
  .next (if s.dieRuns then
    { s with cells := { s.cells with stewardAt := setAt stripe (fun _ => s.now) s.cells.stewardAt } } else s)

/-- R308: a steward that missed 10 status words, or fails its own checks, is faulted. The stripe keeps running. -/
def execStewardFault (stripe : Fin 10) (ownChecks : Bool) (s : State) : Out :=
  .next (if s.dieRuns && !s.cells.stewardFault.getLsbD stripe then
    let s := if ownChecks then s else s.waitFor (s.cells.stewardAt.getD stripe 0) 100000
    let bits := s.cells.stewardFault ||| BitVec.ofNat 10 (2 ^ stripe.val)
    let s := { s with cells := { s.cells with stewardFault := bits } }.bump .supStewardFault
    journalFault s.srcTamzar blkSup (16 + stripe.val) Ctr.supStewardFault.pid stripe.val 0 s
    else s)

/-- The stripe is lost (R13, R153, R155, R306): gated and off, the X array stops correlating until the interim plan. -/
def loseStripe (st : Nat) (s : State) : State :=
  let b := BitVec.ofNat 10 (2 ^ st)
  let s := { s with cells := { s.cells with stripeLost := s.cells.stripeLost ||| b, powered := s.cells.powered &&& ~~~ b } }
  let s := if s.plan.active.isSome then { s with plan := { s.plan with stopCorr := true } } else s
  forcePlan 4 (rewriteHealth s)

/-- R306: a regulator phase fails. The first is replaced by the spare phase; the second loses the stripe. -/
def execPhaseFault (stripe : Fin 10) (s : State) : Out :=
  .next (if !s.dieRuns || !s.cells.powered.getLsbD stripe then s
    else
      let first := !s.cells.sparePhaseIn.getLsbD stripe
      let s := { s with cells := { s.cells with
        phaseFaults := setAt stripe (· + 1) s.cells.phaseFaults,
        sparePhaseIn := s.cells.sparePhaseIn ||| BitVec.ofNat 10 (2 ^ stripe.val) } }.bump .pwPhaseFault
      let s := raiseEvent 9 (journalSpare 2 6 stripe.val 0 0 s)
      if first then rewriteHealth s else loseStripe stripe s)

/-! ### Margins (R326 to R328) -/

/-- The steward of each stripe reads its ring oscillators and temperature: free values (log 41). -/
def readStripes (s : State) : State :=
  let (n, s) := takeFree s
  { s with cells := { s.cells with stripeRead := s.cells.stripeRead.zipIdx.map fun (r, i) =>
      { r with roNow := BitVec.ofNat 16 (Config.reading n i).toNat, temp := Config.readingInt n i } } }

/-- MARGIN_GET: the 12-byte head, then each stripe's 8 bytes, then 4 RES0 bytes. -/
def opMarginGet : OpDef :=
  { code := 0x0B01, form := formLen 0
    run := fun _ s =>
      let s := readStripes s
      (s, ansOk (le 1 (bitOf s.cells.marginMode) ++ zeros 1 ++ (s.cells.margin.map (le 1 ·)).flatten ++
        ((List.range 10).map fun i => stripeBytes i s).flatten ++ zeros 4)) }
where
  /-- A stripe's 8 bytes of R328. -/
  stripeBytes (i : Nat) (s : State) : List Byte :=
    let r := s.cells.stripeRead.getD i {}
    le2 r.roNow.toNat ++ le2 (s.fuses.roFused.getD i 0).toNat ++ leInt 2 r.slackMin ++ leInt 2 r.temp

/-- R328. -/
def execMarginGet (k : KcpIn) (s : State) : Out := .next (kcpCommand opMarginGet k s)

/-- A stripe's margin steps change; PW_MARGIN_STEP counts the 5 mV steps (R326). -/
def applyMargin (st n : Nat) (s : State) : State :=
  let old := s.cells.margin.getD st 0
  rewriteHealth ({ s with cells := { s.cells with margin := setAt st (fun _ => n) s.cells.margin } }.bumpBy
    .pwMarginStep (max n old - min n old))

/-- Margin steps are applied by the steward: at a dwell boundary while a plan is active, else now. -/
def scheduleMargin (st n : Nat) (s : State) : State :=
  if s.plan.active.isNone then applyMargin st n s
  else { s with cells := { s.cells with marginNext := s.cells.marginNext.filter (·.1 ≠ st) ++ [(st, n)] } }

/-- MARGIN_SET: above 8 steps is applied as 8, CLAMPED (R327). -/
def opMarginSet : OpDef :=
  { code := 0x0B02, form := formLen 4, res0 := firstRes0 [(2, 2)]
    run := fun c s =>
      let st := fieldAt 0 1 c.par
      let n := fieldAt 1 1 c.par
      if st ≥ 10 then (s, ansField 32)
      else (scheduleMargin st (min n 8) s,
            { status := if n > 8 then .clamped else .ok, result := le 1 (min n 8) ++ zeros 3 }) }

/-- R327. -/
def execMarginSet (k : KcpIn) (s : State) : Out := .next (kcpCommand opMarginSet k s)

/-- MARGIN_MODE: 0 native, 1 DX2-compatible; the steps are unchanged (R326, R327). -/
def opMarginMode : OpDef :=
  { code := 0x0B03, form := formLen 4, res0 := firstRes0 [(1, 3)]
    run := fun c s =>
      let m := fieldAt 0 1 c.par
      if m > 1 then (s, ansField 32) else ({ s with cells := { s.cells with marginMode := m = 1 } }, ansOk) }

/-- R326. -/
def execMarginMode (k : KcpIn) (s : State) : Out := .next (kcpCommand opMarginMode k s)

end Sys2Proof.Machine
end

