-- ==== Sys2Proof/Machine/Host.lean ====
section
/-! DEFINITION. Ring configuration, event registers, SMBus codes 0x01, 0x11 and 0x12, PCI Express resets and power
states, ECHO, SAFE_STOP, JTAG (R225 to R229, R355 to R364). -/

namespace Sys2Proof.Machine
open Sys2Proof

/-! ### ECHO and SAFE_STOP -/

/-- ECHO returns its parameter bytes, also as a TIME cue. -/
def opEcho : OpDef :=
  { code := 0x0001, cue := some .time, form := fun _ => true
    run := fun c s => (s, ansOk c.par), accept := fun c _ s => (s, ansOk c.par) }

/-- R241. -/
def execEcho (k : KcpIn) (s : State) : Out := .next (kcpCommand opEcho k s)

/-- SAFE_STOP, executed by the groundskeeper on its paths; any MODE above 2 is refused (R324). -/
def opSafeStop : OpDef :=
  { code := 0x0006, g := true, never := true, form := formLen 4, res0 := firstRes0 [(1, 3)]
    run := fun c s =>
      let m := fieldAt 0 1 c.par
      if m > 2 then (s, ansField 32) else (safeStop m s, ansOk) }

/-- R324. -/
def execSafeStop (k : KcpIn) (s : State) : Out := .next (kcpCommand opSafeStop k s)

/-! ### RING_CFG (R229) -/

/-- The context of a pending RING_CFG, for its late reply. -/
def ringCtx (k : KcpIn) : Ctx := { path := k.path, code := 0x0005, k := k, par := kBody k }

/-- One reply fewer is owed on a path's ring. -/
def oweLess (p : Path) (s : State) : State :=
  match pathRing p with
  | some r => s.setRing r { s.ring r with owed := (s.ring r).owed - 1 }
  | none => s

/-- Answer a pending RING_CFG. -/
def answerRingCfg (p : RingPending) (a : Answer) (s : State) : State :=
  commitReply (ringCtx p.k) a (if p.replayed then 2 else 0) (oweLess p.k.path s)

/-- The checks of RING_CFG, then the pending configuration; a pending one is replaced. -/
def ringCfgRun (c : Ctx) (s : State) : State × Answer :=
  let p := c.par
  let ring := fieldAt 0 1 p
  let cl := fieldAt 2 1 p
  let rl := fieldAt 3 1 p
  let win := fieldAt 29 1 p = 1
  if ring ≠ 1 && ring ≠ 2 then (s, ansField 32)
  else if cl < 13 || cl > 20 || (win && cl ≠ 16) then (s, ansField 34)
  else if rl < 13 || rl > 20 then (s, ansField 35)
  else if !win && fieldAt 4 8 p % 4096 ≠ 0 then (s, ansField 36)
  else if fieldAt 12 8 p % 4096 ≠ 0 then (s, ansField 44)
  else if fieldAt 20 8 p % 64 ≠ 0 then (s, ansField 52)
  else if fieldAt 28 1 p ≥ 64 then (s, ansField 60)
  else
    let r : RingId := if ring = 1 then .nrm else .blk
    let new : RingPending :=
      { k := c.k, cmdLog2 := cl, rplLog2 := rl, cmdBase := BitVec.ofNat 64 (fieldAt 4 8 p),
        rplBase := BitVec.ofNat 64 (fieldAt 12 8 p), wb := BitVec.ofNat 64 (fieldAt 20 8 p),
        vector := fieldAt 28 1 p, window := win }
    let s := match (s.ring r).pendingCfg with
      | some old => (answerRingCfg old (ansRefuse .ringCfgIgnored) s).bump .kcpRingCfgIgnored
      | none => s
    let s := s.setRing r { s.ring r with pendingCfg := some new }
    let s := match pathRing c.path with
      | some u => s.setRing u { s.ring u with owed := (s.ring u).owed + 1 }
      | none => s
    (s, { owed := true })

/-- RING_CFG: Urgent only, never relayed. -/
def opRingCfg : OpDef :=
  { code := 0x0005, uo := true, never := true, form := formLen 32
    res0 := fun p =>
      match firstRes0 [(1, 1)] p with
      | some o => some o
      | none => if fieldAt 29 1 p ≥ 2 then some 61 else firstRes0 [(30, 2)] p
    run := ringCfgRun }

/-- R229. -/
def execRingCfg (k : KcpIn) (s : State) : Out := .next (kcpCommand opRingCfg k s)

/-- R229: the named ring is idle; its pending configuration applies, both indexes reset, and RING_CFG is answered OK. -/
def execRingCfgApply (ring : RingId) (s : State) : Out :=
  let x := s.ring ring
  .next (match x.pendingCfg with
    | none => s
    | some p =>
      if s.tamzarServes && x.cons = x.prod && s.owedOn ring = 0 then
        let s := s.setRing ring { x with
          cmdBase := p.cmdBase, rplBase := p.rplBase, wb := p.wb, cmdLog2 := p.cmdLog2, rplLog2 := p.rplLog2,
          vector := p.vector, window := p.window, cons := 0, prod := 0, rplProd := 0, rplCons := 0, mem := [], dma := [],
          pendingCfg := none }
        answerRingCfg p ansOk s
      else s)

/-! ### Doorbells and CTRL (R225, R228, R231) -/

/-- An access to a ring's registers: those of the groundskeeper ring are AO, the others lie behind the edge bridge (R359). -/
def onRingBus (ring : RingId) (f : State → State) (s : State) : State :=
  match ring with
  | .gkr => if s.gkServes then f s else s
  | _ => overBus f s

/-- A write of ENABLE (R228). The change from 0 to 1 resets both indexes and ends a halt. -/
def writeEnable (ring : RingId) (enable : Bool) (s : State) : State :=
  let x := s.ring ring
  if enable && !x.enable then
    s.setRing ring { x with
      enable := true, halted := false, haltCause := 0, cons := 0, prod := 0, rplProd := 0, rplCons := 0, mem := [],
      dma := [], stall := false }
  else if !enable then s.setRing ring { x with enable := false, stall := false }
  else s

/-- R228. The groundskeeper ring's registers are served from step GROUNDSKEEPER; the others through the Trellis. -/
def execRingEnable (ring : RingId) (enable : Bool) (s : State) : Out :=
  .next (onRingBus ring (writeEnable ring enable) s)

/-- SEQ_RESET (R231): the next packet starts the series anew; its stored replies are discarded. -/
def writeSeqReset (ring : RingId) (s : State) : State := s.setSeries (ringPath ring) {}

/-- R231. -/
def execSeqReset (ring : RingId) (s : State) : Out :=
  .next (onRingBus ring (writeSeqReset ring) s)

/-! ### GEN_EVENT and GEN_EVENT_EN (R361), GEN_APERTURE (R357) -/

/-- A write of GEN_EVENT_EN: a bit that goes from 0 to 1 while its event bit is 1 sends its vector. -/
def writeEventEn (value : W32) (s : State) : State :=
  let new := BitVec.ofNat 15 value.toNat
  let fresh := new &&& ~~~ s.pcie.eventEn &&& s.pcie.event
  let s := { s with pcie := { s.pcie with eventEn := new } }
  ((List.range 15).filter fresh.getLsbD).foldl (fun s i => sendVector (48 + i) s) s

/-- R361. -/
def execGenEventEnWrite (value : W32) (s : State) : Out := .next (if s.gkServes then writeEventEn value s else s)

/-- A write of 1 clears event bits. -/
def writeEventClear (value : W32) (s : State) : State :=
  { s with pcie := { s.pcie with event := s.pcie.event &&& ~~~ BitVec.ofNat 15 value.toNat } }

/-- R361: bits with an occurrence in the same cycle stay 1, and their vectors are sent again. -/
def execGenEventClear (value : W32) (sameCycle : BitVec 15) (s : State) : Out :=
  .next (if s.gkServes then
    let again := sameCycle &&& BitVec.ofNat 15 value.toNat &&& s.pcie.event
    let s := writeEventClear value s
    let s := (List.range 15).foldl (fun s i => if sameCycle.getLsbD i && !again.getLsbD i then raiseEvent i s else s) s
    let s := { s with pcie := { s.pcie with event := s.pcie.event ||| again } }
    ((List.range 15).filter fun i => again.getLsbD i && s.pcie.eventEn.getLsbD i).foldl
      (fun s i => sendVector (48 + i) s) s
    else s)

/-- R357: BASE for later BAR4 accesses. -/
def writeAperture (value : W32) (s : State) : State :=
  { s with pcie := { s.pcie with aperture := BitVec.ofNat 7 value.toNat } }

/-- R357. -/
def execGenApertureWrite (value : W32) (s : State) : Out := .next (overBus (writeAperture value) s)

/-- R378: GEN_CNT_CLR clears GEN_RWC_MISMATCH and GEN_SMB_PEC_ERR. -/
def execGenCntClr (value : W32) (s : State) : Out :=
  .next (if s.gkServes then clearOn 0x20 0x24 value s else s)

/-- R243: KCP_CNT_CLR. -/
def execKcpCntClr (value : W32) (s : State) : Out :=
  .next (overBus (clearOn 0x1104 0x1130 value) s)

/-- R270: LN_CNT_CLR. -/
def execLnCntClr (value : W32) (s : State) : Out :=
  .next (overBus (clearOn 0x18E0 0x191C value) s)

/-! ### SMBus (R362, R363) -/

/-- A write whose PEC fails is discarded and counted (R362). -/
def smbPecFail (s : State) : State := s.bump .genSmbPecErr

/-- Code 0x01: OFFSET of the next access, a multiple of 4 (other values: low bits dropped, log 24). -/
def execSmbusSetOffset (offset : BitVec 16) (pecOk : Bool) (s : State) : Out :=
  .next (if !s.gkServes then s
    else if !pecOk then smbPecFail s
    else { s with smb := { s.smb with offset := offset &&& 0xFFFC } })

/-- Code 0x11: the next piece, up to 240 bytes, of the oldest unread reply; after its last piece the reply is consumed. -/
def execSmbusReplyRead (s : State) : Out :=
  .next (if !s.gkServes then s
    else match s.smb.replies with
      | [] => { s with smb := { s.smb with lastRead := [] } }
      | r :: rest =>
        let bs := replyBytes r
        let piece := (bs.drop s.smb.readPos).take 240
        let pos := s.smb.readPos + piece.length
        if pos ≥ bs.length then { s with smb := { s.smb with lastRead := piece, replies := rest, readPos := 0 } }
        else { s with smb := { s.smb with lastRead := piece, readPos := pos } })

/-- Code 0x12: [0] a reply waits, [1] a command executes, [2] the always-on domain has restarted since the last read. -/
def execSmbusStatusRead (s : State) : Out :=
  .next (if !s.gkServes then s
    else
      let b := bitOf (!s.smb.replies.isEmpty) + 2 * bitOf s.kcp.executing + 4 * bitOf s.boot.aoRestarted
      { s with smb := { s.smb with lastRead := [BitVec.ofNat 8 b] }, boot := { s.boot with aoRestarted := false } })

/-! ### PCI Express (R358) -/

/-- The configuration side returns to reset: BAR state, MSI-X table, DMA, and the four rings' ENABLE (R358). -/
def pcieSideReset (s : State) : State :=
  let s := s.pcie.transfers.foldl (fun s t => abortTransfer t s) s
  let regions := s.cf.regions.map fun r => { r with subs := r.subs.map stopDrain }
  let s := dropReads { s with cf := { s.cf with regions := regions } }
  let off (x : Ring) : Ring := { x with enable := false, owed := 0, mem := [], dma := [], stall := false }
  { s with pcie := { s.pcie with busMaster := false, d3 := false, heldVectors := [], msixTable := msixBlank, transfers := [], heldWrites := [] }
           kcp := { s.kcp with urg := off s.kcp.urg, nrm := off s.kcp.nrm, blk := off s.kcp.blk, gkr := off s.kcp.gkr } }
where
  /-- A DMA in progress ends as R293 states: its writes, whose data had come, are made, and its reads are dropped. -/
  abortTransfer (t : Transfer) (s : State) : State :=
    let addr := if t.xfer = 0 then t.addr.toNat else t.dev
    let target := if t.xfer = 0 then 0 else chanOf t.dev
    let written := if t.kind == .memWrite then (t.len + 1023) / 1024 else 0
    let ab : Abort := { master := 4, target := target, addr := addr, written := written }
    let s := { s with tl := { s.tl with abortedSeen := true, aborted := s.tl.aborted ++ [ab] } }.bump .tlAbortedBurst
    journalFault 2 blkTl 8 Ctr.tlAbortedBurst.pid (4 + 256 * target + 65536 * written) addr s
  /-- A drain to the host ends with its DMA; the sub-region keeps its window. -/
  stopDrain (x : CapSub) : CapSub :=
    match x.drain with
    | some d => if d.host then { x with state := .frozen, drain := none } else x
    | none => x

/-- R358: PERST, hot reset, link down or FLR. The dwell pipeline goes on and the numbers executed are kept. -/
def execPcieReset (kind : PcieResetKind) (s : State) : Out :=
  .next (if s.boot.step < 2 then (if kind == .perst then { s with pcie := { s.pcie with perst := true } } else s)
    else
      let s := pcieSideReset { s with pcie := { s.pcie with retraining := false } }
      match kind with
      | .perst => { s with pcie := { s.pcie with perst := true, up := false } }
      | .linkDown => { s with pcie := { s.pcie with up := false } }
      | _ => s)

/-- R369: PCIE_PERST_N is released; the link comes up and the endpoint answers configuration requests. -/
def execPciePerstRelease (s : State) : Out :=
  let s := takeAborted 4 s
  .next (if s.boot.step ≥ 3 then { s with pcie := { s.pcie with perst := false, up := true },
                                          clk := { s.clk with pciePllLock := true } }
    else { s with pcie := { s.pcie with perst := false } })

/-- R358: Bus Master Enable cleared, or D3hot entered: DMA and messages wait. -/
def execBusMasterOff (d3 : Bool) (s : State) : Out :=
  .next (if !s.pcie.up then s
    else if d3 then { s with pcie := { s.pcie with d3 := true } }
    else { s with pcie := { s.pcie with busMaster := false } })

/-- R239, R361: the oldest DMA transfer ends; its data are in host memory and TRANSFER is set. Transfers wait while DMA is
stopped (R324, R358). -/
def execTransferComplete (s : State) : Out :=
  .next (match s.pcie.transfers.find? (·.kind != .drain) with
    | none => s
    | some t =>
      if !s.msixOpen || s.pcie.dmaStopped then s
      else
        let s := finishDma t.xfer s
        let t := (s.pcie.transfers.find? (·.kind != .drain)).getD t
        let s := { s with pcie := { s.pcie with transfers := s.pcie.transfers.erase t } }
        let s := match t.kind with
          | .memWrite | .replayInput | .image => s
          | _ =>
            let s := if t.data.isEmpty then s else hostWrite t.addr.toNat t.data s
            t.got.foldl (fun s g => hostWrite (t.addr.toNat + g.1) g.2 s) s
        raiseEvent 3 s)

/-! ### JTAG (R364) -/

/-- R364: EXTEST, CLAMP and HIGHZ act as BYPASS unless PORST_N is low or SAFE_STOP MODE 2 holds; other codes always do. -/
def execJtagInstruction (op : JtagOp) (s : State) : Out :=
  let allowed := s.clk.porst || (s.gk.stopped && s.gk.mode = 2)
  .next { s with jtag := { s.jtag with instr :=
    match op with
    | .extest => if allowed then .extest else .bypass
    | .clamp => if allowed then .clamp else .bypass
    | .highz => if allowed then .highz else .bypass
    | .other _ => .bypass
    | x => x } }

end Sys2Proof.Machine
end

