-- ==== Sys2Proof/Machine/Dwells.lean ====
section
/-! DEFINITION. Plans in the pipeline, plan order of dwells across a switch (R34, R44, R154), sample packets' payloads
and the masked view with its counts and digests (R36 to R40, R54). -/

namespace Sys2Proof.Machine
open Sys2Proof

/-! ### Plans and the order of dwells -/

/-- Local channels that are dwelt, in channel order (R146). -/
def Plan.order (p : Plan) : List Nat :=
  (List.range p.layout.length).filter fun c => !p.shed.contains (p.layout.getD c 0)

/-- System channel of a local channel. -/
def Plan.sysChan (p : Plan) (c : Nat) : Nat := p.layout.getD c 0

/-- The plan that takes over at a switch sweep: what it changes, an F-engine sees (R154, R155). -/
def State.seam (s : State) : Option Plan :=
  match s.plan.follower with
  | some q => if q.switchSample.isSome then some q else none
  | none =>
    match s.plan.pendingPlan with
    | some q => if q.seenByF && q.switchSample.isSome && s.plan.active.isSome then some q else none
    | none => none

/-- The plan in force at a sample index up to now: below a switch that F-engines saw, the one before it (R34). -/
def State.planBefore (s : State) (first : Nat) : Option Plan :=
  match (s.plan.before.filter fun x => first < x.1).getLast? with
  | some x => s.planOf x.2
  | none => s.plan.active

/-- The plan by whose T and blocks a sample index is judged: from a switch sample on, the one that takes over there (R34). -/
def State.planBySample (s : State) (first : Nat) : Option Plan :=
  match s.seam with
  | some q => if q.switchSample.getD 0 ≤ first then some q else s.planBefore first
  | none => s.planBefore first

/-- First sweep, under the plan in force, of the plan that takes over. -/
def seamSweep (p q : Plan) : Nat := q.switchSample.getD 0 / p.req.T

/-- Position of a local channel in the channel order. -/
def Plan.posOf (p : Plan) (c : Nat) : Nat := p.order.findIdx (· = c)

/-- The dwell that starts a plan at a sample. -/
def startDwell (p : Plan) (sample : Nat) : Dwell :=
  { ver := p.version, chan := p.order.headD 0, sweep := sample / p.req.T }

/-- The next dwell in plan order (R44), across a switch sweep. -/
def State.nextDwell (s : State) (d : Dwell) : Dwell :=
  match s.planOf d.ver with
  | none => d
  | some p =>
    match p.order[p.posOf d.chan + 1]? with
    | some c => { d with chan := c }
    | none =>
      match s.seam with
      | some q =>
        if q.version ≠ d.ver && seamSweep p q ≤ d.sweep + 1 then startDwell q (q.switchSample.getD 0)
        else { d with chan := p.order.headD 0, sweep := d.sweep + 1 }
      | none => { d with chan := p.order.headD 0, sweep := d.sweep + 1 }

/-- Positions in plan order from dwell `e` to dwell `t` (R44); negative for an earlier one. -/
def State.dwellDist (s : State) (e t : Dwell) : Int :=
  match s.planOf e.ver, s.planOf t.ver with
  | some p, some q =>
    let C : Int := p.order.length
    if e.ver = t.ver then ((t.sweep : Int) - e.sweep) * C + p.posOf t.chan - p.posOf e.chan
    else if some q = s.seam then
      ((seamSweep p q : Int) - e.sweep) * C - p.posOf e.chan +
        ((t.sweep : Int) - (q.switchSample.getD 0 / q.req.T : Nat)) * q.order.length + q.posOf t.chan
    else -1
  | _, _ => -1

/-- The moment at which D of a plan has passed `k` times since FRC `t` (D is dNum / dDen ns; log 16). -/
def State.waitD (s : State) (p : Plan) (t k : Nat) : State := s.advanceTo (t + (k * p.dNum + 2 * p.dDen - 1) / (2 * p.dDen))

/-- Sub-dwells of a dwell (R37). -/
def Plan.U (p : Plan) : Nat := p.req.T / 256

/-- Packets of a whole dwell: one for each block and sub-dwell, two in wide mode (R36). -/
def Plan.packets (p : Plan) : Nat := p.blocks.length * p.U * (if p.req.wide then 2 else 1)

/-! ### The masked view (R36 to R40) -/

/-- A signed nibble. -/
def nibble (n : Nat) : Int := if n < 8 then (n : Int) else (n : Int) - 16

/-- A signed byte. -/
def sbyte (b : Byte) : Int := b.toInt

/-- Bytes two by two, each a real and an imaginary component (R36, wide mode). -/
def byPairs : List Byte → List (Int × Int)
  | re :: im :: rest => (sbyte re, sbyte im) :: byPairs rest
  | _ => []

/-- `k` rows of `n` items each. -/
def rowsOf {α : Type} (n : Nat) : Nat → List α → List (List α)
  | 0, _ => []
  | k + 1, xs => xs.take n :: rowsOf n k (xs.drop n)

/-- The samples of a payload: a row of 32 inputs for each sample (R36). -/
def payloadRows (wide : Bool) (data : List Byte) : List (List (Int × Int)) :=
  if wide then rowsOf 32 128 (byPairs (fit 8192 data))
  else rowsOf 32 256 ((fit 8192 data).map fun b => (nibble (b.toNat / 16), nibble (b.toNat % 16)))

/-- The flagged code (R39). -/
def flagCode (wide : Bool) : Int := if wide then -128 else -8

/-- A sample carries the flagged code in either component (R39, R60). -/
def isFlagged (wide : Bool) (x : Int × Int) : Bool := x.1 == flagCode wide || x.2 == flagCode wide

/-- The packet of a block, sub-dwell and half, if it was admitted. -/
def pktOf (pkts : List SlotPkt) (blk sub half : Nat) : Option SlotPkt :=
  pkts.find? fun k => k.block = blk && k.sub = sub && k.half = half

/-- The sub-dwell mask (R38): the AND of both halves in wide mode, zero when a packet is missing. -/
def subMask (wide : Bool) (pkts : List SlotPkt) (blk sub : Nat) : W32 :=
  match pktOf pkts blk sub 0 with
  | none => 0
  | some a => if wide then (match pktOf pkts blk sub 1 with | some b => a.mask &&& b.mask | none => 0) else a.mask

/-- The samples of a sub-dwell as they arrived, row by row; the flagged code where a packet is missing. -/
def rawRows (wide : Bool) (pkts : List SlotPkt) (blk sub : Nat) : List (List (Int × Int)) :=
  let half (h : Nat) : List (List (Int × Int)) :=
    match pktOf pkts blk sub h with
    | some k => payloadRows wide k.data
    | none => List.replicate (if wide then 128 else 256) (List.replicate 32 (flagCode wide, flagCode wide))
  if wide then half 0 ++ half 1 else half 0

/-- A row with a mask applied: an input whose bit is 0 reads as `x` (R39). -/
def maskRow (m : W32) (x : Int × Int) (row : List (Int × Int)) : List (Int × Int) :=
  if m = 0xFFFFFFFF then row else row.zipIdx.map fun (v, i) => if m.getLsbD i then v else x

/-- The masked view of a sub-dwell (R39). -/
def viewRows (wide : Bool) (pkts : List SlotPkt) (blk sub : Nat) : List (List (Int × Int)) :=
  (rawRows wide pkts blk sub).map (maskRow (subMask wide pkts blk sub) (flagCode wide, flagCode wide))

/-- A sub-dwell as X-mem and Y-mem store it: a sample that carries the flagged code is zero (R60). -/
def plainRows (wide : Bool) (pkts : List SlotPkt) (blk sub : Nat) : List (List (Int × Int)) :=
  (viewRows wide pkts blk sub).map fun row => row.map fun x => if isFlagged wide x then (0, 0) else x

/-- Flagged samples of each input of a sub-dwell that its mask counts as valid (R40). -/
def flagCounts (wide : Bool) (pkts : List SlotPkt) (blk sub : Nat) : List Nat :=
  let m := subMask wide pkts blk sub
  (rawRows wide pkts blk sub).foldl (fun ns row => ns.zipWith (fun n x => n + bitOf (isFlagged wide x)) row) (List.replicate 32 0)
    |>.zipIdx.map fun (n, i) => if m.getLsbD i then n else 0

/-- INVALID and FLAGGED of each input of a block over `U` sub-dwells (R40). -/
def blockCounts (wide : Bool) (pkts : List SlotPkt) (U blk : Nat) : List (Nat × Nat) :=
  (List.range U).foldl (fun ns u =>
    let m := subMask wide pkts blk u
    (ns.zip (flagCounts wide pkts blk u)).zipIdx.map fun ((n, f), i) => if m.getLsbD i then (n.1, n.2 + f) else (n.1 + 256, n.2))
    (List.replicate 32 (0, 0))

/-- The bytes of a sample as R36 lays it out. -/
def sampleBytes (wide : Bool) (x : Int × Int) : List Byte :=
  if wide then leInt 1 x.1 ++ leInt 1 x.2
  else [BitVec.ofNat 8 ((x.1 % 16).toNat * 16 + (x.2 % 16).toNat)]

/-- The masked view of a block's sub-dwell, in sample and input order (R36, R54). -/
def viewBytes (wide : Bool) (pkts : List SlotPkt) (blk sub : Nat) : List Byte :=
  ((viewRows wide pkts blk sub).map fun row => (row.map (sampleBytes wide)).flatten).flatten

/-- The digest of a block over the masked view (R54). -/
def blockDigest (wide : Bool) (pkts : List SlotPkt) (U blk : Nat) : Nat :=
  crc64 ((List.range U).map fun u => viewBytes wide pkts blk u).flatten

/-! ### Slots (R47) -/

/-- A seedbed slot. -/
def State.slot (s : State) (i : Nat) : Slot :=
  match i with | 0 => s.ingest.slot0 | 1 => s.ingest.slot1 | _ => s.ingest.slot2

/-- Replace a slot. -/
def State.setSlot (s : State) (i : Nat) (x : Slot) : State :=
  match i with
  | 0 => { s with ingest := { s.ingest with slot0 := x } }
  | 1 => { s with ingest := { s.ingest with slot1 := x } }
  | _ => { s with ingest := { s.ingest with slot2 := x } }

/-- The slot in a state, if any. -/
def State.slotIn (s : State) (x : SlotState) : Option Nat := [0, 1, 2].find? fun i => (s.slot i).state == x

/-- The slot that holds a dwell in a state from COMPUTING on. -/
def State.slotOf (s : State) (d : Dwell) : Option Nat :=
  [0, 1, 2].find? fun i => (s.slot i).dwell == some d && ((s.slot i).state == .computing || (s.slot i).state == .retained)

/-- Release a slot (R48). -/
def freeSlot (i : Nat) (s : State) : State := s.setSlot i {}

end Sys2Proof.Machine
end

