-- ==== Sys2Proof/Machine/Ingest.lean ====
section
/-! DEFINITION. Ingest (R41 to R58, R250): the check of a sample packet, admission, slots and bay, closes, and Ethernet
frames. -/

namespace Sys2Proof.Machine
open Sys2Proof

/-! ### Slots that arrive (R48, R50 to R52) -/

/-- Routed streams of a plan for this device (R52). -/
def State.routed (s : State) (p : Plan) : List StreamId :=
  ((p.myRoutes s).map fun r => { lane := r.lane, source := r.source : StreamId }).eraseDups

/-- CLOSE_GRACE in ns (R57). -/
def State.closeGrace (s : State) : Nat := s.ingest.cfgUsed.toNat % 256 * 500
/-- CLOSE_STALL in ns; 0 acts as 1 us (R57). -/
def State.closeStall (s : State) : Nat := max 1 (s.ingest.cfgUsed.toNat / 256 % 1024) * 1000

/-- A DWELL_ABSENT record: REASON 0 absent, 1 uncorrelated (R333). -/
def journalAbsent (d : Dwell) (reason : Nat) (s : State) : State :=
  let ch := match s.planOf d.ver with | some p => p.sysChan d.chan | none => 0
  record 0x22 2 (le2 ch ++ le 1 reason ++ zeros 1 ++ le4 d.sweep) s

/-- The expected dwell becomes absent: no slot, boundary or compute; the next dwell is expected (R51). -/
def absentDwell (s : State) : State :=
  match s.ingest.expected with
  | none => s
  | some d =>
    let s := journalAbsent d 0 (s.bump .lnInDwellAbsent)
    { s with ingest := { s.ingest with expected := some (s.nextDwell d) } }

/-- A packet goes into a slot. -/
def Slot.store (x : Slot) (k : SlotPkt) (st : StreamId) (last : Bool) (now : Nat) : Slot :=
  { x with
    pkts := x.pkts ++ [k], lastAt := max x.lastAt now
    heard := if x.heard.contains st then x.heard else x.heard ++ [st]
    lastOn := if last && !x.lastOn.contains st then x.lastOn ++ [st] else x.lastOn }

/-- The bay's packets for the slot's dwell pour into it; while it holds nothing and a packet two or more dwells ahead
waits, its dwell becomes absent (R48, R51). Recurses on fuel: at most one sweep of dwells. -/
def settleSlot (fuel i : Nat) (s : State) : State :=
  match fuel with
  | 0 => s
  | fuel + 1 =>
    match (s.slot i).dwell with
    | none => s
    | some d =>
      let mine := s.ingest.bay.filter (·.dwell == d)
      let rest := s.ingest.bay.filter (·.dwell != d)
      let x := mine.foldl (fun x b => x.store b.pkt b.stream b.lastOn b.at_) (s.slot i)
      let s := { s with ingest := { s.ingest with bay := rest } }
      if x.pkts.isEmpty && rest.any (fun b => s.dwellDist d b.dwell ≥ 2) then
        let s := absentDwell s
        settleSlot fuel i (s.setSlot i { x with dwell := s.ingest.expected })
      else
        s.setSlot i { x with graceAt := match rest with | [] => none | b :: bs => some (bs.foldl (fun m b => min m b.at_) b.at_) }

/-- Most dwells between two positions of a sweep: channels of R138. -/
def sweepFuel : Nat := 4097

/-- The dwells ahead of the bay's first become absent when a slot has closed (R44). Recurses on fuel. -/
def skipAbsent (fuel : Nat) (s : State) : State :=
  match fuel with
  | 0 => s
  | fuel + 1 =>
    if s.ingest.bay.isEmpty || s.ingest.bay.any (fun b => some b.dwell == s.ingest.expected) then s
    else skipAbsent fuel (absentDwell s)

/-- The DIGEST record of a closing slot (R334). -/
def journalDigest (p : Plan) (d : Dwell) (x : Slot) (s : State) : State :=
  record 0x20 2 (le2 (p.sysChan d.chan) ++ le2 p.blocks.length ++ le4 d.sweep ++ le4 p.serial ++ le 1 x.close ++ zeros 1 ++
    le2 x.missing ++ ((List.range p.blocks.length).map fun b => le8 (blockDigest p.req.wide x.pkts p.U b)).flatten) s

/-- The counter of a close code: 0 COMPLETE, 1 LAST, 2 SUCCESSOR, 3 STALL, 4 LIMIT (R58, R334). -/
def closeCounter (code : Nat) : Ctr :=
  match code with
  | 0 => .lnInCloseComplete | 1 => .lnInCloseLast | 2 => .lnInCloseSuccessor | 3 => .lnInCloseStall | _ => .lnInCloseLimit

/-- A slot closes (R50 to R54): missing packets are counted, streams unheard become quiet, digests are journaled. -/
def closeSlot (i code : Nat) (s : State) : State :=
  let x := s.slot i
  match x.dwell with
  | none => s
  | some d =>
    match s.planOf d.ver with
    | none => s
    | some p =>
      let missing := p.packets - x.pkts.length
      let x := { x with state := .closed, close := code, missing := missing }
      let s := ((s.bump (closeCounter code)).bumpBy .lnInMissing missing).setSlot i x
      let silent := (s.routed p).filter fun st => !x.heard.contains st && !s.ingest.quiet.contains st
      let s := { s with ingest := { s.ingest with quiet := s.ingest.quiet ++ silent, expected := some (s.nextDwell d) } }
      skipAbsent sweepFuel (journalDigest p d x s)

/-- COMPLETE and LAST close a slot by themselves (R50). -/
def checkClose (i : Nat) (s : State) : State :=
  let x := s.slot i
  match x.dwell with
  | none => s
  | some d =>
    match s.planOf d.ver with
    | none => s
    | some p =>
      if x.state != .arriving || x.pkts.isEmpty then s
      else if x.pkts.length ≥ p.packets then closeSlot i 0 s
      else if s.ingest.cfgUsed.getLsbD 18 &&
          ((s.routed p).filter fun st => !s.ingest.quiet.contains st).all (fun st => x.lastOn.contains st) then closeSlot i 1 s
      else s

/-- A FREE slot becomes ARRIVING for the expected dwell, if no slot is ARRIVING or CLOSED (R48); of several FREE slots the one of the
lowest number (DESIGN CHOICE, log 117). -/
def openSlot (s : State) : State :=
  match s.ingest.expected, s.slotIn .arriving, s.slotIn .closed, s.slotIn .free with
  | some d, none, none, some i =>
    let s := s.setSlot i { state := .arriving, dwell := some d, openedAt := s.now }
    let s := { s with ingest := { s.ingest with cfgUsed := s.ingest.cfg } }
    checkClose i (settleSlot sweepFuel i s)
  | _, _, _, _ => s

/-- Slot `i` holds an earlier dwell than slot `j`: it was opened before it. -/
def State.olderSlot (i j : Nat) (s : State) : Bool :=
  let x := s.slot i
  let y := s.slot j
  decide (x.openedAt < y.openedAt) ||
    (x.openedAt == y.openedAt && match x.dwell, y.dwell with | some d, some e => decide (s.dwellDist d e ≥ 0) | _, _ => true)

/-- The commit records of a dwell are complete. The slot whose release a boundary left waiting for them, the oldest RETAINED
one, is released at once, whether or not compute of the latest dwell has ended since (R48, R49). -/
def commitSlot (d : Dwell) (s : State) : State :=
  match s.slotOf d with
  | none => s
  | some i =>
    let s := s.setSlot i { s.slot i with committed := true }
    let retained := [0, 1, 2].filter fun i => (s.slot i).state == .retained
    if s.ingest.lateReleaseWait && retained.length ≥ 2 && retained.contains i && retained.all (fun j => j == i || s.olderSlot i j) then
      openSlot ((freeSlot i { s with ingest := { s.ingest with lateReleaseWait := false } }).bump .lnInLateRelease)
    else s

/-! ### The check of a packet (R41, R42) -/

/-- Change a stream's table entry. -/
def onStream (lane : Nat) (src : W32) (f : Stream → Stream) (s : State) : State :=
  { s with ingest := { s.ingest with streams := s.ingest.streams.map fun x =>
      if x.lane = lane && x.source = src then f x else x } }

/-- The CRC-32C of a packet under a prefix (R41). -/
def packetCrc (dest lane : Nat) (seq : W32) (bytes : List Byte) : Nat :=
  crc32c (le2 (dest % 1024) ++ le2 lane ++ le4 seq.toNat ++ slice 0 8240 bytes)

/-- What the check of R42 decides. -/
inductive CheckResult where
  | accept (gap : Nat) (next : W32) | behind | excess | misrouted | bad
  deriving DecidableEq, Repr

/-- The tests of R42, in order. -/
def checkPacket (lane : Nat) (bytes : List Byte) (s : State) : CheckResult :=
  let src := BitVec.ofNat 32 (fieldAt 28 4 bytes)
  let h := BitVec.ofNat 32 (fieldAt 24 4 bytes)
  let crc := fieldAt 8240 4 bytes
  let own := s.mesh.index.toNat
  let table := s.ingest.streams.filter (·.lane = lane)
  let known := table.find? (·.source = src)
  let first : Bool := match known with
    | some x => decide (packetCrc own lane x.e bytes = crc)
    | none => false
  if first then .accept 0 ((known.map (·.e)).getD 0 + 1)
  else if packetCrc own lane h bytes = crc then
    match known with
    | none => if table.length ≥ 8 then .excess else .accept 0 (h + 1)
    | some x => let gap := (h - x.e).toNat; if gap < 2 ^ 31 then .accept gap (h + 1) else .behind
  else if packetCrc (fieldAt 14 2 bytes) lane h bytes = crc then .misrouted
  else .bad

/-! ### Admission (R43 to R46) -/

/-- Step 3 of R43: the header against the plan. -/
def headerGood (p : Plan) (bytes : List Byte) : Bool :=
  let flags := fieldAt 2 2 bytes
  let first := fieldAt 8 6 bytes
  fieldAt 0 1 bytes = 1 && fieldAt 1 1 bytes = 0 && decide (flags < 4) && decide (fieldAt 14 2 bytes < 1024) &&
    (slice 32 16 bytes).all (· == 0) && (flags % 2 = 1) == p.req.wide &&
    first % (if p.req.wide then 128 else 256) = 0 && fieldAt 16 4 bytes = first / p.req.T % 2 ^ 32

/-- A packet discarded as LATE; 1,000 in a row set INGEST_BEHIND and are journaled (R46). The run is then counted again from 0, so that
each further 1,000 are a new event (DEDUCED, log 118). -/
def latePacket (s : State) : State :=
  let n := s.ingest.lateRun + 1
  let s := { s with ingest := { s.ingest with lateRun := if n ≥ 1000 then 0 else n } }.bump .lnInLate
  if n ≥ 1000 then
    raiseEvent 12 (journalEvent 2 blkLn 10 (0x1804 / 4) 0 0 { s with ingest := { s.ingest with ingestBehind := true } })
  else s

/-- Steps 6 and 7 of R43: a second copy is discarded; the first goes into the arriving slot or the bay. -/
def takePacket (d : Dwell) (k : SlotPkt) (st : StreamId) (last : Bool) (s : State) : State :=
  let same (x : SlotPkt) : Bool := x.block = k.block && x.sub = k.sub && x.half = k.half
  let arr := s.slotIn .arriving
  let into := match arr with | some i => (s.slot i).dwell == some d | none => false
  let dup := match arr, into with
    | some i, true => (s.slot i).pkts.any same
    | _, _ => s.ingest.bay.any fun b => b.dwell == d && same b.pkt
  if dup then onStream st.lane st.source (fun x => { x with duplicate := x.duplicate + 1 }) (s.bump .lnInDuplicate)
  else if !into && s.ingest.bay.length ≥ 1024 then s.bump .lnInEarlyDrop
  else
    let s := onStream st.lane st.source (fun x => { x with accepted := x.accepted + 1 }) (s.bump .lnInAccepted)
    let s := { s with ingest := { s.ingest with opened := true, lateRun := 0, quiet := s.ingest.quiet.filter (· ≠ st) } }
    match arr, into with
    | some i, true => checkClose i (s.setSlot i ((s.slot i).store k st last s.now))
    | some i, false =>
      let s := { s with ingest := { s.ingest with bay := s.ingest.bay ++
        [{ dwell := d, pkt := k, stream := st, lastOn := last, at_ := s.now }] } }
      checkClose i (settleSlot sweepFuel i s)
    | none, _ => { s with ingest := { s.ingest with bay := s.ingest.bay ++
        [{ dwell := d, pkt := k, stream := st, lastOn := last, at_ := s.now }] } }

/-- Steps 3 to 7 of R43, for a packet that has passed the check. -/
def classifyPacket (lane : Nat) (bytes : List Byte) (s : State) : State :=
  let src := BitVec.ofNat 32 (fieldAt 28 4 bytes)
  let first := fieldAt 8 6 bytes
  match s.planBySample first with
  | none => s.bump .lnInUnplaced
  | some p =>
    if !headerGood p bytes then onStream lane src (fun x => { x with badHeader := x.badHeader + 1 }) (s.bump .lnInBadHeader)
    else
      let blk := p.blocks.findIdx (· = fieldAt 4 2 bytes)
      let ch := p.layout.findIdx (· = fieldAt 6 2 bytes)
      if blk ≥ p.blocks.length || !p.order.contains ch then s.bump .lnInUnplaced
      else
        let d : Dwell := { ver := p.version, chan := ch, sweep := first / p.req.T }
        let k : SlotPkt :=
          { block := blk, sub := first % p.req.T / 256, half := if p.req.wide then first % 256 / 128 else 0,
            mask := BitVec.ofNat 32 (fieldAt 20 4 bytes), data := slice 48 8192 bytes }
        let st : StreamId := { lane := lane, source := src }
        let last := fieldAt 2 2 bytes / 2 % 2 = 1
        match s.ingest.expected with
        | none =>
          if p.posOf ch ≠ 0 then s.bump .lnInNotOpen
          else
            let s := { s with ingest := { s.ingest with expected := some d, opened := true } }
            takePacket d k st last (openSlot s)
        | some e =>
          let dist := s.dwellDist e d
          if dist < 0 then
            if s.ingest.opened then
              onStream lane src (fun x => { x with late := x.late + 1 }) (latePacket s)
            else s.bump .lnInNotOpen
          else
            let c := match s.planOf e.ver with | some q => q.order.length | none => 0
            if dist > c then s.bump .lnInStray else takePacket d k st last s

/-- A sample packet on a lane: the ingest role, then steps 2 to 7 of R43. -/
def samplePacket (lane : Nat) (bytes : List Byte) (s : State) : State :=
  let fj := (s.lane lane).fj
  if s.role lane ≠ 1 then
    if fj then s.bump .lnFjRole else (s.bump .lnRxOther).onLane lane fun x => { x with discarded := x.discarded + 1 }
  else
    let src := BitVec.ofNat 32 (fieldAt 28 4 bytes)
    match checkPacket lane bytes s with
    | .bad => s.bump .lnInBadCheck
    | .misrouted => s.bump .lnInMisrouted
    | .excess => s.bump .lnInSourceExcess
    | .behind => onStream lane src (fun x => { x with seqBehind := x.seqBehind + 1 }) (s.bump .lnInSeqBehind)
    | .accept gap next =>
      let known := s.ingest.streams.any fun x => x.lane = lane && x.source = src
      let s := if known then s
        else { s with ingest := { s.ingest with streams := s.ingest.streams ++ [{ lane := lane, source := src }] } }
      let s := onStream lane src (fun x => { x with e := next, seqGap := x.seqGap + BitVec.ofNat 32 gap }) s
      classifyPacket lane bytes (s.bumpBy .lnInSeqGap gap)

/-- The lane receives frames: it runs and is in LOCK; ingest has not been stopped by SAFE_STOP (R324). -/
def State.rxOpen (s : State) (l : Nat) : Bool := s.arraysRun && s.laneRuns && (s.lane l).state == .lock

/-- R43: a sample packet whose frame and length checks the lane makes first. On a Fjotranu lane it is a SAMPLE frame with the LINK_SEQ
that follows the lane's last (log 15). -/
def takeSample (l : Nat) (bytes : List Byte) (frameOk : Bool) (s : State) : State :=
  let fj := (s.lane l).fj
  if !s.rxOpen l then s
  else if !frameOk || bytes.length ≠ 8244 then
    discardOn l (s.bump (if fj then .lnFjCheck else if !frameOk then .lnRxFcs else .lnRxHeader))
  else
    let s := receivedOn l s
    samplePacket l bytes (if fj then nextLink l s else s)

/-- R43. -/
def execSamplePacket (lane : Fin 128) (bytes : List Byte) (frameOk : Bool) (s : State) : Out :=
  .next (takeSample lane bytes frameOk s)

/-! ### Closes that wait for time (R50, R51) -/

/-- R50: a successor packet has been admitted and CLOSE_GRACE has passed. -/
def execSlotCloseSuccessor (s : State) : Out :=
  .next (match s.slotIn .arriving with
    | none => s
    | some i =>
      match (s.slot i).graceAt with
      | some t => if s.arraysRun && !(s.slot i).pkts.isEmpty then closeSlot i 2 (s.waitFor t s.closeGrace) else s
      | none => s)

/-- R50: no packet of the dwell for CLOSE_STALL. -/
def execSlotCloseStall (s : State) : Out :=
  .next (match s.slotIn .arriving with
    | none => s
    | some i =>
      let x := s.slot i
      if s.arraysRun && !x.pkts.isEmpty then closeSlot i 3 (s.waitFor (max x.lastAt x.openedAt) s.closeStall) else s)

/-- R50: the slot has been ARRIVING for 2 D. -/
def execSlotCloseLimit (s : State) : Out :=
  .next (match s.slotIn .arriving with
    | none => s
    | some i =>
      let x := s.slot i
      match x.dwell.bind fun d => s.planOf d.ver with
      | none => s
      | some p => if s.arraysRun && !x.pkts.isEmpty then closeSlot i 4 (s.waitD p x.openedAt 2) else s)

/-- R51: CLOSE_GRACE passes after a successor packet with the slot still empty; the dwell becomes absent. -/
def execDwellAbsentGrace (s : State) : Out :=
  .next (match s.slotIn .arriving with
    | none => s
    | some i =>
      let x := s.slot i
      match x.graceAt with
      | some t =>
        if s.arraysRun && x.pkts.isEmpty then
          let s := absentDwell (s.waitFor t s.closeGrace)
          checkClose i (settleSlot sweepFuel i (s.setSlot i { x with dwell := s.ingest.expected }))
        else s
      | none => s)

/-! ### Ethernet frames (R249, R250) -/

/-- Big-endian field at an offset. -/
def beAt (o n : Nat) (bs : List Byte) : Nat := unle (slice o n bs).reverse

/-- What an Ethernet frame is, after its tags: ethertype and the offset of its payload. -/
def etherType (bs : List Byte) : Nat × Nat := if beAt 12 2 bs = 0x8100 then (beAt 16 2 bs, 18) else (beAt 12 2 bs, 14)

/-- The tag check of R250: none when VLAN is 0, otherwise one tag with the lane's VLAN. -/
def tagGood (vlan : Nat) (bs : List Byte) : Bool :=
  if vlan = 0 then beAt 12 2 bs ≠ 0x8100 else beAt 12 2 bs = 0x8100 && beAt 14 2 bs % 4096 = vlan

/-- The offset of the UDP header of an IP frame, if it carries UDP over IPv4 or IPv6 without options. -/
def udpOffset (bs : List Byte) : Option Nat :=
  let (t, o) := etherType bs
  if t = 0x0800 then (if fieldAt (o + 9) 1 bs = 17 then some (o + 4 * (fieldAt o 1 bs % 16)) else none)
  else if t = 0x86DD then (if fieldAt (o + 6) 1 bs = 17 then some (o + 40) else none)
  else none

/-- The address, IPv4 or IPv6, and UDP checks of R250 on a frame to the ingest port. -/
def frameGood (l : Nat) (bs : List Byte) (s : State) : Bool :=
  let x := s.lane l
  let (t, o) := etherType bs
  let ip :=
    if t = 0x0800 then
      x.ipv4 != zeros 4 && slice (o + 16) 4 bs == x.ipv4 && fieldAt o 1 bs = 0x45 && beAt (o + 6) 2 bs % 0x4000 = 0 &&
        inetCheck (sum16 (slice o 20 bs)) = 0
    else x.ipv6 == some (slice (o + 24) 16 bs) && fieldAt o 1 bs / 16 = 6
  let u := (udpOffset bs).getD 0
  tagGood x.vlan bs && slice 0 6 bs == s.macOf l && ip && beAt (u + 4) 2 bs = 8252 && decide (u + 8252 ≤ bs.length)

/-- The PTP message that a frame carries: EtherType 0x88F7, or UDP over IPv4 to port 319 or 320 (R196). -/
def ptpMessage (bs : List Byte) : Option (List Byte) :=
  let (t, o) := etherType bs
  if t = 0x88F7 then some (bs.drop o)
  else match udpOffset bs with
    | some u => if t = 0x0800 && (beAt (u + 2) 2 bs = 319 || beAt (u + 2) 2 bs = 320) then some (bs.drop (u + 8)) else none
    | none => none

/-- The PTP handler of a port (R196): peer delay messages, Signaling, Management and messages of another domain are discarded and
counted; any other message acts as a command of its own, with the timestamps that the PCS takes (R197, log 32). -/
def takePtpFrame (msg : List Byte) (s : State) : State :=
  if [2, 3, 10, 12, 13].contains (fieldAt 0 1 msg % 16) || fieldAt 4 1 msg ≠ s.time.domain then ptpDiscard s else s

/-- A message of ARP or of Neighbor Discovery: IPv6, whether it is a request, target, sender's MAC and sender's address. -/
def addressMessage (bs : List Byte) : Option (Bool × Bool × List Byte × List Byte × List Byte) :=
  let (t, o) := etherType bs
  if t = 0x0806 then some (false, beAt (o + 6) 2 bs = 1, slice (o + 24) 4 bs, slice (o + 8) 6 bs, slice (o + 14) 4 bs)
  else if t = 0x86DD && fieldAt (o + 6) 1 bs = 58 && 133 ≤ fieldAt (o + 40) 1 bs && fieldAt (o + 40) 1 bs ≤ 137 then
    some (true, fieldAt (o + 40) 1 bs = 135, slice (o + 48) 16 bs, slice 6 6 bs, slice (o + 8) 16 bs)
  else none

/-- R250: a frame on an Ethernet lane. PTP on a PTP port, and ARP and Neighbor Discovery for the lane, go to their own handlers; a UDP
frame to INGEST_PORT is judged as a sample packet (log 32); every other frame is discarded as LN_RX_OTHER. -/
def execEthernetFrame (lane : Fin 128) (bytes : List Byte) (fcsOk : Bool) (s : State) : Out :=
  let drop (c : Ctr) (s : State) : State := (s.bump c).onLane lane fun x => { x with discarded := x.discarded + 1 }
  let isSample : Bool := match udpOffset bytes with
    | some u => decide (beAt (u + 2) 2 bytes = (s.lane lane).ingestPort)
    | none => false
  .next (if !s.laneRuns || (s.lane lane).state != .lock || (s.lane lane).fj then s
    else if !fcsOk then drop .lnRxFcs s
    else
      let s := s.onLane lane fun x => { x with framesIn := x.framesIn + 1 }
      if (etherType bytes).1 = 0x8808 then drop .lnRxPause s
      else match ptpMessage bytes, addressMessage bytes with
      | some msg, _ => if s.ptpPort lane then takePtpFrame msg s else drop .lnRxOther s
      | none, some (v6, ask, target, mac, ip) =>
        if !(s.lane lane).owns v6 target then drop .lnRxOther s
        else if ask then answerAddress lane v6 target mac ip s
        else s
      | none, none => if isSample then
        if s.role lane ≠ 1 then drop .lnRxOther s
        else if !frameGood lane bytes s then drop .lnRxHeader s
        else if s.arraysRun then samplePacket lane (slice ((udpOffset bytes).getD 0 + 8) 8244 bytes) s else s
      else drop .lnRxOther s)

/-- R58: LN_IN_CNT_CLR. -/
def execLnInCntClr (value : W32) (s : State) : Out :=
  .next (overBus (clearOn 0x180C 0x185C value) s)

/-- LN_SEEDBED_STATUS (R57). -/
def seedbedStatus (s : State) : W32 :=
  let code (x : Slot) : Nat :=
    match x.state with | .free => 0 | .arriving => 1 | .closed => 2 | .computing => 3 | .retained => 4
  BitVec.ofNat 32 (code s.ingest.slot0 + 8 * code s.ingest.slot1 + 64 * code s.ingest.slot2 +
    2 ^ 9 * bitOf (!s.ingest.bay.isEmpty) + 2 ^ 10 * bitOf s.ingest.ingestBehind + 2 ^ 11 * bitOf s.ingest.lateReleaseWait +
    2 ^ 16 * (8 * s.ingest.bay.length))

end Sys2Proof.Machine
end

