-- ==== Sys2Proof/Machine/Cells.lean ====
section
/-! DEFINITION. Cells and the arithmetic of the X array (R9 to R13, R59 to R81): the deal, pieces, saturating and wide
accumulation, drain values, tallies, partial digests and the choice of shadow checks. -/

namespace Sys2Proof.Machine
open Sys2Proof

/-- Insert a number into an ascending list. -/
def insertNat (n : Nat) : List Nat → List Nat
  | [] => [n]
  | m :: ms => if n ≤ m then n :: m :: ms else m :: insertNat n ms

/-- A list in ascending order. -/
def sortNat (xs : List Nat) : List Nat := xs.foldr insertNat []

/-! ### Cells, beds and stripes (R10, R13) -/

/-- Global bed of a cell. -/
def bedOf (cell : Nat) : Nat := cell / 17
/-- Quadrant of a cell. -/
def quadOf (cell : Nat) : Nat := cell / 340
/-- Stripe of a bed. -/
def stripeOfBed (g : Nat) : Nat := g % 20 / 2
/-- The spare of a bed under the spare map, if it has one. A byte that does not match its complement is not used (R7). -/
def State.spareOf (s : State) (g : Nat) : Option Nat :=
  let b := s.cells.spareMap.getD g 0xFF
  if b.toNat < 17 && s.cells.spareMapN.getD g 0 == ~~~ b then some (17 * g + b.toNat) else none
/-- The cell's stripe is powered and not lost. -/
def State.stripeOn (s : State) (cell : Nat) : Bool :=
  let st := stripeOfBed (bedOf cell)
  s.cells.powered.getLsbD st && !s.cells.stripeLost.getLsbD st
/-- A cell is healthy: not retired, not faulted, its stripe on and not under test (R307). -/
def State.healthy (s : State) (cell : Nat) : Bool :=
  !s.cells.retired.contains cell && !s.xa.faulted.contains cell && s.stripeOn cell &&
    !s.cells.stripeTest.contains (stripeOfBed (bedOf cell))
/-- The candidates of R144: healthy cells that are not spares. -/
def State.candidates (s : State) : List Nat :=
  (List.range 1360).filter fun c => s.healthy c && s.spareOf (bedOf c) ≠ some c

/-! ### Block pairs and the deal (R62 to R66, R143) -/

/-- Pairs (a, b) with a ≤ b over blocks `lo` to `hi - 1`, in triangle order. -/
def triangleOf (lo hi : Nat) : List (Nat × Nat) :=
  ((List.range (hi - lo)).map fun a => (List.range (hi - lo - a)).map fun d => (lo + a, lo + a + d)).flatten

/-- The block pairs in POS order (R143). -/
def pairList (sh : Shape) (n : Nat) : List (Nat × Nat) :=
  let a := min 64 n
  match sh with
  | .triangle => triangleOf 0 n
  | .square => ((List.range a).map fun x => (List.range (n - a)).map fun y => (x, a + y)).flatten
  | .twoTriangles => triangleOf 0 a ++ triangleOf a n

/-- The block pairs of a plan. -/
def Plan.pairs (p : Plan) : List (Nat × Nat) := pairList p.shape p.blocks.length

/-- The mode factor m of R23. -/
def modeFactor (wide : Bool) : Nat := if wide then 4 else 1

/-- Bits of `u` reversed over `n` bits (R64). -/
def revBits (n u : Nat) : Nat := (List.range n).foldl (fun r i => r + bitOf (u.testBit i) * 2 ^ (n - 1 - i)) 0

/-- A deal: S steps of a sub-dwell over A cells and U sub-dwells (R64). -/
structure Deal where
  S : Nat
  A : Nat
  U : Nat
  m : Nat
  deriving DecidableEq, Repr

/-- q_i of R64. -/
def Deal.q (d : Deal) (i : Nat) : Nat := i * d.S / d.A
/-- θ_i of R64. -/
def Deal.theta (d : Deal) (i : Nat) : Nat := d.U - d.U * (i * d.S % d.A) / d.A
/-- The boundary b(i, u) of R64. -/
def Deal.bound (d : Deal) (i u : Nat) : Nat :=
  d.q i + (if revBits (Nat.log2 d.U) u ≥ d.theta i then 1 else 0)
/-- Step numbers that deal index i computes in sub-dwell u. -/
def Deal.steps (d : Deal) (i u : Nat) : List Nat := (List.range (d.bound (i + 1) u - d.bound i u)).map (d.bound i u + ·)
/-- Steps of a deal index over the dwell in the order of R65: (sub-dwell, step). -/
def Deal.run (d : Deal) (i : Nat) : List (Nat × Nat) :=
  ((List.range d.U).map fun u => (d.steps i u).map fun s => (u, s)).flatten
/-- Block-pair positions that a deal index computes any step of, ascending (R66). -/
def Deal.pieces (d : Deal) (i : Nat) : List Nat :=
  let b := (List.range d.U).map fun u => (d.bound i u, d.bound (i + 1) u)
  let lo := b.foldl (fun n x => min n x.1) d.S
  let hi := b.foldl (fun n x => max n x.2) 0
  ((List.range ((hi + 8 * d.m - 1) / (8 * d.m) - lo / (8 * d.m))).map (lo / (8 * d.m) + ·)).filter fun pos =>
    b.any fun x => x.1 < (pos + 1) * 8 * d.m && pos * 8 * d.m < x.2 && x.1 < x.2
/-- The deal index that owns a block pair: it computes its last step (R66). -/
def Deal.owner (d : Deal) (pos : Nat) : Nat :=
  let last := pos * 8 * d.m + 8 * d.m - 1
  ((List.range d.A).find? fun i => d.bound i (d.U - 1) ≤ last && last < d.bound (i + 1) (d.U - 1)).getD 0

/-- The deal of a plan over `A` cells. -/
def dealOver (wide : Bool) (T P A : Nat) : Deal := { S := 8 * modeFactor wide * P, A := A, U := T / 256, m := modeFactor wide }
/-- The deal of a plan. -/
def Plan.deal (p : Plan) : Deal := dealOver p.req.wide p.req.T p.P p.A

/-- Deal indexes with a piece of a block pair: `waits` of staging (R66, R75). A cell's ranges lie from q_i to q_(i+1) + 1, so
only the cells around the block pair's steps are asked. -/
def Deal.holders (d : Deal) (pos : Nat) : List Nat :=
  let w := 8 * d.m
  let lo := (w * pos - 1) * d.A / d.S - 2
  let hi := min d.A ((w * pos + w) * d.A / d.S + 3)
  ((List.range (hi - lo)).map (lo + ·)).filter fun i => (d.pieces i).contains pos

/-! ### Tine arithmetic (R59 to R61, R71 to R73) -/

/-- The component limit of a 4+4-bit slot entry (R72). -/
def clamp24 (v : Int) : Int := clampInt (-8388607) 8388607 v
/-- The component limit of staging (R74, R75). -/
def clamp32 (v : Int) : Int := clampInt (-2147483647) 2147483647 v

/-- Samples of the two blocks of a block pair as the tines see them: for each sub-dwell, rows of X inputs and rows of Y inputs. -/
abbrev Operands := Nat → List (List (Int × Int)) × List (List (Int × Int))

/-- The operands of block pair (a, b) of a slot. -/
def operandsOf (wide : Bool) (pkts : List SlotPkt) (a b : Nat) : Operands := fun u =>
  (plainRows wide pkts a u, plainRows wide pkts b u)

/-- The product x conj(y) (R59). -/
def tineProduct (x y : Int × Int) : Int × Int := (x.1 * y.1 + x.2 * y.2, x.2 * y.1 - x.1 * y.2)

/-- One addition of a 4+4-bit tine, with its clamp (R72). -/
def accAdd (a : Acc) (v : Int × Int) : Acc :=
  let re := a.re + v.1
  let im := a.im + v.2
  { re := clamp24 re, im := clamp24 im, sat := a.sat || clamp24 re != re || clamp24 im != im }

/-- The high or low nibble of a wide component (R61). -/
def wideNibble (high : Bool) (v : Int) : Int := if high then v / 16 else v % 16

/-- The shift of a wide pass: high nibbles of both, of one, of neither (R61). -/
def passShift (pass : Nat) : Int := match pass with | 0 => 256 | 3 => 1 | _ => 16

/-- Every tine takes one sample: entry e = 32 i + j takes input i of X and input j of Y (R59, R61, R72, R73). -/
def tineRow (wide : Bool) (pass : Nat) (acc : List Acc) (xs ys : List (Int × Int)) : List Acc :=
  if wide then
    let xs := xs.map fun x => (wideNibble (pass < 2) x.1, wideNibble (pass < 2) x.2)
    let ys := ys.map fun y => (wideNibble (pass % 2 = 0) y.1, wideNibble (pass % 2 = 0) y.2)
    let vs := (xs.map fun x => ys.map (tineProduct x)).flatten
    acc.zipWith (fun a v => { a with re := a.re + v.1 * passShift pass, im := a.im + v.2 * passShift pass }) vs
  else acc.zipWith accAdd (xs.map fun x => ys.map (tineProduct x)).flatten

/-- One step: 32 samples of a sub-dwell, at one pass in wide mode (R61, R63). -/
def stepRows (wide : Bool) (rows : List (List (Int × Int)) × List (List (Int × Int))) (k : Nat) (acc : List Acc) : List Acc :=
  let part (xs : List (List (Int × Int))) : List (List (Int × Int)) := (xs.drop (32 * (k % 8))).take 32
  ((part rows.1).zip (part rows.2)).foldl (fun acc xy => tineRow wide (k / 8) acc xy.1 xy.2) acc

/-- The steps of a sub-dwell, in ascending order. -/
def stepsIn (u : Nat) (steps : List (Nat × Nat)) : List Nat := (steps.filter (·.1 = u)).map (·.2)

/-- The 1,024 entries of a piece after its steps, in entry order e = 32 i + j. The steps come sub-dwell by sub-dwell (R65). -/
def pieceEntries (wide : Bool) (ops : Operands) (steps : List (Nat × Nat)) : List Acc :=
  ((steps.map (·.1)).eraseDups).foldl (fun acc u =>
    let rows := ops u
    (stepsIn u steps).foldl (fun acc k => stepRows wide rows k acc) acc) (List.replicate 1024 {})

/-- The steps (sub-dwell, step within the block pair) of block pair `pos` among steps of R64. -/
def stepsOf (m pos : Nat) (run : List (Nat × Nat)) : List (Nat × Nat) :=
  (run.filter fun us => us.2 / (8 * m) = pos).map fun us => (us.1, us.2 % (8 * m))

/-- What a cell forms of one piece, in the slot given. -/
def formPiece (p : Plan) (pkts : List SlotPkt) (deal cell slot pos : Nat) (steps : List (Nat × Nat)) : PieceSum :=
  let (a, b) := p.pairs.getD pos (0, 0)
  PieceSum.store p.req.wide (pieceEntries p.req.wide (operandsOf p.req.wide pkts a b) steps)
    { deal := deal, cell := cell, pos := pos, slot := slot, low := [] }

/-- Slot number of the n-th piece of a routine: even in wide mode (R69). -/
def slotOfPiece (wide : Bool) (n : Nat) : Nat := if wide then 2 * n else n

/-- What one cell forms over some of its steps, piece by piece in the order of its PIECE words (R65, R83). -/
def cellSums (p : Plan) (pkts : List SlotPkt) (deal cell : Nat) (run : List (Nat × Nat)) : List PieceSum :=
  let ps := ((p.deal.pieces deal).map fun pos => (pos, stepsOf p.deal.m pos run)).filter fun x => !x.2.isEmpty
  ps.zipIdx.map fun (x, n) => formPiece p pkts deal cell (slotOfPiece p.req.wide n) x.1 x.2

/-- What every dealt cell forms over a dwell; faulted cells' work is discarded (R83). -/
def arraySums (p : Plan) (pkts : List SlotPkt) (skip : List Nat) : List PieceSum :=
  (p.cellMap.zipIdx.map fun (cell, i) => if skip.contains cell then [] else cellSums p pkts i cell (p.deal.run i)).flatten

/-- A silent error of the environment in an entry of a piece (R80); the fields stay 24 bits wide. -/
def applyUpset (u : Upset) (x : PieceSum) : PieceSum :=
  if x.cell = u.cell && x.pos = u.pos then
    x.store (!x.high.isEmpty) (setAt u.entry (fun a => { a with re := a.re + u.dRe, im := a.im + u.dIm }) x.entries)
  else x

/-! ### Drain values and staging sums (R74, R75) -/

/-- What an entry drains as, and whether it marks OVERFLOW (R74). -/
def drainAcc (wide : Bool) (a : Acc) : (Int × Int) × Bool :=
  if wide then ((clamp32 a.re, clamp32 a.im), clamp32 a.re != a.re || clamp32 a.im != a.im) else ((a.re, a.im), a.sat)

/-- A part arrives in staging: its values are added exactly (R75). -/
def addPart (wide : Bool) (part : PieceSum) (b : StagedPair) : StagedPair :=
  let vs := part.entries.map (drainAcc wide)
  { b with
    sums := b.sums.zipWith (fun a v => { a with re := a.re + v.1.1, im := a.im + v.1.2 }) vs
    overflow := b.overflow || vs.any (·.2) }

/-- A block pair becomes ready: each component is clamped once (R75). -/
def readyPair (b : StagedPair) : StagedPair :=
  let out := b.sums.map fun a => { a with re := clamp32 a.re, im := clamp32 a.im : Acc }
  { b with sums := out, overflow := b.overflow || out != b.sums, ready := true }

/-- The tag word (R79). -/
def StagedPair.tag (b : StagedPair) (tallyOver : Bool) : Nat :=
  bitOf b.overflow + 2 * bitOf b.replayed + 4 * bitOf b.shadowMismatch + 8 * bitOf b.deficits.isSome +
    16 * bitOf tallyOver + (if b.deficits.isSome then 2 ^ 16 * b.excIndex else 0)

/-- Staged sums in the 32-bit layout of R86. -/
def StagedPair.bytes (b : StagedPair) : List Byte := (b.sums.map fun a => leInt 4 a.re ++ leInt 4 a.im).flatten

/-- The CRC-64 of a block pair in PARTIAL_DIGEST (R335): REPLAYED, SHADOW_MISMATCH and EXC_INDEX cleared. -/
def StagedPair.digest (b : StagedPair) (tallyOver : Bool) : Nat :=
  let tag := bitOf b.overflow + 8 * bitOf b.deficits.isSome + 16 * bitOf tallyOver
  crc64 (le4 b.pos ++ le4 b.count ++ le4 tag ++ b.bytes ++ ((b.deficits.getD []).map le2).flatten)

/-- PARTIAL_DIGEST (R335). -/
def Staged.digest (x : Staged) : Nat := x.pairs.foldl (fun n b => n ^^^ b.digest x.tallyOver) 0

/-! ### Count tallies (R77, R78) -/

/-- The tally of one block pair: full and partial sub-dwells, partial updates made, G of its exception entry with its
index. -/
structure Tally where
  F : Nat := 0
  H : Nat := 0
  made : Nat := 0
  g : Option (Nat × List Nat) := none
  deriving DecidableEq, Repr

/-- The tally unit over a dwell: updates made, entries taken, TALLY_OVER, block pairs. -/
structure TallyRun where
  updates : Nat := 0
  taken : Nat := 0
  spill : Bool := false
  pairs : List Tally
  deriving DecidableEq, Repr

/-- One partial update: 1 added for each entry with both mask bits set. -/
def partialUpdate (ma mb : W32) (g : List Nat) : List Nat :=
  g.zipIdx.map fun (n, e) => n + bitOf (ma.getLsbD (e / 32) && mb.getLsbD (e % 32))

/-- The tally unit takes block pair `pos` of one sub-dwell (R77, R78). R79 gives only the range of EXC_INDEX: that entries
take ascending indexes in processing order is the model's choice (DESIGN CHOICE, log 123). -/
def tallyStep (limit : Nat) (ma mb : W32) (pos : Nat) (r : TallyRun) : TallyRun :=
  let t := r.pairs.getD pos {}
  let ones : W32 := 0xFFFFFFFF
  if ma = 0 || mb = 0 then r
  else if ma = ones && mb = ones then { r with pairs := setAt pos (fun t => { t with F := t.F + 1 }) r.pairs }
  else
    let hit (r : TallyRun) : TallyRun := { r with pairs := setAt pos (fun t => { t with H := t.H + 1 }) r.pairs }
    if r.spill then hit r
    else if r.updates ≥ limit then hit { r with spill := true }
    else
      match t.g with
      | none =>
        if r.taken ≥ 1024 then hit { r with spill := true }
        else
          let t' := { t with H := t.H + 1, made := t.made + 1,
                             g := some (r.taken, partialUpdate ma mb (List.replicate 1024 0)) }
          { r with updates := r.updates + 1, taken := r.taken + 1, pairs := setAt pos (fun _ => t') r.pairs }
      | some (idx, g) =>
        let t' := { t with H := t.H + 1, made := t.made + 1, g := some (idx, partialUpdate ma mb g) }
        { r with updates := r.updates + 1, pairs := setAt pos (fun _ => t') r.pairs }

/-- The tally of a dwell: sub-dwells ascending, block pairs ascending (R78). t_X counts XCLK cycles of 0.625 ns. -/
def tallyRun (p : Plan) (pkts : List SlotPkt) : TallyRun :=
  let limit := p.tX * 5 / 8
  let pairs := p.pairs.zipIdx
  (List.range p.U).foldl (fun r u =>
    pairs.foldl (fun r (ab, pos) =>
      tallyStep limit (subMask p.req.wide pkts ab.1 u) (subMask p.req.wide pkts ab.2 u) pos r) r)
    { pairs := List.replicate pairs.length {} }

/-- COUNT, the deficits and EXC_INDEX of a block pair when the dwell ends (R77, R78). -/
def Tally.result (t : Tally) : Nat × Option (List Nat) × Nat :=
  if t.made < t.H then (256 * (t.F + t.H), none, 0)
  else match t.g with
    | none => (256 * t.F, none, 0)
    | some (idx, g) =>
      let m := g.foldl max 0
      if g.all (· == m) then (256 * (t.F + m), none, 0) else (256 * (t.F + m), some (g.map (m - ·)), idx)

/-- What a dwell's tally counts when its compute ends: block pairs given an exception entry, and whether it is TALLY_OVER (R78, R84). -/
def tallyCounts (p : Plan) (pkts : List SlotPkt) : Nat × Bool :=
  let r := tallyRun p pkts
  ((r.pairs.filter fun t => t.result.2.1.isSome).length, r.spill)

/-- The staging half of a dwell before any part arrives (R75, R77, R91). -/
def stageDwell (p : Plan) (d : Dwell) (pkts : List SlotPkt) (now : Nat) (add : Bool) : Staged :=
  let r := tallyRun p pkts
  let pairs := (r.pairs.zipIdx).map fun (t, pos) =>
    let (count, def_, idx) := t.result
    { pos := pos, sums := List.replicate 1024 {}, waits := p.deal.holders pos, count := count, deficits := def_,
      excIndex := idx : StagedPair }
  { dwell := d, boundaryAt := now, pairs := pairs, tallyOver := r.spill,
    inputs := ((List.range (p.inputs / 32)).map fun b => blockCounts p.req.wide pkts p.U b).flatten, add := add }

/-! ### Shadow checks (R80) -/

/-- The bed's dealt cells in ascending position, with their deal indexes. -/
def dealtIn (p : Plan) (g : Nat) : List (Nat × Nat) :=
  let mine := p.cellMap.zipIdx.filter fun x => bedOf x.1 = g
  (List.range 17).filterMap fun k => mine.find? fun x => x.1 = 17 * g + k

/-- The target of a bed's shadow check: deal index, cell and POS (R80). -/
def shadowTarget (p : Plan) (g : Nat) (d : Dwell) : Option (Nat × Nat × Nat) :=
  let h := crc32c (le2 g ++ le2 d.chan ++ le4 d.sweep ++ le4 p.serial)
  let cells := dealtIn p g
  match cells[h % cells.length]? with
  | none => none
  | some (cell, i) =>
    let ps := p.deal.pieces i
    match ps[h / 16 % ps.length]? with
    | some pos => some (i, cell, pos)
    | none => none

end Sys2Proof.Machine
end

