-- ==== Sys2Proof/Machine/Rmw.lean ====
section
/-! DEFINITION. Integrations, the RMW engine and harvest (R85 to R108): layout in DRAM, passes, chunks, commits, flush
passes, harvest records, and the INTEG commands. -/

namespace Sys2Proof.Machine
open Sys2Proof

/-! ### Layout (R85 to R87) -/

/-- Base of a region of a plan by its kind of R402. -/
def Plan.base (p : Plan) (kind : Nat) : Nat := match p.region kind with | some r => r.base | none => 0
/-- Z: bytes of a chunk (R85). -/
def Plan.Z (p : Plan) : Nat := if p.req.long then 16384 else 8192
/-- Local channels of the long-term layout. -/
def Plan.C (p : Plan) : Nat := p.layout.length
/-- H_c: a channel's heap share (R85, R147). -/
def Plan.heapShare (p : Plan) : Nat := match p.region 4 with | some r => r.size / p.C | none => 0
/-- Fixed blocks of the heap share before the directory: flag bytes, per-input counts (R87). -/
def Plan.flagBlocks (p : Plan) : Nat := (p.P + 4095) / 4096
/-- Blocks of per-input counts. -/
def Plan.inputBlocks (p : Plan) : Nat := (p.inputs + 511) / 512
/-- E_max of R87. -/
def Plan.eMax (p : Plan) : Nat := min 512 (p.heapShare / 4096 - p.flagBlocks - p.inputBlocks - 1)
/-- Address of a chunk (R86). -/
def Plan.chunkAddr (p : Plan) (c pos : Nat) : Nat := p.base 2 + (c * p.P + pos) * p.Z
/-- Address of a block-pair count (R86). -/
def Plan.countAddr (p : Plan) (c pos : Nat) : Nat := p.base 3 + (c * p.P + pos) * 4
/-- Address of a channel's heap share. -/
def Plan.heapAddr (p : Plan) (c : Nat) : Nat := p.base 4 + c * p.heapShare
/-- Address of a flag byte (R87). -/
def Plan.flagAddr (p : Plan) (c pos : Nat) : Nat := p.heapAddr c + pos
/-- Address of the per-input counts of a local input (R87). -/
def Plan.inputAddr (p : Plan) (c input : Nat) : Nat := p.heapAddr c + 4096 * p.flagBlocks + 8 * input
/-- Address of directory word k (R87). -/
def Plan.dirAddr (p : Plan) (c k : Nat) : Nat := p.heapAddr c + 4096 * (p.flagBlocks + p.inputBlocks) + 8 * k
/-- Address of exception entry k (R87). -/
def Plan.entryAddr (p : Plan) (c k : Nat) : Nat := p.heapAddr c + 4096 * (p.flagBlocks + p.inputBlocks + 1 + k)

/-- A chunk's sums as bytes (R86). -/
def sumBytes (long : Bool) (vs : List (Int × Int)) : List Byte :=
  let n := if long then 8 else 4
  (vs.map fun v => leInt n v.1 ++ leInt n v.2).flatten

/-- A chunk's sums from bytes (R86). -/
def sumsOf (long : Bool) (bs : List Byte) : List (Int × Int) :=
  let n := if long then 8 else 4
  (List.range 1024).map fun e => (intAt (2 * n * e) n bs, intAt (2 * n * e + n) n bs)

/-- A number at an address of DRAM. -/
def State.dramNum (s : State) (a n : Nat) : Nat := unle (s.dramRead a n)

/-- The exception entries of a channel: entry index and POS of each VALID directory word (R87). -/
def directory (p : Plan) (c used : Nat) (s : State) : List (Nat × Nat) :=
  (List.range used).filterMap fun k =>
    let w := s.dramNum (p.dirAddr c k) 8
    if w.testBit 15 then some (k, w % 16384) else none

/-! ### Integrations (R90, R100, R103) -/

/-- The era of a sweep: the last one that starts at or before it. -/
def eraAt (eras : List Era) (k : Nat) : Option (Nat × IntegCfg) :=
  eras.foldl (fun best e => match e.start with
    | some a => if a ≤ k then some (a, e.cfg) else best
    | none => best) none

/-- The integration of a sweep: its index, its first sweep and its parameters (R90). -/
def integAt (eras : List Era) (k : Nat) : Option (Nat × Nat × IntegCfg) :=
  (eraAt eras k).map fun (a, c) =>
    let i := (k - a) / max 1 c.len
    (i, a + i * c.len, c)

/-- First sweep of the integration after the one that starts at `k` (R90). -/
def nextInteg (eras : List Era) (k : Nat) : Nat :=
  match eraAt eras k with
  | none => k + 1
  | some (_, c) =>
    eras.foldl (fun n e => match e.start with
      | some a => if k < a ∧ a < n then a else n
      | none => n) (k + max 1 c.len)

/-- First sweeps of the integrations from `k` up to, not including, `to`. Recurses on fuel: a step is at least 1. -/
def integsFrom (fuel : Nat) (eras : List Era) (k toward : Nat) : List Nat :=
  match fuel with
  | 0 => []
  | fuel + 1 => if k ≥ toward then [] else k :: integsFrom fuel eras (nextInteg eras k) toward

/-- The parameters in force: those of the last era. -/
def State.integCfg (s : State) : IntegCfg := match s.rmw.eras.getLast? with | some e => e.cfg | none => {}

/-- The dwell's sums are added: integrations run, and its sweep lies in them (R90, R102). -/
def State.counted (s : State) (d : Dwell) : Bool :=
  s.rmw.running && (integAt s.rmw.eras d.sweep).isSome &&
    (match s.rmw.stopAt with | some k => decide (d.sweep < k) | none => true)

/-- Integrations start on FRESH channels from a sweep, or from the plan's first dwell (R90, R102, R103). -/
def startIntegrations (p : Plan) (start : Option Nat) (cfg : IntegCfg) (s : State) : State :=
  { s with rmw := { s.rmw with
      running := true, eras := [{ start := start, cfg := cfg }], stopAt := none, startAt := none, nextCfg := none
      desc := List.replicate p.C { start := start } } }

/-- The plan's first dwell fixes the start sweep of integrations that had none (R90). -/
def fixStart (k : Nat) (s : State) : State :=
  match s.rmw.eras with
  | [{ start := none, cfg := cfg }] =>
    { s with rmw := { s.rmw with
        eras := [{ start := some k, cfg := cfg }]
        desc := s.rmw.desc.map fun d => { d with start := d.start <|> some k } } }
  | _ => s

/-! ### Harvest records (R103 to R106) -/

/-- A value scaled by a shift, rounding half up (R103). -/
def scaleValue (w sh : Nat) (v : Int) : Int × Bool :=
  let x := roundHalfUp sh v
  let lim : Int := 2 ^ (w - 1) - 1
  (clampInt (-lim) lim x, clampInt (-lim) lim x != x)

/-- The 32 bytes common to harvest headers before the type-specific part (R104). -/
def harvestHead (p : Plan) (type flags chan index ver start dwells : Nat) (s : State) : List Byte :=
  [BitVec.ofNat 8 type, 1] ++ le2 flags ++ le2 s.mesh.index.toNat ++ le2 (p.sysChan chan) ++ le4 index ++ le8 ver ++
    le 6 (start * p.req.T) ++ zeros 2 ++ le4 dwells

/-- The SUMS records of a block pair, then its DEFICITS record if it has an entry (R105, R106). -/
def sumsRecords (p : Plan) (c : Nat) (d : ChanDesc) (cfg : IntegCfg) (pos count flags : Nat) (L : List (Int × Int))
    (defs : Option (List Byte)) (s : State) : List (List Byte) :=
  let (a, b) := p.pairs.getD pos (0, 0)
  let w := 16 * 2 ^ cfg.width
  let vals := L.zipIdx.map fun (v, e) =>
    let sh := if a = b && e / 32 = e % 32 then cfg.shiftAuto else cfg.shiftCross
    (scaleValue w sh v.1, scaleValue w sh v.2)
  let spill := vals.any fun v => v.1.2 || v.2.2
  let flags := (if spill && flags % 2 = 0 then flags + 1 else flags) % 128 + 128 * bitOf d.planChanged
  let pair := le2 pos ++ le2 (p.blocks.getD a 0) ++ le2 (p.blocks.getD b 0)
  let data (r n : Nat) : List Byte :=
    (((vals.drop (32 * r)).take (32 * n)).map fun v => leInt (w / 8) v.1.1 ++ leInt (w / 8) v.2.1).flatten
  let rec_ (r n : Nat) : List Byte :=
    harvestHead p 0x31 flags c d.index d.ver.toNat (d.start.getD 0) d.dwells s ++ pair ++
      [BitVec.ofNat 8 (cfg.width + 4 * bitOf p.req.long), BitVec.ofNat 8 cfg.shiftCross, BitVec.ofNat 8 cfg.shiftAuto,
       BitVec.ofNat 8 r, BitVec.ofNat 8 n, 0] ++ le4 count ++ data r n
  let sums := if cfg.width = 2 then [rec_ 0 16, rec_ 16 16] else [rec_ 0 32]
  match defs with
  | some x => sums ++ [harvestHead p 0x33 0 c d.index d.ver.toNat (d.start.getD 0) d.dwells s ++ pair ++ zeros 10 ++ x]
  | none => sums

/-- The INPUT_COUNTS records of a channel, 32 blocks each (R105). -/
def inputRecords (p : Plan) (c : Nat) (d : ChanDesc) (s : State) : List (List Byte) :=
  let n := p.blocks.length
  (List.range ((n + 31) / 32)).map fun r =>
    let k := min 32 (n - 32 * r)
    harvestHead p 0x32 0 c d.index d.ver.toNat (d.start.getD 0) d.dwells s ++ le2 (32 * r) ++ le2 k ++ zeros 12 ++
      s.dramRead (p.inputAddr c (1024 * r)) (8 * 32 * k)

/-- The END record (R105). -/
def endRecord (p : Plan) (c : Nat) (d : ChanDesc) (records deficits : Nat) (s : State) : List Byte :=
  harvestHead p 0x34 (128 * bitOf d.planChanged) c d.index d.ver.toNat (d.start.getD 0) d.dwells s ++ zeros 16 ++
    le4 records ++ le4 deficits ++ le4 d.coarse ++ zeros 4

/-- EMPTY records of the integrations that start at the sweeps given (R100). -/
def emptyRecords (p : Plan) (c : Nat) (eras : List Era) (starts : List Nat) (s : State) : List (List Byte) :=
  starts.map fun k =>
    let i := match integAt eras k with | some (i, _, _) => i | none => 0
    harvestHead p 0x35 0 c i p.version.toNat k 0 s ++ zeros 16

/-- The harvest queue takes records: they fit, or no lane serves their class and they are discarded (R101, R265). -/
def State.harvestRoom (s : State) (recs : List (List Byte)) : Bool :=
  !s.classServed 3 || s.queueHas 3 (recs.map List.length).sum

/-- Queue harvest records. -/
def queueHarvest (recs : List (List Byte)) (empties : Nat) (s : State) : State :=
  let s := recs.foldl (fun s r => enqueueRecord 3 r s) s
  (s.bumpBy .mcHvRecords recs.length).bumpBy .mcHvEmpty empties

/-- The pass of a dwell is stalled by a full harvest queue; a pass counts once (R101, R108). -/
def harvestStall (d : Dwell) (s : State) : State :=
  if s.rmw.stallDwell = some d then s
  else { s with rmw := { s.rmw with stallDwell := some d } }.bump .mcHvQueueStall

/-! ### Passes (R89, R94 to R99) -/

/-- Change the staging half of a dwell. -/
def State.onStaged (s : State) (d : Dwell) (f : Staged → Staged) : State :=
  { s with xa := { s.xa with staging := s.xa.staging.map fun x => if x.dwell == d then f x else x } }

/-- The staging half of a dwell. -/
def State.staged (s : State) (d : Dwell) : Option Staged := s.xa.staging.find? (·.dwell == d)

/-- The pass that runs changes. -/
def State.setPass (s : State) (p : Option Pass) : State := { s with rmw := { s.rmw with pass := p } }

/-- A channel descriptor. -/
def State.chanDesc (s : State) (c : Nat) : ChanDesc := s.rmw.desc.getD c {}
/-- Change a channel descriptor. -/
def State.setDesc (s : State) (c : Nat) (d : ChanDesc) : State :=
  { s with rmw := { s.rmw with desc := setAt c (fun _ => d) s.rmw.desc } }

/-- The exception entry that a NONUNIFORM block pair takes when its chunk is issued (R93): the one it has, the next free
one, or none. -/
def entryFor (p : Plan) (ps : Pass) (b : StagedPair) : Option Nat × Bool × Bool :=
  match b.deficits with
  | none => (none, false, false)
  | some _ =>
    match ps.dir.find? (·.2 = b.pos) with
    | some (k, _) => (some k, false, false)
    | none => if ps.entries < p.eMax then (some ps.entries, true, false) else (none, false, true)

/-- Issue the read of a chunk. -/
def issueChunk (p : Plan) (x : Staged) (pos : Nat) (ps : Pass) (s : State) : Pass × State :=
  match x.pairs.find? (·.pos = pos) with
  | none => (ps, s)
  | some b =>
    let (e, isNew, refused) := entryFor p ps b
    let coarse := refused || (x.tallyOver && b.deficits.isNone)
    let ps := { ps with
      flight := ps.flight ++ [{ pos := pos, entry := e, newEntry := isNew, refused := coarse }]
      entries := ps.entries + bitOf isNew, coarse := ps.coarse || coarse
      dir := if isNew then ps.dir ++ [(e.getD 0, pos)] else ps.dir }
    (ps, if refused then s.bump .mcRmwHeapFull else s)

/-- Issue reads in the order of R94: POS ascending, those not ready deferred; after the last POS the lowest deferred one
that is ready. Recurses on fuel: each turn moves past a POS or issues a deferred one. -/
def issueReads (fuel : Nat) (p : Plan) (x : Staged) (ps : Pass) (s : State) : Pass × State :=
  match fuel with
  | 0 => (ps, s)
  | fuel + 1 =>
    if ps.flight.length ≥ (if p.req.long then 64 else 128) then (ps, s)
    else
      let isReady (pos : Nat) : Bool := x.pairs.any fun b => b.pos = pos && b.ready
      if ps.next < x.pairs.length then
        if isReady ps.next then
          let (ps, s) := issueChunk p x ps.next { ps with next := ps.next + 1 } s
          issueReads fuel p x ps s
        else issueReads fuel p x { ps with next := ps.next + 1, deferred := ps.deferred ++ [ps.next] } s
      else
        match ps.deferred.filter isReady with
        | [] => (ps, s)
        | a :: rest =>
          let pos := rest.foldl min a
          let (ps, s) := issueChunk p x pos { ps with deferred := ps.deferred.filter (· ≠ pos) } s
          issueReads fuel p x ps s

/-- The running pass issues what it can. -/
def advancePass (s : State) : State :=
  match s.rmw.pass with
  | none => s
  | some ps =>
    match s.planOf ps.dwell.ver, s.staged ps.dwell with
    | some p, some x =>
      let (ps, s) := issueReads (2 * x.pairs.length + 1) p x ps s
      s.setPass (some ps)
    | _, _ => s

/-- The deficits of each block pair with an entry, as the finished integration left them (R99, R105). -/
def oldDeficits (p : Plan) (c pos : Nat) (used : Nat) (s : State) : Option (List Byte) :=
  ((directory p c used s).find? (·.2 = pos)).map fun (k, _) => s.dramRead (p.entryAddr c k) 4096

/-- The per-input counts of the dwell enter the heap: added, or in place of the old ones (R91, R99). -/
def writeInputs (p : Plan) (c : Nat) (fresh : Bool) (ins : List (Nat × Nat)) (s : State) : State :=
  let bs := (ins.zipIdx.map fun ((inv, fl), i) =>
    let a := p.inputAddr c i
    let oi := if fresh then 0 else s.dramNum a 4
    let of := if fresh then 0 else s.dramNum (a + 4) 4
    le4 (oi + inv) ++ le4 (of + fl)).flatten
  dramStore (p.inputAddr c 0) bs s

/-- The directory of a channel is empty (R99). -/
def clearDirectory (p : Plan) (c : Nat) (s : State) : State := dramStore (p.dirAddr c 0) (zeros (8 * p.eMax)) s

/-- R94: the next pass begins, once the pass before it has ended. -/
def execRmwPassStart (s : State) : Out :=
  .next (if !s.arraysRun || s.rmw.pass.isSome then s
    else match s.xa.staging.find? (·.add) with
      | none => s
      | some x =>
        let d := x.dwell
        match s.planOf d.ver, integAt s.rmw.eras d.sweep with
        | some p, some (idx, start, _) =>
          let c := d.chan
          let desc := s.chanDesc c
          let fold := !desc.fresh && desc.start ≠ some start
          let empties := if desc.fresh then
              emptyRecords p c s.rmw.eras (integsFrom start s.rmw.eras (desc.start.getD start) start) s else []
          let ins := if fold then inputRecords p c desc s else []
          if !s.harvestRoom (empties ++ ins) then harvestStall d s
          else
            let s := queueHarvest (empties ++ ins) empties.length s
            let fresh := desc.fresh || fold
            let s := writeInputs p c fresh x.inputs s
            let dir := if desc.fresh then [] else directory p c desc.entries s
            let ps : Pass :=
              { dwell := d, harvest := if fold then some desc else none, fresh := fresh, start := start, index := idx,
                olds := if fold then dir.map fun (k, pos) => (pos, s.dramRead (p.entryAddr c k) 4096) else []
                entries := if fresh then 0 else desc.entries, dir := if fresh then [] else dir, records := ins.length }
            let s := if fresh then clearDirectory p c s else s
            advancePass { s with rmw := { s.rmw with pass := some ps, chan := c } }
        | _, _ => s)

/-- The harvest records of a chunk of the pass, when it folds a harvest (R99). -/
def chunkRecords (p : Plan) (ps : Pass) (k : Chunk) (s : State) : List (List Byte) :=
  match ps.harvest, k.old with
  | some d, some L =>
    let c := ps.dwell.chan
    let cfg := match eraAt s.rmw.eras (d.start.getD 0) with | some (_, cfg) => cfg | none => {}
    let flags := s.dramNum (p.flagAddr c k.pos) 1
    let flags := if k.readUe && !flags.testBit 5 then flags + 32 else flags
    let defs := if flags.testBit 6 then (ps.olds.find? (·.1 = k.pos)).map (·.2) else none
    sumsRecords p c d cfg k.pos (s.dramNum (p.countAddr c k.pos) 4) flags L defs s
  | _, _ => []

/-- The chunk whose harvest records enter the queue next: in the order of issue when the pass folds a harvest (R106), else any
whose old sums have arrived. -/
def Pass.nextToQueue (ps : Pass) : Option Chunk := ps.flight.find? fun k => !k.queued && (ps.harvest.isSome || k.old.isSome)

/-- Chunks' harvest records enter the queue, each chunk's once, in the pass's processing order, while old sums have arrived
and there is room (R101, R106). Recurses on fuel: each turn queues a chunk. -/
def queueChunks (fuel : Nat) (p : Plan) (s : State) : State :=
  match fuel with
  | 0 => s
  | fuel + 1 =>
    match s.rmw.pass with
    | none => s
    | some ps =>
      match ps.nextToQueue with
      | none => s
      | some k =>
        if k.old.isNone then s
        else
          let recs := chunkRecords p ps k s
          if s.harvestRoom recs then
            let s := queueHarvest recs 0 s
            let defs := (recs.filter fun r => r.head? = some 0x33).length
            queueChunks fuel p (s.setPass (some { ps with
              records := ps.records + recs.length, deficits := ps.deficits + defs
              flight := ps.flight.map fun x => if x.pos = k.pos then { x with queued := true } else x }))
          else harvestStall ps.dwell s

/-- The same for every chunk in flight. -/
def tryQueue (p : Plan) (s : State) : State :=
  queueChunks (match s.rmw.pass with | some ps => ps.flight.length | none => 0) p s

/-- A chunk is marked SUM_LOST: status, event, freeze (R97, R339). -/
def sumLost (s : State) : State :=
  let was := s.rmw.sumLostSeen
  let s := { s with rmw := { s.rmw with sumLostSeen := true } }
  freezeOn 4 (if was then s else raiseEvent 8 s)

/-- An RMW_FAIL record (R333). -/
def journalRmwFail (p : Plan) (d : Dwell) (kind pos : Nat) (s : State) : State :=
  record 0x23 2 (le2 (p.sysChan d.chan) ++ le 1 kind ++ zeros 1 ++ le4 d.sweep ++ le4 pos ++ zeros 4) s

/-- R95, R97: a chunk's old sums arrive. A FRESH channel is not read; an uncorrectable read gives zero and marks the sum
or the harvested record. -/
def execChunkReadDone (pos : Nat) (errs : List (Nat × SymErrs)) (s : State) : Out :=
  .next (match s.rmw.pass with
    | none => s
    | some ps =>
      match s.planOf ps.dwell.ver, ps.flight.find? (·.pos = pos) with
      | some p, some k =>
        if !s.arraysRun || k.old.isSome then s
        else
          let desc := s.chanDesc ps.dwell.chan
          let a := p.chunkAddr ps.dwell.chan pos
          let (ue, s) :=
            if desc.fresh then (false, s)
            else (List.range (p.Z / 64)).foldl (fun (ue, s) u =>
              let e := match errs.find? (·.1 = u) with | some (_, e) => e | none => []
              let (m, s) := unitRead (a + 64 * u) e s
              (ue || m, s)) (false, memAccess 0 a p.Z s)
          let L := if desc.fresh || ue then List.replicate 1024 (0, 0) else sumsOf p.req.long (s.dramRead a p.Z)
          let s := if ue then sumLost (journalRmwFail p ps.dwell 1 pos (s.bump .mcRmwReadUe)) else s
          let ps := { ps with
            sumLost := ps.sumLost || ue
            flight := ps.flight.map fun x => if x.pos = pos then { x with old := some L, readUe := ue } else x }
          tryQueue p (s.setPass (some ps))
      | _, _ => s)

/-- The new sums of a chunk (R95): components clamped, and whether a clamp acted. -/
def newSums (long : Bool) (L : List (Int × Int)) (P : List Acc) : List (Int × Int) × Bool :=
  let lim : Int := if long then 2 ^ 63 - 1 else 2147483647
  let raw := L.zipWith (fun l a => (l.1 + a.re, l.2 + a.im)) P
  let out := raw.map fun v => (clampInt (-lim) lim v.1, clampInt (-lim) lim v.2)
  (out, out != raw)

/-- The count, flag byte and exception entry of a chunk reach DRAM (R91 to R93, R99); `lost` marks a failed write. -/
def writeMarks (p : Plan) (ps : Pass) (k : Chunk) (b : StagedPair) (clamped lost : Bool) (s : State) :
    State :=
  let c := ps.dwell.chan
  let total := (if ps.fresh then 0 else s.dramNum (p.countAddr c k.pos) 4) + b.count
  let held := total ≥ 2 ^ 32
  let old := if ps.fresh then 0 else s.dramNum (p.flagAddr c k.pos) 1
  let prov := p.provisional
  let sl := lost || (k.readUe && ps.harvest.isNone)
  let new := bitOf (b.overflow || clamped) + 2 * bitOf b.replayed + 4 * bitOf b.shadowMismatch +
    8 * bitOf (k.refused || held) + 16 * bitOf prov + 32 * bitOf sl + 64 * bitOf k.entry.isSome
  let s := dramStore (p.countAddr c k.pos) (le4 (min total (2 ^ 32 - 1))) s
  let s := dramStore (p.flagAddr c k.pos) (le 1 (old ||| new)) s
  let s := match k.entry, b.deficits with
    | some e, some ds =>
      let olds := if k.newEntry then List.replicate 1024 0
        else (List.range 1024).map fun i => s.dramNum (p.entryAddr c e + 4 * i) 4
      let s := dramStore (p.entryAddr c e) ((olds.zipWith (fun o d => le4 (o + d)) ds).flatten) s
      if k.newEntry then dramStore (p.dirAddr c e) (le8 (k.pos + 2 ^ 15)) s else s
    | _, _ => s
  match s.rmw.pass with
  | some q => s.setPass (some { q with coarse := q.coarse || held, sumLost := q.sumLost || lost })
  | none => s

/-- A chunk leaves flight as committed; further reads are issued (R94, R96). -/
def closeChunk (pos : Nat) (s : State) : State :=
  match s.rmw.pass with
  | none => s
  | some ps =>
    advancePass ((s.bump .mcRmwChunks).setPass (some { ps with
      flight := ps.flight.filter (·.pos ≠ pos), committed := ps.committed ++ [pos] }))

/-- R96: DRAM acknowledges every write of a chunk, whose harvest records are queued. -/
def execChunkCommit (pos : Nat) (s : State) : Out :=
  .next (match s.rmw.pass with
    | none => s
    | some ps =>
      match s.planOf ps.dwell.ver with
      | none => s
      | some p =>
        if !s.arraysRun then s
        else
          let s := tryQueue p s
          match s.rmw.pass, s.staged ps.dwell with
          | some ps, some x =>
            match ps.flight.find? (·.pos = pos), x.pairs.find? (·.pos = pos) with
            | some k, some b =>
              match k.old with
              | none => s
              | some L =>
                if !k.queued then s
                else
                  let L := if ps.harvest.isSome then List.replicate 1024 (0, 0) else L
                  let (N, cl) := newSums p.req.long L b.sums
                  let a := p.chunkAddr ps.dwell.chan pos
                  let s := dramStore a (sumBytes p.req.long N) (memAccess 0 a p.Z s)
                  let s := writeMarks p ps k b cl false s
                  closeChunk pos (if cl then s.bump .mcRmwSumClamp else s)
            | _, _ => s
          | _, _ => s)

/-- A repeat of a chunk's write is counted (R96, R97, R108). -/
def repeatChunk (pos : Nat) (s : State) : State :=
  match s.rmw.pass with
  | none => s
  | some ps => (s.bump .mcRmwRetry).setPass (some { ps with
      repeats := ps.repeats + bitOf (ps.flight.any fun x => x.pos = pos && x.repeats = 0)
      flight := ps.flight.map fun x => if x.pos = pos then { x with repeats := x.repeats + 1 } else x })

/-- A write of a chunk has failed once more (R97). -/
def countFail (pos : Nat) (s : State) : State :=
  match s.rmw.pass with
  | none => s
  | some ps => s.setPass (some { ps with flight := ps.flight.map fun x => if x.pos = pos then { x with fails := x.fails + 1 } else x })

/-- What DRAM holds after failed writes: each byte of the old or the new value (R97, log 8). -/
def mixBytes (idx : Nat) (old new : List Byte) : List Byte :=
  (old.zip new).zipIdx.map fun ((o, n), i) => if (Config.freeByte idx i).getLsbD 0 then n else o

/-- R97: a write is not acknowledged within 10 us. Four repeats, a repair, one more repeat; then SUM_LOST. -/
def execChunkWriteTimeout (pos : Nat) (s : State) : Out :=
  .next (match s.rmw.pass with
    | none => s
    | some ps =>
      match s.planOf ps.dwell.ver, s.staged ps.dwell, ps.flight.find? (·.pos = pos) with
      | some p, some x, some k =>
        let a := p.chunkAddr ps.dwell.chan pos
        match k.old, x.pairs.find? (·.pos = pos) with
        | some L, some b =>
          if !s.arraysRun || !k.queued then s
          else if k.fails < 4 then repeatChunk pos (countFail pos s)
          else if k.fails = 4 then repeatChunk pos (askRepair (chanOf a) (rowOf a) (countFail pos s))
          else
            let L := if ps.harvest.isSome then List.replicate 1024 (0, 0) else L
            let (N, cl) := newSums p.req.long L b.sums
            let (idx, s) := takeFree s
            let s := dramStore a (mixBytes idx (s.dramRead a p.Z) (sumBytes p.req.long N)) (memAccess 0 a p.Z s)
            let s := sumLost (journalRmwFail p ps.dwell 0 pos (s.bump .mcRmwWriteFail))
            closeChunk pos (writeMarks p ps k b cl true (if cl then s.bump .mcRmwSumClamp else s))
        | _, _ => s
      | _, _, _ => s)

/-- R96: the engine is reset; every chunk in flight restarts in issue order from the kept copies. Those whose write had
been issued are written again. -/
def execRmwEngineReset (s : State) : Out :=
  .next (match s.rmw.pass with
    | none => s
    | some ps =>
      if !s.arraysRun then s
      else takeAborted 0 <| (ps.flight.filter fun k => k.old.isSome && k.queued).foldl (fun s k => repeatChunk k.pos s) s)

/-! ### Commit (R96, R102, R335) -/

/-- The DWELL_COMMIT record (R335). -/
def journalCommitDwell (p : Plan) (x : Staged) (repeats flags : Nat) (s : State) : State :=
  record 0x21 2 (le2 (p.sysChan x.dwell.chan) ++ zeros 2 ++ le4 x.dwell.sweep ++ le8 p.version.toNat ++ le4 repeats ++
    le4 flags ++ le8 x.digest) s

/-- The almanac accepts a commit record of this size now; otherwise its writer waits (R333). -/
def State.commitRoom (s : State) : Bool := s.queueRoom { rn := 0, frc := 0, type := 0x21, src := 2, body := zeros 32 }

/-- A staging half is released. -/
def dropStaged (d : Dwell) (s : State) : State :=
  { s with xa := { s.xa with staging := s.xa.staging.filter (·.dwell != d) } }

/-- The END record and the EMPTY records that follow a folded harvest (R100, R106), once. -/
def endHarvest (p : Plan) (ps : Pass) (s : State) : Option State :=
  match ps.harvest with
  | none => some s
  | some d =>
    if ps.ended then some s
    else
      let c := ps.dwell.chan
      let first := d.start.getD 0
      let empties := emptyRecords p c s.rmw.eras (integsFrom ps.start s.rmw.eras (nextInteg s.rmw.eras first) ps.start) s
      let recs := endRecord p c d ps.records ps.deficits s :: empties
      if s.harvestRoom recs then some (queueHarvest recs empties.length s) else none

/-- The descriptor after a pass (R89, R91, R99). -/
def descAfter (ps : Pass) (d : ChanDesc) : ChanDesc :=
  let base : ChanDesc := if ps.fresh then { ver := ps.dwell.ver } else d
  { base with
    start := some ps.start, index := ps.index, dwells := base.dwells + 1, entries := ps.entries, fresh := false
    coarse := base.coarse + bitOf ps.coarse
    planChanged := base.planChanged || base.ver ≠ ps.dwell.ver, ver := ps.dwell.ver }

/-- R96: the dwell's chunks have all committed, or it was drained while no integration ran; the almanac accepts its commit
record, and its slot may be released (R48, R49). -/
def execDwellCommit (s : State) : Out :=
  .next (if !s.arraysRun then s
    else match s.rmw.pass with
      | some ps =>
        match s.planOf ps.dwell.ver, s.staged ps.dwell with
        | some p, some x =>
          if ps.committed.length < x.pairs.length then s
          else match endHarvest p ps s with
            | none => harvestStall ps.dwell s
            | some s =>
              if !s.commitRoom then
                (s.setPass (some { ps with ended := true })).bump .genAlmQueueFull
              else
                let flags := bitOf ps.coarse + 2 * bitOf x.tallyOver + 4 * bitOf ps.harvest.isSome + 8 * bitOf ps.sumLost
                let s := journalCommitDwell p x ps.repeats flags s
                let s := if ps.coarse then s.bump .mcRmwCoarseDwell else s
                let late := decide (p.dNum < ((s.now - x.boundaryAt) * 2 + 20000) * p.dDen)
                let was := s.rmw.commitLate
                let s := if late then { s with rmw := { s.rmw with commitLate := true } }.bump .mcRmwLateCommit else s
                let s := if late && !was then raiseEvent 8 s else s
                let s := s.setDesc ps.dwell.chan (descAfter ps (s.chanDesc ps.dwell.chan))
                let s := commitSlot ps.dwell (dropStaged ps.dwell (s.setPass none))
                if s.gk.commitWait then endStopWait false s else s
        | _, _ => s
      | none =>
        match s.xa.staging.find? fun x => !x.add && x.drained && x.pairs.all (·.ready) with
        | none => s
        | some x =>
          match s.planOf x.dwell.ver with
          | none => s
          | some p =>
            if !s.commitRoom then s.bump .genAlmQueueFull
            else commitSlot x.dwell (dropStaged x.dwell (journalCommitDwell p x 0 (2 * bitOf x.tallyOver + 16) s)))

/-! ### Flush passes (R102, R158) -/

/-- The flush is over: BACKGROUND; integrations asked for meanwhile start at the first sweep boundary (R102, R158). -/
def endFlush (s : State) : State :=
  let s := raiseEvent 4 { s with
    rmw := { s.rmw with flushPlan := none, stopAt := none }
    plan := { s.plan with flushing := false } }
  match s.rmw.startAt, s.plan.active with
  | some k, some p => startIntegrations p (some (max k s.nextSweep)) (s.rmw.nextCfg.getD s.integCfg) s
  | _, _ => s

/-- Flush passes begin: integrations have ended and every earlier dwell has committed. -/
def beginFlush (p : Plan) (s : State) : State :=
  let s := { s with rmw := { s.rmw with running := false, flushLeft := List.range p.C, flushPlan := some p } }
  if p.C = 0 then endFlush s else s

/-- A flush pass reads a chunk: an uncorrectable or poisoned unit gives zero sums and SUM_LOST (R97, R283). -/
def flushRead (p : Plan) (c pos : Nat) (ue : Bool) (s : State) : Bool × State :=
  (List.range (p.Z / 64)).foldl (fun (x : Bool × State) u =>
    let (m, s) := unitRead (p.chunkAddr c pos + 64 * u) [] x.2
    (x.1 || m, s)) (ue, memAccess 0 (p.chunkAddr c pos) p.Z s)

/-- The records of one chunk enter the queue when they fit; the records and the DEFICITS among them. -/
def flushChunk (p : Plan) (c : Nat) (d : ChanDesc) (cfg : IntegCfg) (ue : Bool) (pos : Nat) (s : State) : Option (Nat × Nat × State) :=
  let flags := s.dramNum (p.flagAddr c pos) 1
  let defs := if flags.testBit 6 then oldDeficits p c pos d.entries s else none
  let recs (flags : Nat) (L : List (Int × Int)) (s : State) : List (List Byte) :=
    sumsRecords p c d cfg pos (s.dramNum (p.countAddr c pos) 4) flags L defs s
  let zero := List.replicate 1024 ((0, 0) : Int × Int)
  if !s.harvestRoom (recs flags zero s) then none
  else
    let (bad, s) := flushRead p c pos ue s
    let rs := if bad then recs (if flags.testBit 5 then flags else flags + 32) zero s
      else recs flags (sumsOf p.req.long (s.dramRead (p.chunkAddr c pos) p.Z)) s
    let at_ : Dwell := { ver := p.version, chan := c, sweep := d.start.getD 0 }
    let s := if bad then sumLost (journalRmwFail p at_ 1 pos (s.bump .mcRmwReadUe)) else s
    some (rs.length, bitOf defs.isSome, queueHarvest rs 0 s)

/-- The flush pass of a channel goes on while its records fit: INPUT_COUNTS, then block pairs in POS order (R101, R102, R106);
the answer says how far it came. Recurses on fuel. -/
def flushGo (fuel : Nat) (p : Plan) (c : Nat) (d : ChanDesc) (cfg : IntegCfg) (ue : List Nat) (s : State) : State :=
  match fuel with
  | 0 => s
  | fuel + 1 =>
    let r := s.rmw.flush
    let goOn (n k : Nat) (s : State) : State :=
      flushGo fuel p c d cfg ue { s with rmw := { s.rmw with
        flush := { r with next := r.next + 1, records := r.records + n, deficits := r.deficits + k } } }
    if r.next = 0 then
      let ins := inputRecords p c d s
      if s.harvestRoom ins then goOn ins.length 0 (queueHarvest ins 0 s) else s
    else if r.next ≤ p.P then
      match flushChunk p c d cfg (ue.contains (r.next - 1)) (r.next - 1) s with
      | some (n, k, s) => goOn n k s
      | none => s
    else s

/-- The flush pass of channel `c` has come to its end and its last records fit: END and the EMPTY records of integrations with
no present dwell; the channel is FRESH (R100, R102). -/
def flushEnd (p : Plan) (c : Nat) (rest : List Nat) (d : ChanDesc) (s : State) : Option State :=
  let stop := s.rmw.stopAt.getD 0
  let first := d.start.getD stop
  let done := d.fresh || decide (p.P < s.rmw.flush.next)
  let end_ := if d.fresh then [] else [endRecord p c d s.rmw.flush.records s.rmw.flush.deficits s]
  let from_ := if d.fresh then first else nextInteg s.rmw.eras first
  let empties := emptyRecords p c s.rmw.eras (integsFrom stop s.rmw.eras from_ stop) s
  if !done || !s.harvestRoom (end_ ++ empties) then none
  else
    let s := ((queueHarvest (end_ ++ empties) empties.length s).bump .mcRmwFlush).setDesc c {}
    let s := { s with rmw := { s.rmw with flushLeft := rest, chan := c, flush := {} } }
    some (if rest.isEmpty then endFlush s else s)

/-- R102: the flush pass of the next channel reads its chunks, sends its harvest, writes nothing and sets FRESH. A full harvest
queue stalls it (R101): it goes on with the next FLUSH_PASS, or as the queue drains (log 33). -/
def execFlushPass (ue : List Nat) (s : State) : Out :=
  .next (match s.rmw.flushLeft, s.rmw.flushPlan with
    | c :: rest, some p =>
      if !s.arraysRun || s.rmw.pass.isSome || s.xa.staging.any (·.add) then s
      else
        let d := s.chanDesc c
        let cfg := match eraAt s.rmw.eras (d.start.getD (s.rmw.stopAt.getD 0)) with | some (_, cfg) => cfg | none => {}
        let bad := s.rmw.flush.ue ++ ue
        let s := { s with rmw := { s.rmw with flush := { s.rmw.flush with ue := bad } } }
        let s := if d.fresh then s else flushGo (p.P + 1) p c d cfg bad s
        match flushEnd p c rest d s with
        | some s => s
        | none =>
          if s.rmw.flush.stalled then s
          else { s with rmw := { s.rmw with flush := { s.rmw.flush with stalled := true } } }.bump .mcHvQueueStall
    | _, _ => s)

/-! ### INTEG commands (R90, R102 to R104, R139, R404) -/

/-- A command of class 0x03 or 0x04 while no plan is active (R404). -/
def needPlan (f : Plan → Ctx → State → State × Answer) (c : Ctx) (s : State) : State × Answer :=
  match s.plan.active with
  | none => (s, ansBusy s.planCode)
  | some p => f p c s

/-- The parameters of INTEG_CFG. -/
def integParams (par : List Byte) : IntegCfg :=
  { len := fieldAt 0 4 par, width := fieldAt 4 1 par, shiftAuto := fieldAt 5 1 par, shiftCross := fieldAt 6 1 par }

/-- The refusals of INTEG_CFG (R103). -/
def integRefusal (p : Plan) (c : IntegCfg) (s : State) : Option Answer :=
  if c.len < 1 || c.len > (2 ^ 32 - 1) / p.req.T then some (ansField 32)
  else if c.width > 2 || (p.req.long && c.width = 0) || (!p.req.long && c.width = 2) then some (ansField 36)
  else if c.shiftAuto > 63 then some (ansField 37)
  else if c.shiftCross > 63 then some (ansField 38)
  else if c.width > p.req.harvestWidth && !p.egressOn c.width p.req.beamWidth (egressLanes p.roles).length s then
    some (ansField 36)
  else none

/-- Integrations run and are not being stopped (the first column of R102). -/
def State.integrating (s : State) : Bool := s.rmw.running && s.rmw.stopAt.isNone

/-- The first integration boundary at or after a sweep (R90, R103). -/
def State.integBoundary (s : State) (r : Nat) : Option Nat :=
  if !s.integrating then none
  else match integAt s.rmw.eras r with
    | some (_, a, _) => some (if a = r then r else nextInteg s.rmw.eras a)
    | none => match s.rmw.eras.head? with | some e => e.start | none => none

/-- EFFECTIVE_SAMPLE of a boundary, or all ones (R102). -/
def effBytes (p : Plan) (k : Option Nat) : List Byte := le8 (match k with | some k => k * p.req.T | none => 2 ^ 64 - 1)

/-- New integration parameters act at sweep `r` (R90, R102). An INTEG_CFG that leaves L as it was is taken like any other: k and
s0 restart at the boundary (DESIGN CHOICE, log 128). -/
def applyInteg (c : IntegCfg) (r : Nat) (s : State) : State :=
  if !s.integrating then { s with rmw := { s.rmw with nextCfg := some c } }
  else match s.integBoundary r with
    | none => { s with rmw := { s.rmw with eras := [{ start := none, cfg := c }] } }
    | some k =>
      let keep := s.rmw.eras.filter fun e => match e.start with | some a => decide (a < k) | none => true
      { s with rmw := { s.rmw with eras := keep ++ [{ start := some k, cfg := c }] } }

/-- The sweep of a cue's point. -/
def sweepOf (p : Plan) (point : Nat) : Nat := point / p.req.T

/-- INTEG_CFG. -/
def opIntegCfg : OpDef :=
  { code := 0x0301, cue := some .sweep, form := formLen 8, res0 := firstRes0 [(7, 1)]
    run := needPlan fun p c s =>
      let g := integParams c.par
      match integRefusal p g s with
      | some a => (s, a)
      | none => (applyInteg g s.nextSweep s, ansOk (effBytes p (s.integBoundary s.nextSweep)))
    accept := fun c pt s => needPlan (fun p c s =>
      let g := integParams c.par
      match integRefusal p g s with
      | some a => (s, a)
      | none => (s, ansOk (effBytes p (s.integBoundary (sweepOf p pt))))) c s
    atPoint := fun c s => match s.plan.active with
      | some _ => applyInteg (integParams c.par) (s.xa.startedSweep.getD 0) s
      | none => s }

/-- R90, R103. -/
def execIntegCfg (k : KcpIn) (s : State) : Out := .next (kcpCommand opIntegCfg k s)

/-- INTEG_START acts for sweep `r` (the table of R102). -/
def startInteg (r : Nat) (s : State) : State :=
  match s.plan.active with
  | none => s
  | some p =>
    if s.integrating then s
    else if s.rmw.stopAt.isSome || !s.rmw.flushLeft.isEmpty then { s with rmw := { s.rmw with startAt := some r } }
    else startIntegrations p (some r) (s.rmw.nextCfg.getD s.integCfg) s

/-- INTEG_START. -/
def opIntegStart : OpDef :=
  { code := 0x0302, cue := some .sweep, form := formLen 0
    run := needPlan fun _ _ s => (startInteg s.nextSweep s, ansOk)
    accept := fun c _ s => needPlan (fun _ _ s => (s, ansOk)) c s
    atPoint := fun _ s => startInteg (s.xa.startedSweep.getD 0) s }

/-- R102. -/
def execIntegStart (k : KcpIn) (s : State) : Out := .next (kcpCommand opIntegStart k s)

/-- Every integration ends at sweep boundary `r` (R102, R158). Integrations that have not begun end at once. -/
def stopInteg (r : Nat) (s : State) : State :=
  if !s.integrating then s else { s with rmw := { s.rmw with stopAt := some r } }

/-- INTEG_STOP as a cue runs at the first boundary of its sweep, whose first dwell is not added: the flush passes follow the
passes of the dwells before it (R102, R209). -/
def stopIntegAt (r : Nat) (s : State) : State :=
  let s := stopInteg r s
  match s.plan.active, s.rmw.stopAt with
  | some p, some k => if s.rmw.running && decide (k ≤ r) then beginFlush p s else s
  | _, _ => s

/-- INTEG_STOP. -/
def opIntegStop : OpDef :=
  { code := 0x0303, cue := some .sweep, form := formLen 0
    run := needPlan fun _ _ s => (stopInteg s.nextSweep s, ansOk)
    accept := fun c _ s => needPlan (fun _ _ s => (s, ansOk)) c s
    atPoint := fun _ s => stopIntegAt (s.xa.startedSweep.getD 0) s }

/-- R102. -/
def execIntegStop (k : KcpIn) (s : State) : Out := .next (kcpCommand opIntegStop k s)

/-- A channel descriptor in 32 bytes (R89; layout log 12). -/
def descBytes (d : ChanDesc) : List Byte :=
  le4 d.index ++ le4 d.dwells ++ le2 d.entries ++ le2 0 ++ le4 d.coarse ++
    le 1 (bitOf d.fresh + 2 * bitOf d.planChanged) ++ zeros 3 ++ le8 d.ver.toNat ++ zeros 4

/-- INTEG_STATUS_GET: descriptors of COUNT channels from FIRST_CHANNEL, paged. -/
def opIntegStatusGet : OpDef :=
  { code := 0x0304, form := formLen 8
    run := needPlan fun p c s =>
      let f := fieldAt 0 2 c.par
      let n := fieldAt 2 2 c.par
      if f ≥ p.C then (s, ansField 32)
      else if f + n > p.C then (s, ansField 34)
      else
        let ds := (List.range n).map fun i => s.chanDesc (f + i)
        (s, { status := if ds.any (fun d => d.coarse > 0) then .countCoarse else .ok,
              result := paged (fieldAt 4 4 c.par) (ds.map descBytes).flatten }) }

/-- R89. -/
def execIntegStatusGet (k : KcpIn) (s : State) : Out := .next (kcpCommand opIntegStatusGet k s)

/-- R108: MC_RMW_CNT_CLR. -/
def execMcRmwCntClr (value : W32) (s : State) : Out :=
  .next (overBus (clearOn 0x200C 0x2038 value) s)

/-- MC_RMW_STATUS. -/
def rmwStatus (s : State) : W32 :=
  let (act, harv, n) := match s.rmw.pass with
    | some p => (1, bitOf p.harvest.isSome, p.flight.length)
    | none => (0, 0, 0)
  BitVec.ofNat 32 (act + 2 * harv + 4 * bitOf (!s.rmw.flushLeft.isEmpty) + 8 * bitOf s.rmw.commitLate +
    16 * bitOf s.rmw.sumLostSeen + 256 * n + 65536 * s.rmw.chan)

end Sys2Proof.Machine
end

