-- ==== Sys2Proof/Machine/Beams.lean ====
section
/-! DEFINITION. The B array (R109 to R127): descriptors and tables, weights, swaps and cross-fades, requantisation, beam
records, and the phasor table that the riddle shares. -/

namespace Sys2Proof.Machine
open Sys2Proof

/-! ### Phasors (R117) -/

/-- π in units of 2^-64. -/
def piFix : Nat := 57952155664616982739

/-- Terms of the cosine series from `t`, alternating. Recurses on fuel: 14 terms hold 2^-64 on a quarter turn. -/
def cosTerms (fuel n x2 t : Nat) (plus : Bool) (acc : Int) : Int :=
  match fuel with
  | 0 => acc
  | fuel + 1 =>
    let t := t * x2 / 2 ^ 64 / ((2 * n + 1) * (2 * n + 2))
    cosTerms fuel (n + 1) x2 t (!plus) (if plus then acc + t else acc - t)

/-- cos(2πk / 4,096) in units of 2^-64, for k from 0 to 1,024. -/
def cosQuarter (k : Nat) : Int :=
  let x := piFix * k / 2048
  cosTerms 14 0 (x * x / 2 ^ 64) (2 ^ 64) false (2 ^ 64)

/-- cos(2πk / 4,096) in units of 2^-64. -/
def cosFix (k : Nat) : Int :=
  let k := k % 4096
  if k ≤ 1024 then cosQuarter k
  else if k ≤ 2048 then -cosQuarter (2048 - k)
  else if k ≤ 3072 then -cosQuarter (k - 2048)
  else cosQuarter (4096 - k)

/-- C_k of the phasor table (R117). -/
def phasorCos (k : Nat) : Int := (2 * 32767 * cosFix k + 2 ^ 64) / 2 ^ 65
/-- S_k of the phasor table (R117). -/
def phasorSin (k : Nat) : Int := phasorCos (k + 3072)

/-! ### Tables and descriptors (R110 to R115) -/

/-- A bit of a bitmap. -/
def mapBit (bs : List Byte) (i : Nat) : Bool := (bs.getD (i / 8) 0).getLsbD (i % 8)

/-- A beam's descriptor. -/
def BeamTables.beam (t : BeamTables) (b : Nat) : BeamDesc :=
  match t.desc.find? (·.1 = b) with | some (_, d) => d | none => {}

/-- Change a beam's descriptor. -/
def BeamTables.onBeam (t : BeamTables) (b : Nat) (f : BeamDesc → BeamDesc) : BeamTables :=
  { t with desc := (b, f (t.beam b)) :: t.desc.filter (·.1 ≠ b) }

/-- The beam is formed on a local channel. -/
def BeamDesc.on (d : BeamDesc) (c : Nat) : Bool := d.mode != .off && mapBit d.chans c

/-- Beams enabled on a local channel, ascending. -/
def BeamTables.enabled (t : BeamTables) (c : Nat) : List Nat := (List.range 256).filter fun b => (t.beam b).on c

/-- Address of a gain in the beam-table backing store (R112, R113; the order in the store is the model's choice, log 80). -/
def Plan.gainAddr (p : Plan) (bank : Bool) (c i : Nat) : Nat := p.base 1 + 4 * ((bitOf bank * 4096 + c) * 4096 + i)

/-- A gain held back from the store's new content until the next sweep. -/
def State.heldGain (s : State) (bank : Bool) (c i : Nat) : Option (Int × Int) :=
  (s.beams.gainHold.find? fun g => g.bank = bank && g.chan = c && g.input = i).map fun g => (g.re, g.im)

/-- The gains of a bank of a channel as the store holds them. -/
def State.storedGains (s : State) (p : Plan) (bank : Bool) (c : Nat) : List (Int × Int) :=
  let bs := s.dramRead (p.gainAddr bank c 0) (4 * p.inputs)
  (List.range p.inputs).map fun i => (intAt (4 * i) 2 bs, intAt (4 * i + 2) 2 bs)

/-- The gains of a bank of a channel that are in effect (R115). -/
def State.gainsNow (s : State) (p : Plan) (bank : Bool) (c : Nat) : List (Int × Int) :=
  if s.beams.gainHold.isEmpty then s.storedGains p bank c
  else (s.storedGains p bank c).zipIdx.map fun (g, i) => (s.heldGain bank c i).getD g

/-- The beam-table loader copies both gain banks of a channel into the working set, which holds two channels (R112). -/
def loadGains (p : Plan) (c : Nat) (s : State) : State :=
  let s := memAccess 3 (p.gainAddr true c 0) (4 * p.inputs) (memAccess 3 (p.gainAddr false c 0) (4 * p.inputs) s)
  let new : GainRows := { chan := c, bankA := s.gainsNow p false c, bankB := s.gainsNow p true c }
  { s with beams := { s.beams with gainWork := s.beams.gainWork.getLast?.toList ++ [new] } }

/-- A bank of a channel in the working set. -/
def State.workGains (s : State) (bank : Bool) (c : Nat) : List (Int × Int) :=
  match s.beams.gainWork.reverse.find? (·.chan = c) with
  | some g => if bank then g.bankB else g.bankA
  | none => []

/-- The delay coefficients of (epoch, beam, input). -/
def BeamTables.delay (t : BeamTables) (epoch : Bool) (b i : Nat) : Int × Int × Int :=
  match t.delays.find? fun g => g.epoch = epoch && g.beam = b && g.input = i with
  | some g => (g.c0, g.c1, g.c2)
  | none => (0, 0, 0)

/-- The direct weight of (bank, beam, input). -/
def BeamTables.directWeight (t : BeamTables) (bank : Bool) (b i : Nat) : Int × Int :=
  match t.direct.find? fun g => g.bank = bank && g.beam = b && g.input = i with
  | some g => (g.re, g.im)
  | none => (0, 0)

/-- The frequency of a local channel, 2^-16 Hz. -/
def BeamTables.freq (t : BeamTables) (c : Nat) : Int := match t.freqs.find? (·.1 = c) with | some (_, f) => f | none => 0

/-- k of R111. -/
def beamK (inputs : Nat) : Nat := if inputs ≤ 1024 then 4 else if inputs ≤ 2048 then 2 else 1

/-- t_B of R111 for `n` beams, in XCLK cycles. -/
def beamTime (p : Plan) (n : Nat) : Nat :=
  let den := 40 * beamK p.inputs
  p.U * ((256 * (if p.req.wide then 2 else 1) * (n + p.req.fadeSlots) + den - 1) / den)

/-- A number of XCLK cycles (0.625 ns) is at most D. -/
def Plan.fitsD (p : Plan) (cycles : Nat) : Bool := decide (5 * cycles * p.dDen ≤ 8 * p.dNum)


/-- The tables as written change (R115). -/
def State.writeTables (s : State) (f : BeamTables → BeamTables) : State :=
  { s with beams := { s.beams with next := f s.beams.next } }

/-- EFFECTIVE_SAMPLE of a table write (R115). -/
def State.effSample (s : State) : Answer := ansOk (le8 s.beams.weightEnd)

/-- Apply one item of R110; none when the ID, the length or the value is not acceptable. A shorter CHANNELS bitmap is
filled with zeros (log 11). -/
def beamItem (id : Nat) (v : List Byte) (d : BeamDesc) : Option BeamDesc :=
  let n := unle v
  match id with
  | 1 => if v.length = 1 ∧ n ≤ 2 then
           some { d with mode := match n with | 0 => .off | 1 => .poly | _ => .direct } else none
  | 2 => if v.length = 1 ∧ n ≤ 1 then some { d with wide := n = 1 } else none
  | 3 => if v.length = 1 ∧ n ≤ 31 then some { d with bshift := n } else none
  | 4 => if v.length = 2 ∧ n ≤ 4096 then some { d with minValid := n } else none
  | 5 => if v.length = 1 ∧ n ≤ 1 then some { d with egress := n = 1 } else none
  | 6 => if v.length ≤ 512 then some { d with chans := v } else none
  | _ => none

/-- Apply descriptor items in order; the offset of the first that fails. -/
def beamItems : List (Nat × Nat × List Byte) → BeamDesc → BeamDesc ⊕ Nat
  | [], d => .inl d
  | (id, off, v) :: rest, d =>
    match beamItem id v d with
    | some d => beamItems rest d
    | none => .inr off

/-- The channel frequencies of item 0x0100: (channel, value), or none when the item does not fit the plan. -/
def freqItem (p : Plan) (v : List Byte) : Option (List (Nat × Int)) :=
  let f := fieldAt 0 2 v
  let n := (v.length - 4) / 8
  if v.length < 4 || v.length ≠ 4 + 8 * n || fieldAt 2 2 v ≠ 0 || f + n > p.layout.length then none
  else some ((List.range n).map fun i => (f + i, intAt (4 + 8 * i) 8 v))

/-- The offset of an item that may enable beams: CHANNELS, else MODE, else FIRST_BEAM. -/
def enableOffset (items : List (Nat × Nat × List Byte)) : Nat :=
  match items.find? (·.1 = 6), items.find? (·.1 = 1) with
  | some (_, o, _), _ => o
  | none, some (_, o, _) => o
  | none, none => 32

/-- An item that does not fit the plan: a CHANNELS bit or a frequency of a channel that is no local channel (log 11). -/
def misfits (p : Plan) (x : Nat × Nat × List Byte) : Bool :=
  if x.1 = 6 then decide (2 ^ p.layout.length ≤ unle x.2.2) else x.1 == 0x0100 && (freqItem p x.2.2).isNone

/-- The frequencies that BEAM_CFG writes, or the offset of the first item that does not fit the plan. -/
def beamFreqs (p : Plan) (items : List (Nat × Nat × List Byte)) : List (Nat × Int) ⊕ Nat :=
  match items.find? (misfits p) with
  | some (_, o, _) => .inr o
  | none => .inl (match items.find? (·.1 = 0x0100) with | some (_, _, v) => (freqItem p v).getD [] | none => [])

/-- The items of BEAM_CFG that are the descriptor's. -/
def descItems (items : List (Nat × Nat × List Byte)) : List (Nat × Nat × List Byte) := items.filter (·.1 ≠ 0x0100)

/-- A descriptor with the items applied. -/
def withBeamItems (items : List (Nat × Nat × List Byte)) (d : BeamDesc) : BeamDesc :=
  match beamItems (descItems items) d with | .inl d => d | .inr _ => d

/-- The tables with the descriptors of `n` beams from `first` and some channel frequencies written. -/
def beamCfgTables (first n : Nat) (items : List (Nat × Nat × List Byte)) (fs : List (Nat × Int)) (t : BeamTables) : BeamTables :=
  let t := (List.range n).foldl (fun t i => t.onBeam (first + i) (withBeamItems items)) t
  { t with freqs := fs ++ t.freqs.filter fun x => !(fs.any (·.1 = x.1)) }

/-- The enabled beams would exceed what the plan allows (R111, R139): a channel gains beams beyond BEAM_BUDGET or beyond D, or, where
beams are written, the most on a channel does not fit D. -/
def beamsOver (p : Plan) (n : Nat) (a b : BeamTables) : Bool :=
  let most := ((List.range p.layout.length).map fun ch => (b.enabled ch).length).foldl max 0
  (List.range p.layout.length).any (fun ch =>
    decide ((a.enabled ch).length < (b.enabled ch).length ∧
      (p.req.beamBudget < (b.enabled ch).length ∨ !p.fitsD (beamTime p (b.enabled ch).length) = true))) ||
  (!p.fitsD (beamTime p most) && n > 0)

/-- The offset of an item that asks for wide records which the egress lanes cannot carry (R30). -/
def widerRefused (p : Plan) (items : List (Nat × Nat × List Byte)) (s : State) : Option Nat :=
  match items.find? (·.1 = 2) with
  | some (_, o, v) => if unle v = 1 && p.req.beamWidth = 0 &&
      !p.egressOn p.req.harvestWidth 1 (egressLanes p.roles).length s then some o else none
  | none => none

/-- BEAM_CFG (R110, R111, R139). -/
def beamCfgRun (p : Plan) (c : Ctx) (s : State) : State × Answer :=
  let first := fieldAt 0 2 c.par
  let n := fieldAt 2 2 c.par
  match parseItems c.par.length 36 (c.par.drop 4) with
  | (none, o) => (s, ansField o)
  | (some items, _) =>
    match repeatedItem items [] with
    | some o => (s, ansField o)
    | none =>
      if first ≥ 256 then (s, ansField 32)
      else if first + n > 256 then (s, ansField 34)
      else
        match beamItems (descItems items) {}, beamFreqs p items with
        | .inr o, .inr o' => (s, ansField (min o o'))
        | .inr o, .inl _ => (s, ansField o)
        | .inl _, .inr o => (s, ansField o)
        | .inl _, .inl fs =>
          let t := beamCfgTables first n items fs s.beams.next
          if beamsOver p n s.beams.next t then (s, ansField (enableOffset items))
          else match widerRefused p items s with
            | some o => (s, ansField o)
            | none => (s.writeTables fun _ => t, s.effSample)

/-- BEAM_CFG. -/
def opBeamCfg : OpDef :=
  { code := 0x0401, b := true, form := formItems 4, run := needPlan beamCfgRun }

/-- R110. -/
def execBeamCfg (k : KcpIn) (s : State) : Out := .next (kcpCommand opBeamCfg k s)

/-! ### Swaps (R120 to R124) -/

/-- The swaps of a beam, in order. -/
def State.swapsOf (s : State) (b : Nat) : List Swap := s.beams.swaps.filter (·.beam = b)
/-- The sample after a swap's last (R121). -/
def Swap.stop (x : Swap) : Nat := x.s0 + max x.k 1
/-- The weight set a beam ends on after its swaps. -/
def State.endSet (s : State) (b : Nat) : Bool × Bool :=
  match (s.swapsOf b).getLast? with
  | some x => (x.bank, x.epoch)
  | none => let d := s.beams.next.beam b; (d.bank, d.epoch)

/-- Weight sets that a beam's swaps engage, sources and targets (R124). -/
def State.engagedSets (s : State) (b : Nat) : List (Bool × Bool) :=
  let d := s.beams.next.beam b
  match s.swapsOf b with
  | [] => []
  | xs => (d.bank, d.epoch) :: xs.map fun x => (x.bank, x.epoch)

/-- A gain bank is engaged: some beam whose weights come from gains swaps from or to it (R124). -/
def State.gainBusy (s : State) (bank : Bool) : Bool :=
  s.beams.swaps.any fun x => (s.beams.next.beam x.beam).mode != .direct && (s.engagedSets x.beam).any (·.1 = bank)
/-- A beam's direct bank is engaged (R124). -/
def State.directBusy (s : State) (b : Nat) (bank : Bool) : Bool :=
  (s.beams.next.beam b).mode == .direct && (s.engagedSets b).any (·.1 = bank)
/-- A beam's delay epoch is engaged (R124). -/
def State.epochBusy (s : State) (b : Nat) (e : Bool) : Bool := (s.engagedSets b).any (·.2 = e)

/-- A write to an engaged bank or epoch (R124). -/
def bankBusy (s : State) : State × Answer := (s.bump .bfBankBusy, ansRefuse .bankBusy)

/-- Gains enter the backing store; what they replace acts until the next sweep (R112, R115). -/
def writeGains (p : Plan) (bank : Bool) (ch f n : Nat) (bs : List Byte) (s : State) : State :=
  let olds := s.gainsNow p bank ch
  let held := ((List.range n).map fun i =>
    let g := olds.getD (f + i) (0, 0)
    { bank := bank, chan := ch, input := f + i, re := g.1, im := g.2 : GainEntry }).filter fun g => (s.heldGain bank ch g.input).isNone
  let s := memAccess 5 (p.gainAddr bank ch f) (4 * n) s
  dramStore (p.gainAddr bank ch f) bs { s with beams := { s.beams with gainHold := s.beams.gainHold ++ held } }

/-- BEAM_GAIN_WRITE (R113, R114). -/
def gainWriteRun (p : Plan) (c : Ctx) (s : State) : State × Answer :=
  let bank := fieldAt 0 1 c.par
  let ch := fieldAt 2 2 c.par
  let f := fieldAt 4 2 c.par
  let n := fieldAt 6 2 c.par
  if bank > 1 then (s, ansField 32)
  else if ch ≥ p.layout.length then (s, ansField 34)
  else if f ≥ p.inputs then (s, ansField 36)
  else if f + n > p.inputs then (s, ansField 38)
  else if s.gainBusy (bank = 1) then bankBusy s
  else (writeGains p (bank = 1) ch f n (slice 8 (4 * n) c.par) s, s.effSample)

/-- BEAM_GAIN_WRITE. -/
def opBeamGainWrite : OpDef :=
  { code := 0x0402, b := true, form := fun p => decide (8 ≤ p.length ∧ p.length = 8 + 4 * fieldAt 6 2 p)
    res0 := firstRes0 [(1, 1)], run := needPlan gainWriteRun }

/-- R113. -/
def execBeamGainWrite (k : KcpIn) (s : State) : Out := .next (kcpCommand opBeamGainWrite k s)

/-- BEAM_DELAY_WRITE (R113, R114). -/
def delayWriteRun (p : Plan) (c : Ctx) (s : State) : State × Answer :=
  let b := fieldAt 0 2 c.par
  let e := fieldAt 2 1 c.par
  let set := fieldAt 3 1 c.par
  let f := fieldAt 12 2 c.par
  let n := fieldAt 14 2 c.par
  if b ≥ 256 then (s, ansField 32)
  else if e > 1 then (s, ansField 34)
  else if set > 1 then (s, ansField 35)
  else if f ≥ p.inputs then (s, ansField 44)
  else if f + n > p.inputs then (s, ansField 46)
  else if s.epochBusy b (e = 1) then bankBusy s
  else
    let new := (List.range n).map fun i =>
      { epoch := e = 1, beam := b, input := f + i, c0 := intAt (20 + 12 * i) 5 c.par, c1 := intAt (25 + 12 * i) 4 c.par,
        c2 := intAt (29 + 12 * i) 3 c.par : DelayEntry }
    let t := BitVec.ofNat 64 (fieldAt 4 8 c.par)
    (s.writeTables fun x =>
      let x := { x with delays := new ++ x.delays.filter fun g =>
        !(g.epoch = (e = 1) && g.beam = b && decide (f ≤ g.input ∧ g.input < f + n)) }
      if set = 1 then x.onBeam b fun d => if e = 1 then { d with tref1 := t } else { d with tref0 := t } else x,
     s.effSample)

/-- BEAM_DELAY_WRITE. -/
def opBeamDelayWrite : OpDef :=
  { code := 0x0403, b := true, form := fun p => decide (20 ≤ p.length ∧ p.length = 20 + 12 * fieldAt 14 2 p)
    res0 := firstRes0 [(16, 4)], run := needPlan delayWriteRun }

/-- R113. -/
def execBeamDelayWrite (k : KcpIn) (s : State) : Out := .next (kcpCommand opBeamDelayWrite k s)

/-- BEAM_DIRECT_WRITE (R113, R114): the code -128 is refused. -/
def directWriteRun (p : Plan) (c : Ctx) (s : State) : State × Answer :=
  let b := fieldAt 0 2 c.par
  let bank := fieldAt 2 1 c.par
  let f := fieldAt 4 2 c.par
  let n := fieldAt 6 2 c.par
  if b ≥ 256 then (s, ansField 32)
  else if bank > 1 then (s, ansField 34)
  else if f ≥ p.inputs then (s, ansField 36)
  else if f + n > p.inputs then (s, ansField 38)
  else match (List.range (2 * n)).find? fun i => intAt (8 + i) 1 c.par = -128 with
    | some i => (s, ansField (40 + i))
    | none =>
      if s.directBusy b (bank = 1) then bankBusy s
      else
        let new := (List.range n).map fun i =>
          { bank := bank = 1, beam := b, input := f + i, re := intAt (8 + 2 * i) 1 c.par,
            im := intAt (9 + 2 * i) 1 c.par : DirectEntry }
        (s.writeTables fun t => { t with direct := new ++ t.direct.filter fun g =>
            !(g.bank = (bank = 1) && g.beam = b && decide (f ≤ g.input ∧ g.input < f + n)) }, s.effSample)

/-- BEAM_DIRECT_WRITE. -/
def opBeamDirectWrite : OpDef :=
  { code := 0x0404, b := true
    form := fun p => decide (8 ≤ p.length ∧ p.length = 8 + (2 * fieldAt 6 2 p + 3) / 4 * 4)
    res0 := firstRes0 [(3, 1)], run := needPlan directWriteRun }

/-- R113. -/
def execBeamDirectWrite (k : KcpIn) (s : State) : Out := .next (kcpCommand opBeamDirectWrite k s)

/-- The most fades of other swaps that overlap one sample of `s0` to `s0 + k - 1` (R122): it is reached at `s0` or where
one of them starts. -/
def State.fadeLoad (s : State) (s0 k : Nat) : Nat :=
  let fs := s.beams.swaps.filter fun x => decide (0 < x.k ∧ x.s0 < s0 + k ∧ s0 < x.s0 + x.k)
  let at_ (t : Nat) : Nat := (fs.filter fun x => decide (x.s0 ≤ t ∧ t < x.s0 + x.k)).length
  (s0 :: (fs.map (·.s0)).filter (s0 ≤ ·)).foldl (fun m t => max m (at_ t)) 0

/-- The reply of a swap: S0 and K. -/
def swapReply (st : Status) (s0 k : Nat) : Answer := { status := st, result := le8 s0 ++ le4 k }

/-- A swap judged on time at S0 (R122, R123). A target equal to the set the swap would start from has no effect, and a
deferred swap that waits refuses every other (worked example of R123; DEDUCED). -/
def judgeSwap (p : Plan) (c : Ctx) (s0 : Nat) (s : State) : State × Answer :=
  let b := fieldAt 0 2 c.par
  let target := fieldAt 2 1 c.par
  let k := fieldAt 4 4 c.par
  if b ≥ 256 then (s, ansField 32)
  else if k > 65536 then (s, ansField 36)
  else
    let set : Bool × Bool := (target % 2 = 1, target / 2 = 1)
    let xs := s.swapsOf b
    let waits := xs.any fun x => x.deferred && decide (s.nextSweep ≤ x.s0 / p.req.T)
    let new : Swap := { beam := b, s0 := s0, k := k, bank := set.1, epoch := set.2,
                        cue := if kExecAt c.k then some c.cueId else none }
    let add (x : Swap) (s : State) : State × Answer :=
      if k > 0 && s.fadeLoad x.s0 k ≥ p.req.fadeSlots then (s, ansBusy (s.fadeLoad x.s0 k))
      else
        let s := { s with beams := { s.beams with swaps := s.beams.swaps ++ [x] } }
        if x.deferred then (s.bump .bfDeferred, swapReply .deferred x.s0 k) else (s, swapReply .ok x.s0 k)
    if set = s.endSet b then (s, swapReply .ok s0 k)
    else if waits then (s, ansBusy 1)
    else match xs.getLast? with
      | none => add new s
      | some cur =>
        if cur.stop ≤ s0 then add new s
        else if s.nextSweep ≤ cur.stop / p.req.T then add { new with s0 := cur.stop, deferred := true } s
        else if kLateOk c.k then add { new with s0 := max cur.stop (s.nextSweep * p.req.T), deferred := true } s
        else (s, ansRefuse .late)

/-- The RES0 parts of BEAM_SWAP: TARGET [7:2] and the byte after it (R241). -/
def swapRes0 (p : List Byte) : Option Nat := if fieldAt 2 1 p ≥ 4 then some 34 else firstRes0 [(3, 1)] p

/-- BEAM_SWAP: without EXEC_AT its start is the first sample of the first sweep of which no dwell has started (R120). -/
def opBeamSwap : OpDef :=
  { code := 0x0405, cue := some .sample, form := formLen 8, res0 := swapRes0
    run := needPlan fun p c s => judgeSwap p c (s.nextSweep * p.req.T) s
    accept := fun c pt s => needPlan (fun p c s => judgeSwap p c pt s) c s }

/-- R120. -/
def execBeamSwap (k : KcpIn) (s : State) : Out := .next (kcpCommand opBeamSwap k s)

/-- The 256-byte descriptor (R110, R112; layout log 12). Its fixed fields leave 232 bytes for CHANNELS: BEAM_GET shows local
channels 0 to 1,855 and cuts the rest (DESIGN CHOICE, log 12). -/
def BeamDesc.bytes (d : BeamDesc) : List Byte :=
  fit 256 (le 1 (match d.mode with | .off => 0 | .poly => 1 | .direct => 2) ++ le 1 (bitOf d.wide) ++ le 1 d.bshift ++
    le 1 (bitOf d.egress) ++ le2 d.minValid ++ le 1 (bitOf d.bank) ++ le 1 (bitOf d.epoch) ++ le8 d.tref0.toNat ++
    le8 d.tref1.toNat ++ fit 232 d.chans)

/-- BEAM_GET. -/
def opBeamGet : OpDef :=
  { code := 0x0406, form := formLen 4, res0 := firstRes0 [(2, 2)]
    run := needPlan fun _ c s =>
      let b := fieldAt 0 2 c.par
      if b ≥ 256 then (s, ansField 32) else (s, ansOk (s.beams.next.beam b).bytes) }

/-- R110. -/
def execBeamGet (k : KcpIn) (s : State) : Out := .next (kcpCommand opBeamGet k s)

/-! ### Weights (R116 to R119) -/

/-- Round half up of a quotient. -/
def divHalfUp (n d : Int) : Int := (2 * n + d) / (2 * d)

/-- Δ of R116 in 2^-16 ns, clamped to 2^42 ns, and whether the clamp acted. Without an epoch mapping Δ is 0 and the mark is
set (R371). -/
def State.beamDelta (s : State) (p : Plan) (d : Dwell) (tref : W64) : Int × Bool :=
  if !s.time.epochSet then (0, true)
  else
    let t := s.sampleTime (d.sweep * p.req.T + p.req.T / 2) - tref.toNat * 2 ^ 16
    let x := clampInt (-(2 ^ 58)) (2 ^ 58) t
    (x, x != t)

/-- τ of R116 in units of 2^-48 s. -/
def beamTau (co : Int × Int × Int) (delta : Int) : Int :=
  let (c0, c1, c2) := co
  divHalfUp (c0 * (10 ^ 18 * 2 ^ 40) + c1 * delta * (10 ^ 9 * 2 ^ 24) + c2 * delta * delta) (10 ^ 18 * 2 ^ 40)

/-- The phasor index of R117. -/
def phasorIndex (freq tau : Int) : Nat := (((freq * tau) % 2 ^ 64 + 2 ^ 51) / 2 ^ 52 % 4096).toNat

/-- A POLY weight (R118). -/
def polyWeight (g : Int × Int) (idx : Nat) : Int × Int :=
  let c := phasorCos idx
  let sn := phasorSin idx
  (clampInt (-127) 127 ((g.1 * c - g.2 * sn + 2 ^ 22) / 2 ^ 23), clampInt (-127) 127 ((g.1 * sn + g.2 * c + 2 ^ 22) / 2 ^ 23))

/-- A weight set of a beam for a dwell (R116 to R118). -/
def weightSet (p : Plan) (d : Dwell) (b : Nat) (t : BeamTables) (set : Bool × Bool) (s : State) : WeightSet :=
  let de := t.beam b
  match de.mode with
  | .direct => { bank := set.1, epoch := set.2, w := (List.range p.inputs).map fun i => t.directWeight set.1 b i }
  | _ =>
    let (delta, cl) := s.beamDelta p d (if set.2 then de.tref1 else de.tref0)
    let gains := s.workGains set.1 d.chan
    { bank := set.1, epoch := set.2, clamped := cl
      w := (List.range p.inputs).map fun i =>
        polyWeight (gains.getD i (0, 0)) (phasorIndex (t.freq d.chan) (beamTau (t.delay set.2 b i) delta)) }

/-- What a beam's swaps select at a sample: the set, and in a fade the new set with j and K (R121). -/
def selAt (x : Nat) (cur : Bool × Bool) : List Swap → (Bool × Bool) × Option ((Bool × Bool) × Nat × Nat)
  | [] => (cur, none)
  | w :: ws =>
    if x < w.s0 then (cur, none)
    else if x < w.s0 + w.k then (cur, some ((w.bank, w.epoch), x - w.s0, w.k))
    else selAt x (w.bank, w.epoch) ws

/-- The weight sets of a beam over the samples of a dwell. -/
def setsOver (first n : Nat) (cur : Bool × Bool) (ws : List Swap) : List (Bool × Bool) :=
  ((selAt first cur ws).1 :: (ws.filter fun w => decide (w.s0 < first + n ∧ first < w.s0 + w.k + 1)).map
    fun w => (w.bank, w.epoch)).eraseDups

/-- The weights of every beam for a dwell (R119), from the tables in effect for its sweep (R115) and the gain working set. An
error in a beam's tables makes its weights bad. -/
def formWeights (p : Plan) (d : Dwell) (t : BeamTables) (s : State) : WeightHalf :=
  { dwell := some d, err := s.beams.tableErr
    beams := (t.enabled d.chan).map fun b =>
      let de := t.beam b
      { beam := b, desc := de
        sets := (setsOver (d.sweep * p.req.T) p.req.T (de.bank, de.epoch) (s.swapsOf b)).map fun x => weightSet p d b t x s } }

/-- Weight computation begins for a dwell: written tables take effect at the first dwell of a new sweep (R115). -/
def beginWeights (p : Plan) (d : Dwell) (s : State) : State :=
  if s.beams.weightEnd ≤ d.sweep * p.req.T then
    { s with beams := { s.beams with tab := s.beams.next, weightEnd := (d.sweep + 1) * p.req.T, gainHold := [] } }
  else s

/-- An uncorrectable error in a beam's weights or tables: counted and journaled (R119). -/
def weightError (b : Nat) (s : State) : State := journalFault 2 blkBf 0 Ctr.bfWeightErr.pid b 0 (s.bump .bfWeightErr)

/-- A beam table in the Loam is read with an uncorrectable error: the weights being formed from it are bad, or the next (R119). -/
def tableError (b : Nat) (s : State) : State :=
  let s := weightError b s
  if s.beams.idle.dwell.isSome then
    { s with beams := { s.beams with idle := { s.beams.idle with err := b :: s.beams.idle.err.filter (· ≠ b) } } }
  else { s with beams := { s.beams with tableErr := b :: s.beams.tableErr.filter (· ≠ b) } }

/-- The weight store is read with an uncorrectable error: the beam's weights of the dwell being formed are bad (R119). -/
def storeError (s : State) (b : Nat) : State :=
  let s := weightError b s
  { s with beams := { s.beams with weights := { s.beams.weights with err := b :: s.beams.weights.err.filter (· ≠ b) } } }

/-- The idle half holds the weights of a dwell with every set its swaps need. -/
def State.idleHolds (s : State) (p : Plan) (d : Dwell) : Bool :=
  s.beams.idle.dwell == some d && s.beams.idle.beams.all fun b =>
    (setsOver (d.sweep * p.req.T) p.req.T (b.desc.bank, b.desc.epoch) (s.swapsOf b.beam)).all fun x =>
      b.sets.any fun w => w.bank = x.1 && w.epoch = x.2

/-- A swap that is over: the descriptor holds its target (R121, R124). -/
def finishSwaps (done : Swap → Bool) (s : State) : State :=
  let ended := s.beams.swaps.filter done
  let set (t : BeamTables) : BeamTables :=
    ended.foldl (fun t x => t.onBeam x.beam fun d => { d with bank := x.bank, epoch := x.epoch }) t
  if ended.isEmpty then s
  else { s with beams := { s.beams with swaps := s.beams.swaps.filter fun x => !done x,
                                        tab := set s.beams.tab, next := set s.beams.next } }

/-- R119 at a dwell boundary: the dwell that starts takes its half of the weight store (formed now if the idle half is not
its own), and the next dwell's weights are formed into the other. Its slot is the one given. -/
def startForming (p : Plan) (d : Dwell) (slot : Nat) (s : State) : State :=
  let s := finishSwaps (fun x => decide ((x.stop - 1) / p.req.T < d.sweep)) s
  let begun := s.beams.swaps.filter fun x => !x.started && decide (x.s0 / p.req.T ≤ d.sweep)
  let ws := s.beams.swaps.map fun x => { x with started := x.started || decide (x.s0 / p.req.T ≤ d.sweep) }
  let s := { s with beams := { s.beams with swaps := ws } }
  let s := s.bumpBy .bfSwaps begun.length
  let s := if s.idleHolds p d then { s with beams := { s.beams with weights := s.beams.idle } }
    else
      let s := loadGains p d.chan (beginWeights p d s)
      { s with beams := { s.beams with weights := formWeights p d s.beams.tab s, tableErr := [] } }
  let s := { s with beams := { s.beams with
    forming := some d, formingSlot := slot, group := 0, rows := [], weightBuf := !s.beams.weightBuf } }
  let n := s.nextDwell d
  match s.planOf n.ver with
  | none => s
  | some q =>
    let s := loadGains q n.chan (beginWeights q n s)
    { s with beams := { s.beams with idle := formWeights q n s.beams.tab s, tableErr := [] } }

/-! ### Forming and requantisation (R109, R121, R125) -/

/-- The largest component at a WIDTH (R125). -/
def beamLimit (wide : Bool) : Int := if wide then 32767 else 127

/-- y = Σ w x (R109). -/
def beamSum (w xs : List (Int × Int)) : Int × Int :=
  (w.zip xs).foldl (fun y (w, x) => (y.1 + (w.1 * x.1 - w.2 * x.2), y.2 + (w.1 * x.2 + w.2 * x.1))) (0, 0)

/-- A component of a cross-fade before its clamp (R121). -/
def fadeValue (bs j k : Nat) (yo yn : Int) : Int :=
  let nm := ((k : Int) - j) * yo + ((j : Int) + 1) * yn
  divHalfUp nm (((k : Int) + 1) * 2 ^ bs)

/-- One group of four sub-dwells of one beam: its 1,024 values before the clamp (none: flagged), and what its record
states. -/
structure GroupOut where
  vals : List (Option (Int × Int))
  valid : List Nat
  flagged : Nat
  fading : Bool
  low : Nat
  last : Bool × Bool
  deriving DecidableEq, Repr

/-- The weights of a set. -/
def BeamWeights.of (b : BeamWeights) (x : Bool × Bool) : List (Int × Int) :=
  match b.sets.find? fun w => w.bank = x.1 && w.epoch = x.2 with | some w => w.w | none => []

/-- The inputs of a sub-dwell as the B array reads them, sample by sample: every block's row in turn. -/
def inputRows (p : Plan) (pkts : List SlotPkt) (u : Nat) : List (List (Int × Int)) :=
  ((List.range (p.inputs / 32)).map fun b => plainRows p.req.wide pkts b u).foldl
    (fun rows next => rows.zipWith (· ++ ·) next) (List.replicate 256 [])

/-- One sub-dwell of a beam: values, VALID_INPUTS, flagged samples, whether a sample lies in a fade. -/
def beamSub (p : Plan) (pkts : List SlotPkt) (rows : List (List (Int × Int))) (b : BeamWeights) (ws : List Swap) (first u : Nat) :
    List (Int × Int) × Nat × Nat × Bool :=
  let wide := p.req.wide
  let sel (t : Nat) := selAt (first + 256 * u + t) (b.desc.bank, b.desc.epoch) ws
  let sels := (List.range 256).map sel
  let used := (sels.map fun x => match x.2 with | some (n, _, _) => [x.1, n] | none => [x.1]).flatten.eraseDups
  let nz (i : Nat) : Bool := used.any fun x => (b.of x).getD i (0, 0) != (0, 0)
  let per := (List.range (p.inputs / 32)).map fun blk =>
    let m := subMask wide pkts blk u
    ((flagCounts wide pkts blk u).zipIdx.filter fun (_, i) => m.getLsbD i && nz (32 * blk + i)).map (·.1)
  let vals := (sels.zip rows).map fun (x, xs) =>
    let yo := beamSum (b.of x.1) xs
    match x.2 with
    | none => (roundHalfUp b.desc.bshift yo.1, roundHalfUp b.desc.bshift yo.2)
    | some (n, j, k) =>
      let yn := beamSum (b.of n) xs
      (fadeValue b.desc.bshift j k yo.1 yn.1, fadeValue b.desc.bshift j k yo.2 yn.2)
  (vals, (per.map List.length).sum, (per.map List.sum).sum, sels.any (·.2.isSome))

/-- A group of a beam; `err` marks WEIGHT_ERROR (R119). -/
def beamGroup (p : Plan) (pkts : List SlotPkt) (rows : List (List (List (Int × Int)))) (b : BeamWeights) (ws : List Swap) (first g : Nat)
    (err : Bool) : GroupOut :=
  let subs := rows.zipIdx.map fun (xs, u) => beamSub p pkts xs b ws first (4 * g + u)
  let low (v : Nat) : Bool := decide (v < b.desc.minValid)
  { vals := (subs.map fun x => x.1.map fun v => if err || low x.2.1 then none else some v).flatten
    valid := subs.map fun x => x.2.1
    flagged := (subs.map fun x => x.2.2.1).sum
    fading := subs.any fun x => x.2.2.2
    low := (subs.filter fun x => low x.2.1).length
    last := (selAt (first + 1024 * g + 1023) (b.desc.bank, b.desc.epoch) ws).1 }

/-- A sample at a WIDTH, a flagged one with the flagged code, and the components that clamped. -/
def beamClamp (wide : Bool) (v : Option (Int × Int)) : (Int × Int) × Nat :=
  let lim := beamLimit wide
  match v with
  | none => ((-lim - 1, -lim - 1), 0)
  | some (a, b) =>
    ((clampInt (-lim) lim a, clampInt (-lim) lim b), bitOf (clampInt (-lim) lim a != a) + bitOf (clampInt (-lim) lim b != b))

/-- A beam record (R126). -/
def beamRecord (p : Plan) (d : Dwell) (b : BeamWeights) (o : GroupOut) (err : Bool) (g : Nat) (s : State) :
    List Byte × Nat :=
  let xs := o.vals.map (beamClamp b.desc.wide)
  let clamped := (xs.map (·.2)).sum
  let range := b.desc.mode == .poly && b.sets.any (·.clamped)
  let flags := bitOf (clamped > 0) + 2 * bitOf o.fading + 4 * bitOf (b.desc.mode == .direct) + 8 * bitOf o.last.1 +
    16 * bitOf o.last.2 + 32 * bitOf (o.low > 0) + 64 * bitOf range + 128 * bitOf err
  let w := if b.desc.wide then 2 else 1
  ([0x41, 1] ++ le2 flags ++ le2 s.mesh.index.toNat ++ le2 (p.sysChan d.chan) ++ le2 b.beam ++ le 1 (bitOf b.desc.wide) ++
    le 1 b.desc.bshift ++ le8 d.ver.toNat ++ le 6 (d.sweep * p.req.T + 1024 * g) ++ le2 1024 ++
    (o.valid.map le2).flatten ++ le4 o.flagged ++ le4 clamped ++ zeros 4 ++
    (xs.map fun x => leInt w x.1.1 ++ leInt w x.1.2).flatten, clamped)

/-- BF_STATUS. -/
def beamStatus (s : State) : W32 :=
  let (fades, n) := match s.beams.forming with
    | some d =>
      let T := match s.planOf d.ver with | some p => p.req.T | none => 0
      let a := d.sweep * T + 1024 * s.beams.group
      ((s.beams.swaps.filter fun x => decide (0 < x.k ∧ x.s0 < a + 256 ∧ a < x.s0 + x.k)).length,
       s.beams.weights.beams.length)
    | none => (0, s.beams.weights.beams.length)
  let slots := match s.plan.active with | some p => p.req.fadeSlots | none => 0
  BitVec.ofNat 32 (bitOf s.beams.forming.isSome + 2 * bitOf s.beams.weightBuf + 4 * min fades 16 + 256 * min n 256 +
    2 ^ 17 * slots)

/-- R137: BF_CNT_CLR. -/
def execBfCntClr (value : W32) (s : State) : Out :=
  .next (overBus (clearOn 0x2C08 0x2C28 value) s)

end Sys2Proof.Machine
end

