-- ==== Sys2Proof/Machine/Riddle.lean ====
section
/-! DEFINITION. The riddle (R128 to R136): sieve configuration, resets, bank swaps, the mixer and filter, sieve records;
and the SYNC edge (R199). -/

namespace Sys2Proof.Machine
open Sys2Proof

/-! ### Configuration (R128, R131, R135) -/

/-- Change a sieve. -/
def State.onSieve (s : State) (i : Nat) (f : Sieve → Sieve) : State :=
  { s with riddle := { s.riddle with sieves := setAt i f s.riddle.sieves } }
/-- A bank of a sieve. -/
def Sieve.coef (x : Sieve) (b : Bool) : SieveBank := if b then x.bankB else x.bankA

/-- The channel from which a configuration's chain takes its beam. Recurses on fuel. -/
def rootChan (fuel : Nat) (cfgs : Nat → SieveCfg) (c : SieveCfg) : Nat :=
  match fuel with
  | 0 => c.chan
  | fuel + 1 => if c.fromSieve then rootChan fuel cfgs (cfgs c.source) else c.chan

/-- What waits, in the order of its samples; of two at one sample the one accepted later acts last. -/
def insertPend (q : SievePend) : List SievePend → List SievePend
  | [] => [q]
  | p :: ps => if q.at_ < p.at_ then q :: p :: ps else p :: insertPend q ps

/-- The configuration of a sieve at a sample to come. -/
def Sieve.cfgAt (x : Sieve) (t : Nat) : SieveCfg := (x.pend.filter (·.at_ ≤ t)).foldl (fun c p => p.cfg.getD c) x.cfg

/-- R135: the work of a sieve in a dwell fits D. -/
def sieveFits (p : Plan) (m total len : Nat) : Bool :=
  let src := total / m
  let outs := (p.req.T + src * m - 1) / (src * m)
  p.fitsD (outs * ((len + 31) / 32))

/-- Apply one item of R128; none when the ID, the length or the value is not acceptable. SOURCE is coded as in R136. -/
def sieveItem (id i : Nat) (v : List Byte) (c : SieveCfg) : Option SieveCfg :=
  let n := unle v
  match id with
  | 1 => if v.length = 1 ∧ n ≤ 1 then some { c with enable := n = 1 } else none
  | 2 => if v.length = 2 ∧ n < 512 ∧ (n < 256 ∨ n % 256 < i) then
           some { c with fromSieve := decide (256 ≤ n), source := n % 256 } else none
  | 3 => if v.length = 2 then some { c with chan := n } else none
  | 4 => if v.length = 2 ∧ 2 ≤ n ∧ n ≤ 4096 then some { c with decim := n } else none
  | 5 => if v.length = 4 then some { c with ftw := intAt 0 4 v } else none
  | 6 => if v.length = 4 then some { c with phase0 := n } else none
  | 7 => if v.length = 1 ∧ n ≤ 1 then some { c with coarseFill := n = 1 } else none
  | 8 => if v.length = 1 ∧ n ≤ 1 then some { c with syncEn := n = 1 } else none
  | _ => none

/-- Apply items in order; the offset of the first that fails. -/
def sieveItems (i : Nat) : List (Nat × Nat × List Byte) → SieveCfg → SieveCfg ⊕ Nat
  | [], c => .inl c
  | (id, off, v) :: rest, c =>
    match sieveItem id i v c with
    | some c => sieveItems i rest c
    | none => .inr off

/-- The offset of an item, or of SIEVE. -/
def itemOffset (items : List (Nat × Nat × List Byte)) (id : Nat) : Nat :=
  match items.find? (·.1 = id) with | some (_, o, _) => o | none => 32

/-- The check of a sieve in a set of configurations (R128, R135): the item that offends, SOURCE, CHANNEL or DECIM. -/
def sieveOffends (p : Plan) (cfgs : Nat → SieveCfg) (j : Nat) (s : State) : Option Nat :=
  let x := s.sieve j
  let c := cfgs j
  if !c.enable then none
  else match chainOf 4 cfgs c with
    | none => some 2
    | some (b, total, _) =>
      if c.chan ≥ p.layout.length || !mapBit (s.beams.next.beam b).chans c.chan then some 3
      else if !sieveFits p c.decim total (max x.bankA.len x.bankB.len) then some 4
      else none

/-- A sieve's chain passes through sieve `i`. Recurses on fuel. -/
def follows (fuel : Nat) (cfgs : Nat → SieveCfg) (i j : Nat) : Bool :=
  match fuel with
  | 0 => false
  | fuel + 1 => (cfgs j).fromSieve && ((cfgs j).source = i || follows fuel cfgs i (cfgs j).source)

/-- The checks of a sieve's new configuration, for the sieve and for those whose chains pass through it (R128, R135): the
offset that offends. -/
def sieveRefusal (p : Plan) (i : Nat) (c : SieveCfg) (items : List (Nat × Nat × List Byte)) (s : State) : Option Nat :=
  let cfgs (j : Nat) : SieveCfg := if j = i then c else (s.sieve j).last
  ((i :: (List.range 64).filter (follows 63 cfgs i)).findSome? fun j => sieveOffends p cfgs j s).map (itemOffset items)

/-- Whether a change resets the sieve (R128); the first configuration does (R371). -/
def cfgResets (x : Sieve) (c : SieveCfg) : Bool :=
  let o := x.last
  !x.known || o.fromSieve != c.fromSieve || o.source != c.source || o.chan != c.chan || o.decim != c.decim ||
    o.ftw != c.ftw || o.phase0 != c.phase0

/-- RIDDLE_CFG at a start sample. -/
def riddleCfgAt (p : Plan) (c : Ctx) (at_ : Nat) (s : State) : State × Answer :=
  let i := fieldAt 0 1 c.par
  match parseItems c.par.length 36 (c.par.drop 4) with
  | (none, o) => (s, ansField o)
  | (some items, _) =>
    match repeatedItem items [] with
    | some o => (s, ansField o)
    | none =>
      if i ≥ 64 then (s, ansField 32)
      else
        let x := s.sieve i
        match sieveItems i items x.last with
        | .inr o => (s, ansField o)
        | .inl g =>
          match sieveRefusal p i g items s with
          | some o => (s, ansField o)
          | none =>
            let r := cfgResets x g
            let cue := if kExecAt c.k then some c.cueId else none
            (s.onSieve i fun x => { x with known := true, pend := insertPend { at_ := at_, reset := r, cfg := some g, cue := cue } x.pend },
             ansOk (if r then le8 at_ else []))

/-- RIDDLE_CFG. -/
def opRiddleCfg : OpDef :=
  { code := 0x0411, cue := some .sample, form := formItems 4, res0 := firstRes0 [(1, 3)]
    run := needPlan fun p c s => riddleCfgAt p c (s.nextSweep * p.req.T) s
    accept := fun c pt s => needPlan (fun p c s => riddleCfgAt p c pt s) c s }

/-- R128. -/
def execRiddleCfg (k : KcpIn) (s : State) : Out := .next (kcpCommand opRiddleCfg k s)

/-- A signed 18-bit field. -/
def int18 (v : Nat) : Int :=
  let w := v % 2 ^ 18
  if w < 2 ^ 17 then Int.ofNat w else Int.ofNat w - 2 ^ 18

/-- RIDDLE_COEF_WRITE (R131, R135): bits [31:18] of a tap are not part of it (log 11). A disabled sieve uses no bank
(DEDUCED). -/
def coefWriteRun (p : Plan) (c : Ctx) (s : State) : State × Answer :=
  let i := fieldAt 0 1 c.par
  let b := fieldAt 1 1 c.par
  let len := fieldAt 2 2 c.par
  let gain := intAt 4 4 c.par
  let osh := fieldAt 8 1 c.par
  let f := fieldAt 10 2 c.par
  let n := fieldAt 12 2 c.par
  if i ≥ 64 then (s, ansField 32)
  else if b > 1 then (s, ansField 33)
  else if len < 1 || len > 256 then (s, ansField 34)
  else if gain < -131072 || gain > 131071 then (s, ansField 36)
  else if osh > 40 then (s, ansField 40)
  else if f ≥ 256 then (s, ansField 42)
  else if f + n > 256 then (s, ansField 44)
  else
    let x := s.sieve i
    let bank := decide (b = 1)
    let g := x.last
    let breaks := g.enable && (match s.chain g with
      | some (_, total, _) => !sieveFits p g.decim total (max len (x.coef (!bank)).len)
      | none => false)
    if breaks then (s, ansField 34)
    else if (g.enable && x.bank = bank) || x.swaps.any (·.bank = bank) then (s, ansRefuse .bankBusy)
    else
      let old := fit256 (x.coef bank).taps
      let taps := old.zipIdx.map fun (h, t) => if f ≤ t ∧ t < f + n then int18 (fieldAt (16 + 4 * (t - f)) 4 c.par) else h
      let y : SieveBank := { len := len, taps := taps, coarseGain := gain, oshift := osh }
      (s.onSieve i fun x => if bank then { x with bankB := y } else { x with bankA := y }, ansOk)
where
  /-- 256 taps, zero where none is written. -/
  fit256 (xs : List Int) : List Int := (xs ++ List.replicate 256 0).take 256

/-- RIDDLE_COEF_WRITE. -/
def opRiddleCoefWrite : OpDef :=
  { code := 0x0412, b := true, form := fun p => decide (16 ≤ p.length ∧ p.length = 16 + 4 * fieldAt 12 2 p)
    res0 := firstRes0 [(9, 1), (14, 2)], run := needPlan coefWriteRun }

/-- R131. -/
def execRiddleCoefWrite (k : KcpIn) (s : State) : Out := .next (kcpCommand opRiddleCoefWrite k s)

/-- Samples at which a sieve is to reset: by what waits for it, and with its sources (R134). Recurses on fuel. -/
def State.resetsOf (s : State) (fuel i : Nat) : List Nat :=
  match fuel with
  | 0 => []
  | fuel + 1 =>
    let x := s.sieve i
    let srcs := (((x.cfg :: x.pend.filterMap (·.cfg)).filter (·.fromSieve)).map (·.source)).eraseDups
    (x.pend.filter (·.reset)).map (·.at_) ++
      (srcs.map fun j => (s.resetsOf fuel j).filter fun t => (x.cfgAt t).fromSieve && (x.cfgAt t).source == j).flatten

/-- A grid of outputs: reset sample, total decimation, M, and the next reset. -/
structure SieveGrid where
  start : Nat
  total : Nat
  m : Nat
  stop : Option Nat
  deriving DecidableEq, Repr

/-- The grids of a sieve, from the one in force on. -/
def State.grids (s : State) (i : Nat) : List SieveGrid :=
  let x := s.sieve i
  let rs := x.resetAt :: sortNat ((s.resetsOf 4 i).filter fun t => decide (x.resetAt < t)).eraseDups
  rs.zipIdx.map fun (r, n) =>
    let c := x.cfgAt r
    { start := r, m := c.decim, stop := rs[n + 1]?
      total := match chainOf 4 (fun j => (s.sieve j).cfgAt r) c with | some (_, t, _) => t | none => c.decim }

/-- The output at which a bank of length `len` takes over, for a swap whose start sample is `t` (R131, R132): its first sample,
and whether the swap is deferred. An output that a reset cuts off is not formed. -/
def firstOutput (t len : Nat) : List SieveGrid → Bool → Nat × Bool
  | [], d => (t, d)
  | g :: gs, d =>
    let whole (k : Nat) : Bool := match g.stop with | some e => decide (g.start + (k + 1) * g.total ≤ e) | none => true
    let k0 := (t - g.start + g.total - 1) / g.total
    if !whole k0 then firstOutput t len gs d
    else
      let k1 := max k0 ((len + g.m - 1) / g.m - 1)
      let d := d || decide (k0 < k1)
      if whole k1 then (g.start + k1 * g.total, d) else firstOutput t len gs d

/-- RIDDLE_SWAP at a start sample (R131, R132): the first output whose interval starts at or after it, or, deferred, the
first one that has L inputs. -/
def riddleSwapAt (c : Ctx) (at_ : Nat) (s : State) : State × Answer :=
  let i := fieldAt 0 1 c.par
  let b := fieldAt 1 1 c.par
  if i ≥ 64 then (s, ansField 32)
  else if b > 1 then (s, ansField 33)
  else
    let x := s.sieve i
    let (first, deferred) := firstOutput at_ (x.coef (b = 1)).len (s.grids i) false
    let cue := if kExecAt c.k then some c.cueId else none
    let s := s.onSieve i fun x => { x with swaps := x.swaps ++ [{ at_ := first, bank := b = 1, cue := cue }] }
    let s := if deferred then s.bump .rdlSwapDeferred else s
    (s, { status := if deferred then .deferred else .ok, result := le8 first })

/-- RIDDLE_SWAP. -/
def opRiddleSwap : OpDef :=
  { code := 0x0413, cue := some .sample, form := formLen 4, res0 := firstRes0 [(2, 2)]
    run := needPlan fun p c s => riddleSwapAt c (s.nextSweep * p.req.T) s
    accept := fun c pt s => needPlan (fun _ c s => riddleSwapAt c pt s) c s }

/-- R131. -/
def execRiddleSwap (k : KcpIn) (s : State) : Out := .next (kcpCommand opRiddleSwap k s)

/-- The sieves of a mask are to reset at a sample (R134). -/
def resetSieves (mask : Nat → Bool) (at_ : Nat) (cue : Option Nat) (s : State) : State :=
  (List.range 64).foldl (fun s i =>
    if mask i then s.onSieve i fun x => { x with pend := insertPend { at_ := at_, reset := true, cue := cue } x.pend } else s) s

/-- RIDDLE_SYNC at a sample (R134). -/
def riddleSyncAt (c : Ctx) (at_ : Nat) (s : State) : State × Answer :=
  let m := fieldAt 0 8 c.par
  (resetSieves m.testBit at_ (if kExecAt c.k then some c.cueId else none) s, ansOk (le8 at_))

/-- RIDDLE_SYNC. -/
def opRiddleSync : OpDef :=
  { code := 0x0414, cue := some .sample, form := formLen 8
    run := needPlan fun p c s => riddleSyncAt c (s.nextSweep * p.req.T) s
    accept := fun c pt s => needPlan (fun _ c s => riddleSyncAt c pt s) c s }

/-- R134. -/
def execRiddleSync (k : KcpIn) (s : State) : Out := .next (kcpCommand opRiddleSync k s)

/-! ### The mixer and the filter (R129, R130, R132, R133) -/

/-- Round half to even after division by 2^n (R8). -/
def roundHalfEven (n : Nat) (v : Int) : Int :=
  if n = 0 then v
  else
    let q := v / 2 ^ n
    let r := v % 2 ^ n
    if 2 * r < 2 ^ n then q else if 2 * r > 2 ^ n then q + 1 else if q % 2 = 0 then q else q + 1

/-- The mixer (R129). -/
def mixSample (c : SieveCfg) (n : Nat) (x : Int × Int) : Int × Int :=
  let phi := ((c.phase0 : Int) + c.ftw * n) % 2 ^ 32
  let idx := (roundHalfEven 20 phi % 4096).toNat
  let cs := phasorCos idx
  let sn := phasorSin idx
  (roundHalfEven 15 (x.1 * cs + x.2 * sn), roundHalfEven 15 (x.2 * cs - x.1 * sn))

/-- Σ h_t m, newest first (R130). -/
def firSum (h : List Int) (m : List (Int × Int)) : Int × Int :=
  (h.zip m).foldl (fun a (h, v) => (a.1 + h * v.1, a.2 + h * v.2)) (0, 0)

/-- The value of an output from the last mixed samples, and whether a clamp acted (R130, R133). -/
def sieveValue (b : SieveBank) (settling fill : Bool) (hist : List (Int × Int)) : (Int × Int) × Bool :=
  if settling && !fill then ((0, 0), false)
  else
    let a := if settling then firSum (List.replicate 16 b.coarseGain) hist else firSum (b.taps.take b.len) hist
    let r := (roundHalfEven b.oshift a.1, roundHalfEven b.oshift a.2)
    let c := (clampInt (-32767) 32767 r.1, clampInt (-32767) 32767 r.2)
    (c, c != r)

/-- An input of a sieve: beam sample index of its first and last beam sample, value, whether it is flagged. -/
structure SieveIn where
  first : Nat
  last : Nat
  re : Int
  im : Int
  flagged : Bool := false
  deriving DecidableEq, Repr

/-- A reset at a sample (R134): history, phase and numbering start anew. Where `keep` says that the former channel's dwell of
the sweep is still to come, the former running state stays for it; otherwise a begun interval is dropped. -/
def sieveReset (at_ : Nat) (keep : Bool) (x : Sieve) : Sieve × Bool :=
  let prev : SievePrev := { stop := at_, cfg := x.cfg, resetAt := x.resetAt, n := x.n, hist := x.hist, flagged := x.flagged,
                            fine := x.fine, bank := x.bank }
  ({ x with resetAt := at_, n := 0, hist := [], flagged := 0, fine := false, prev := if keep then some prev else x.prev },
   !keep && x.n % x.cfg.decim ≠ 0)

/-- A reset that a sieve has met: the sample at which it met it, the reset sample, and whether it kept its former state. -/
structure MetReset where
  seen : Nat
  at_ : Nat
  kept : Bool
  deriving DecidableEq, Repr

/-- What a sieve does with its inputs, counted: outputs (with the sample that completes them), resets, drops, bank swaps. -/
structure SieveRun where
  x : Sieve
  outs : List (Nat × SieveOut) := []
  resets : List MetReset := []
  dropped : Nat := 0
  swapped : Nat := 0
  deriving DecidableEq, Repr

/-- A reset met at sample `smp`. -/
def meetReset (smp at_ : Nat) (keep : Bool) (r : SieveRun) : SieveRun :=
  let (x, drop) := sieveReset at_ (keep && r.x.cfg.enable) r.x
  { r with x := x, resets := r.resets ++ [{ seen := smp, at_ := at_, kept := keep && r.x.cfg.enable }], dropped := r.dropped + bitOf drop }

/-- Configurations and resets whose sample is reached on channel `ch` (R128, R134): on the sieve's channel, which takes no
sample from there on, or on the channel that it changes to. -/
def applyPends (chan : SieveCfg → Nat) (ch sample : Nat) (r : SieveRun) : SieveRun :=
  let due (c : SieveCfg) (p : SievePend) : Bool :=
    decide (p.at_ ≤ sample) && (chan c = ch || (match p.cfg with | some g => chan g = ch | none => false))
  r.x.pend.foldl (fun r p =>
    if due r.x.cfg p then
      let r := if p.reset then meetReset sample p.at_ (chan r.x.cfg ≠ ch) r else r
      { r with x := { r.x with cfg := p.cfg.getD r.x.cfg, pend := r.x.pend.erase p } }
    else r) r

/-- One input enters a sieve (R129 to R133). Samples that never came (an absent dwell) count as zeros and complete no
output. `per` is the beam samples of one input. -/
def sieveInput (d : Dwell) (per : Nat) (i : SieveIn) (r : SieveRun) : SieveRun :=
  let x := r.x
  let m := per * x.cfg.decim
  let n := (i.first - x.resetAt) / per
  let gap := n - x.n
  let hist := mixSample x.cfg n (i.re, i.im) :: (List.replicate (min gap 256) (0, 0) ++ x.hist)
  let flagged := (if x.n / x.cfg.decim = n / x.cfg.decim then x.flagged else 0) + bitOf i.flagged
  let x := { x with n := n + 1, hist := hist.take 256, flagged := flagged }
  if (n + 1) % x.cfg.decim ≠ 0 then { r with x := x }
  else
    let k := n / x.cfg.decim
    let start := x.resetAt + k * m
    let due := x.swaps.filter (·.at_ ≤ start)
    let bank := match due.getLast? with | some w => w.bank | none => x.bank
    let x := { x with bank := bank, swaps := x.swaps.filter fun w => !(decide (w.at_ ≤ start)) }
    let b := x.coef bank
    let settling := decide ((k + 1) * x.cfg.decim < b.len)
    let (v, ov) := if x.coefErr then ((0, 0), false) else sieveValue b settling x.cfg.coarseFill x.hist
    let o : SieveOut :=
      { dwell := d, reset := x.resetAt, k := k, re := v.1, im := v.2, settling := settling, firstFine := !settling && !x.fine,
        overflow := ov || x.coefErr, clamped := ov, flaggedIn := x.flagged, bank := bank, cfg := x.cfg, decim := m }
    { r with x := { x with flagged := 0, fine := x.fine || !settling, ready := x.ready ++ [o] }
             outs := r.outs ++ [(i.last, o)], swapped := r.swapped + due.length }

/-- A sieve takes sample `first + t` of a dwell: a beam feeds it its 16+16 row, a source sieve the output that the sample
completes (R128). -/
def takeInput (d : Dwell) (first : Nat) (rows : List BeamRow) (src : Option SieveRun) (t : Nat) (r : SieveRun) : SieveRun :=
  let smp := first + t
  let c := r.x.cfg
  if !c.enable || smp < r.x.resetAt then r
  else if c.fromSieve then
    match src.bind fun y => y.outs.find? (·.1 = smp) with
    | some (_, o) =>
      let a := o.reset + o.k * o.decim
      if r.x.resetAt ≤ a then sieveInput d o.decim { first := a, last := smp, re := o.re, im := o.im } r else r
    | none => r
  else if c.chan = d.chan then
    match rows.find? (·.beam = c.source) with
    | some row =>
      let v := row.samples.getD t (-32768, -32768)
      let fl := v.1 == -32768
      sieveInput d 1 { first := smp, last := smp, re := if fl then 0 else v.1, im := if fl then 0 else v.2, flagged := fl } r
    | none => r
  else r

/-- Resets of the source sieve are the sieve's own (R134). -/
def followResets (smp : Nat) (src : Option SieveRun) (r : SieveRun) : SieveRun :=
  match src with
  | none => r
  | some y => (y.resets.filter (·.seen = smp)).foldl (fun r q =>
      if r.resets.any fun w => w.at_ = q.at_ then r else meetReset smp q.at_ q.kept r) r

/-- A sieve with the running state it had before a reset. -/
def Sieve.before (x : Sieve) (v : SievePrev) : Sieve :=
  { x with cfg := v.cfg, resetAt := v.resetAt, n := v.n, hist := v.hist, flagged := v.flagged, fine := v.fine, bank := v.bank }

/-- A sieve after its former running state has gone on: that state is kept up to its last sample on its channel. -/
def Sieve.afterPrev (x : Sieve) (v : SievePrev) (done : Bool) (y : Sieve) : Sieve :=
  { x with ready := y.ready
           prev := if done then none
             else some { v with n := y.n, hist := y.hist, flagged := y.flagged, fine := y.fine, bank := y.bank } }

/-- What the two running states of a sieve do in a group. -/
structure SieveTurn where
  now : SieveRun
  old : Option SieveRun := none
  deriving DecidableEq, Repr

/-- A sieve over the samples of one group of a dwell (R128, R134): first what is left before a reset met on another channel, then
its running state. `base` is the first sample of the dwell's sweep. -/
def sieveGroup (d : Dwell) (base first : Nat) (rows : List BeamRow) (done : List (Nat × SieveTurn)) (chan : SieveCfg → Nat) (x : Sieve) :
    SieveTurn :=
  let src (c : SieveCfg) : Option SieveTurn := if c.fromSieve then (done.find? (·.1 = c.source)).map (·.2) else none
  let old := x.prev.map fun v =>
    let y := src v.cfg
    let y := y.map fun z => z.old.getD z.now
    (v, (List.range 1024).foldl (fun r t => if first + t < v.stop then takeInput d first rows y t r else r) { x := x.before v })
  let (x, dropped) := match old with
    | none => (x, 0)
    | some (v, r) =>
      let over_ := decide (v.stop ≤ base) || (chan v.cfg = d.chan && decide (v.stop ≤ first + 1024))
      (x.afterPrev v over_ r.x, bitOf (over_ && r.x.n % v.cfg.decim ≠ 0))
  let now := (List.range 1024).foldl (fun r t =>
    let r := applyPends chan d.chan (first + t) r
    let y := (src r.x.cfg).map (·.now)
    takeInput d first rows y t (followResets (first + t) y r)) { x := x, dropped := dropped }
  { now := now, old := old.map (·.2) }

/-- A sieve that has nothing to do in a group. -/
def Sieve.rests (x : Sieve) : Bool := !x.cfg.enable && x.pend.isEmpty && x.prev.isNone && !x.cfg.fromSieve

/-- Every sieve takes a group's samples, in ascending index. -/
def riddleGroup (d : Dwell) (first : Nat) (rows : List BeamRow) (s : State) : State :=
  let T := match s.planOf d.ver with | some p => p.req.T | none => 1024
  let chan (c : SieveCfg) : Nat := rootChan 4 (fun j => (s.sieve j).cfg) c
  let turns := (List.range 64).foldl (fun (done : List (Nat × SieveTurn)) i =>
    let x := s.sieve i
    (i, if x.rests then { now := { x := x } } else sieveGroup d (d.sweep * T) first rows done chan x) :: done) []
  turns.foldl (fun s (i, t) =>
    let s := s.onSieve i fun _ => t.now.x
    let s := s.bumpBy .rdlResets t.now.resets.length
    let s := s.bumpBy .rdlDropped t.now.dropped
    s.bumpBy .rdlSwaps t.now.swapped) s

/-! ### Sieve records (R136) -/

/-- A sieve record of outputs of one dwell and one reset. -/
def sieveRecord (i : Nat) (os : List SieveOut) (s : State) : List Byte :=
  match os with
  | [] => []
  | o :: _ =>
    let l := os.getLast?.getD o
    let ch := match s.planOf o.dwell.ver with | some p => p.sysChan o.dwell.chan | none => 0
    let settle := (os.takeWhile (·.settling)).length
    let fine := match os.findIdx? (·.firstFine) with | some n => n | none => 0xFFFF
    let flags := bitOf (os.any (·.overflow)) + 2 * bitOf o.cfg.coarseFill + 4 * bitOf l.bank
    [0x42, 1] ++ le2 flags ++ le2 s.mesh.index.toNat ++ le2 ch ++ le 1 i ++ zeros 1 ++
      le2 (o.cfg.source + 256 * bitOf o.cfg.fromSieve) ++ le8 o.dwell.ver.toNat ++ le 6 o.reset ++ le2 os.length ++
      le4 o.decim ++ le 6 o.k ++ le2 settle ++ le2 fine ++ zeros 2 ++ le4 (os.map (·.flaggedIn)).sum ++
      (os.map fun o => leInt 2 o.re ++ leInt 2 o.im).flatten

/-- Queue the record of a sieve's outputs. -/
def closeSieve (i : Nat) (s : State) : State :=
  let x := s.sieve i
  if x.outs.isEmpty then s
  else enqueueRecord 1 (sieveRecord i x.outs s) (s.onSieve i fun x => { x with outs := [] })

/-- Records that no further output of their dwell can join leave, in ascending sieve (R127, R136). -/
def closeSieves (s : State) : State :=
  (List.range 64).foldl (fun s i =>
    let x := s.sieve i
    match x.outs.head? with
    | some o => if x.ready.isEmpty && s.beams.forming ≠ some o.dwell then closeSieve i s else s
    | none => s) s

/-- R130: a sieve forms its next output. -/
def execSieveOutput (sieve : Fin 64) (s : State) : Out :=
  .next (let i := sieve.val
    match (s.sieve i).ready with
    | [] => s
    | o :: rest =>
      if !s.arraysRun then s
      else
        let joins := match (s.sieve i).outs.head? with
          | some a => a.dwell == o.dwell && a.reset = o.reset && decide ((s.sieve i).outs.length < 1024)
          | none => true
        let s := if joins then s else closeSieve i s
        let s := s.onSieve i fun x => { x with ready := rest, outs := x.outs ++ [o] }
        let s := s.bump .rdlOutputs
        let s := if o.settling then s.bump .rdlSettlingOut else s
        let s := if o.clamped then s.bump .rdlOverflow else s
        closeSieves s)

/-! ### The SYNC edge (R134, R199) and registers -/

/-- R199: a rising level that held for 2 samples is counted; sieves with SYNC_EN reset at the first sample at or after its
time (R134). While no epoch mapping says which sample that is, the spec names none and the edge resets no sieve (DESIGN CHOICE,
log 129). -/
def execSyncEdge (firstFrc : W64) (samples : Nat) (s : State) : Out :=
  .next (if s.clk.held || samples < 2 then s
    else
      let t := s.timeAtFrc firstFrc.toNat - 4 * 2 ^ 16
      let s := { s with time := { s.time with
        prevSyncFrc := s.time.syncFrc, syncFrc := firstFrc, syncEdgeSeen := true, syncEdges := min 2 (s.time.syncEdges + 1) } }
      let s := raiseEvent 6 (s.bump .tmSyncEdges)
      let smp := s.sampleAtOrAfter t
      let on (i : Nat) : Bool := ((s.sieve i).cfgAt smp).syncEn
      if s.dieRuns && s.time.epochSet && (List.range 64).any on then
        let s := resetSieves on smp none s
        { s with riddle := { s.riddle with syncSeen := true } }
      else s)

/-- A word over 32 sieves from `base`. -/
def State.sieveWord (s : State) (base : Nat) (f : Sieve → Bool) : W32 :=
  BitVec.ofNat 32 ((List.range 32).foldl (fun n i => n + bitOf (f (s.sieve (base + i))) * 2 ^ i) 0)

/-- A sieve is SETTLING (R132). -/
def Sieve.settling (x : Sieve) : Bool :=
  x.cfg.enable && decide ((x.n / x.cfg.decim + 1) * x.cfg.decim < (x.coef x.bank).len)

/-- RDL_STATUS. -/
def riddleStatus (s : State) : W32 :=
  BitVec.ofNat 32 (bitOf (s.riddle.sieves.any (·.cfg.enable)) + 2 * bitOf s.riddle.syncSeen)

/-- R137: RDL_CNT_CLR. -/
def execRdlCntClr (value : W32) (s : State) : Out :=
  .next (overBus (clearOn 0x2E18 0x2E30 value) s)

end Sys2Proof.Machine
end

