-- ==== Sys2Proof/Machine/ColdFrame.lean ====
section
/-! DEFINITION. The cold frame (R164 to R191): regions, frames, triggers, captures, records, drains, stream-through. -/

namespace Sys2Proof.Machine
open Sys2Proof

/-! ### Regions and their sizes (R166 to R170) -/

/-- State code of a region. -/
def regionCode : RegionState → Nat
  | .off => 0 | .armed => 1 | .rearm => 2 | .suspended => 3
/-- State code of a sub-region (R176). -/
def subCode : SubState → Nat
  | .free => 0 | .live => 1 | .posting => 2 | .frozen => 3 | .draining => 4

/-- The plan whose cold-frame space the regions lie in: the active plan, or the last one once it has ended (R182, R377, log 139). -/
def State.coldPlan (s : State) : Option Plan := match s.plan.active with | some p => some p | none => s.plan.old.head?

/-- A region. -/
def State.region (s : State) (i : Nat) : Region := s.cf.regions.getD i {}
/-- Change a region. -/
def State.onRegion (s : State) (i : Nat) (f : Region → Region) : State :=
  { s with cf := { s.cf with regions := setAt i f s.cf.regions } }
/-- Change a sub-region. -/
def Region.onSub (r : Region) (i : Nat) (f : CapSub → CapSub) : Region := { r with subs := setAt i f r.subs }

/-- The set bits of a bitmap below `n`. -/
def mapBits (n : Nat) (bs : List Byte) : List Nat := (List.range n).filter (mapBit bs)

/-- Captured channels, as local channels of a plan. -/
def Plan.captured (p : Plan) (c : RegionCfg) : List Nat := mapBits p.layout.length c.chans

/-- F of R166. -/
def frameSize (p : Plan) (c : RegionCfg) : Nat :=
  let T := p.req.T
  let n (bs : List Byte) : Nat := (mapBits 128 bs).length
  let m (bs : List Byte) : Nat := (mapBits 256 bs).length
  let nmb := ((List.range 128).filter fun b => mapBit c.rawBlocks b || mapBit c.twoBlocks b || mapBit c.powBlocks b).length
  let w := if p.req.wide then 2 else 1
  let quarter := 4 * (32 * w * n c.rawBlocks + 16 * n c.twoBlocks + 4 * w * n c.powBlocks) +
    16 * m c.rawBeams + 2 * m c.twoBeams + m c.powBeams + bitOf c.inc
  let f := 4096 + 4 * (T / 256) * nmb + T * quarter / 4
  (f + 4095) / 4096 * 4096

/-- Bytes that a region occupies. -/
def regionSize (p : Plan) (c : RegionCfg) : Nat := c.nsub * c.depth * (p.captured c).length * frameSize p c

/-- The cold-frame space of a plan (R147). -/
def Plan.coldSpace (p : Plan) : Nat := match p.regions.find? (·.kind = 5) with | some r => r.size | none => 0

/-- Configured regions with one replaced. -/
def State.regionsWith (s : State) (i : Nat) (c : RegionCfg) : List (Nat × RegionCfg) :=
  (s.cf.regions.zipIdx.filterMap fun (r, j) => if j = i then none else if r.configured then some (j, r.cfg) else none) ++ [(i, c)]

/-- The regions fit the cold-frame space. -/
def spaceFits (p : Plan) (rs : List (Nat × RegionCfg)) : Bool := (rs.map fun r => regionSize p r.2).sum ≤ p.coldSpace

/-- The peak write rate of R170 fits a budget in GB/s. -/
def rateFits (p : Plan) (budget : Nat) (rs : List (Nat × RegionCfg)) : Bool :=
  (List.range p.layout.length).all fun ch =>
    ((rs.filter fun r => mapBit r.2.chans ch).map fun r => frameSize p r.2).sum * p.dDen ≤ budget * p.dNum

/-- The depth rule of R167. -/
def depthOk (T : Nat) (c : RegionCfg) : Bool := T + c.pre + c.latMax ≤ (c.depth - 1) * T

/-- POST_STORE (R168). -/
def postStore (T : Nat) (c : RegionCfg) : Nat := min c.post ((c.depth - 1) * T - c.pre)

/-- Apply one item of R169 (byte forms: log 11); none when the ID, the length or the value is not acceptable. -/
def regionItem (wide : Bool) (id : Nat) (v : List Byte) (c : RegionCfg) : Option RegionCfg :=
  let n := unle v
  match id with
  | 1 => if v.length = 1 ∧ 1 ≤ n ∧ n ≤ 16 then some { c with nsub := n } else none
  | 2 => if v.length = 2 ∧ 3 ≤ n ∧ n ≤ 1024 then some { c with depth := n } else none
  | 3 => if v.length ≤ 512 then some { c with chans := v } else none
  | 4 => if v.length = 48 then
           some { c with rawBlocks := slice 0 16 v, twoBlocks := slice 16 16 v, powBlocks := slice 32 16 v } else none
  | 5 => if v.length = 96 then
           some { c with rawBeams := slice 0 32 v, twoBeams := slice 32 32 v, powBeams := slice 64 32 v } else none
  | 6 => if v.length = 1 ∧ n ≤ 1 then some { c with inc := n = 1 } else none
  | 7 =>
    let a := fieldAt 0 2 v
    let b := fieldAt 2 2 v
    if v.length = 4 ∧ 1 ≤ a ∧ a ≤ (if wide then 127 else 7) ∧ 1 ≤ b ∧ b ≤ 32767 then some { c with thrIn := a, thrBeam := b }
    else none
  | 8 =>
    let a := fieldAt 0 4 v
    let b := fieldAt 4 4 v
    if v.length = 8 ∧ a % 16 = 0 ∧ b % 16 = 0 ∧ 16 ≤ b ∧ b ≤ 2 ^ 31 then some { c with pre := a, post := b } else none
  | 9 => if v.length = 4 ∧ n ≤ 2 ^ 31 then some { c with latMax := n } else none
  | 10 => if v.length = 4 ∧ n < 2 ^ 26 then some { c with trigMask := BitVec.ofNat 26 n } else none
  | 11 => if v.length = 1 ∧ (n < 16 ∨ n = 255) then some { c with forward := if n = 255 then none else some n } else none
  | 12 => if v.length = 1 ∧ n ≤ 1 then some { c with stream := n = 1 } else none
  | 13 => if v.length = 1 ∧ n ≤ 1 then some { c with autoRelease := n = 1 } else none
  | _ => none

/-- Apply items in order; the offset of the first that fails. -/
def regionItems (wide : Bool) : List (Nat × Nat × List Byte) → RegionCfg → RegionCfg ⊕ Nat
  | [], c => .inl c
  | (id, off, v) :: rest, c =>
    match regionItem wide id v c with
    | some c => regionItems wide rest c
    | none => .inr off

/-- The checks of CAPTURE_CFG (R169): the offset that offends. -/
def captureRefusal (p : Plan) (i : Nat) (c : RegionCfg) (items : List (Nat × Nat × List Byte)) (s : State) : Option Nat :=
  if !depthOk p.req.T c then some (itemOffset items 2)
  else if !spaceFits p (s.regionsWith i c) then some (itemOffset items 2)
  else if !rateFits p p.cfBudget (s.regionsWith i c) then some (itemOffset items 3)
  else if c.stream && !decide (8 * frameSize p c * p.dDen ≤ p.req.streamRate * p.dNum) then some (itemOffset items 12)
  else none

/-- CAPTURE_CFG (R168, R169). A new configuration takes new sub-regions (log 35). -/
def captureCfgRun (c : Ctx) (s : State) : State × Answer :=
  let i := fieldAt 0 1 c.par
  match s.plan.active with
  | none => (s, ansField 32)
  | some p =>
    match parseItems c.par.length 36 (c.par.drop 4) with
    | (none, o) => (s, ansField o)
    | (some items, _) =>
      match repeatedItem items [] with
      | some o => (s, ansField o)
      | none =>
        if i ≥ 8 then (s, ansField 32)
        else match regionItems p.req.wide items (s.region i).cfg with
          | .inr o => (s, ansField o)
          | .inl g =>
            if (s.region i).state != .off then (s, ansBusy (regionCode (s.region i).state))
            else match captureRefusal p i g items s with
              | some o => (s, ansField o)
              | none =>
                let ps := postStore p.req.T g
                (s.onRegion i fun r => { r with configured := true, cfg := g, subs := List.replicate g.nsub {},
                                                newDepth := none, disarm := false, streams := [] },
                 { status := if ps < g.post then .clamped else .ok, result := le4 ps ++ le4 (frameSize p g) })

/-- CAPTURE_CFG. -/
def opCaptureCfg : OpDef :=
  { code := 0x0501, form := formItems 4, res0 := firstRes0 [(1, 3)], run := needTrained captureCfgRun }

/-- R169. -/
def execCaptureCfg (k : KcpIn) (s : State) : Out := .next (kcpCommand opCaptureCfg k s)

/-! ### Arming, disarming, releasing (R176, R184) -/

/-- The lowest sub-region in a state. -/
def Region.lowest (r : Region) (x : SubState) : Option Nat := r.subs.findIdx? (·.state == x)
/-- The LIVE sub-region. -/
def Region.live (r : Region) : Option Nat := r.lowest .live

/-- A sub-region becomes LIVE: empty, with new start samples. -/
def Region.makeLive (r : Region) (i : Nat) : Region := { r.onSub i fun _ => { state := .live, depth := r.cfg.depth } with state := .armed }

/-- CAPTURE_ARM acts: the lowest FREE sub-region becomes LIVE; with none, REARM. A region that has a LIVE one, or is
SUSPENDED, does not change. -/
def armRegion (r : Region) : Region :=
  if r.state == .suspended || r.live.isSome then r
  else match r.lowest .free with
    | some i => { r.makeLive i with disarm := false }
    | none => { r with state := .rearm, disarm := false }

/-- A region that disarms becomes OFF once nothing is POSTING. -/
def settleDisarm (r : Region) : Region :=
  if r.disarm && (r.lowest .posting).isNone then { r with state := .off, disarm := false } else r

/-- CAPTURE_DISARM acts: the LIVE sub-region is freed; POSTING ones run to freeze. -/
def disarmRegion (r : Region) : Region :=
  let r := match r.live with | some i => r.onSub i fun _ => {} | none => r
  settleDisarm { r with disarm := true, state := if r.state == .off then .off else .rearm }

/-- A command on the region that its first byte names. -/
def onRegionRun (f : Region → Region) (c : Ctx) (s : State) : State × Answer :=
  let i := fieldAt 0 1 c.par
  if i ≥ 8 then (s, ansField 32) else (s.onRegion i f, ansOk)

/-- The same as a cue: nothing happens at acceptance. -/
def regionAccept (c : Ctx) (_ : Nat) (s : State) : State × Answer :=
  needTrained (fun c s => if fieldAt 0 1 c.par ≥ 8 then (s, ansField 32) else (s, ansOk)) c s

/-- CAPTURE_ARM. -/
def opCaptureArm : OpDef :=
  { code := 0x0502, cue := some .sweep, form := formLen 4, res0 := firstRes0 [(1, 3)]
    run := needTrained (onRegionRun armRegion), accept := regionAccept
    atPoint := fun c s => s.onRegion (fieldAt 0 1 c.par) armRegion }

/-- R176. -/
def execCaptureArm (k : KcpIn) (s : State) : Out := .next (kcpCommand opCaptureArm k s)

/-- CAPTURE_DISARM. -/
def opCaptureDisarm : OpDef :=
  { code := 0x0503, cue := some .sweep, form := formLen 4, res0 := firstRes0 [(1, 3)]
    run := needTrained (onRegionRun disarmRegion), accept := regionAccept
    atPoint := fun c s => s.onRegion (fieldAt 0 1 c.par) disarmRegion }

/-- R183. -/
def execCaptureDisarm (k : KcpIn) (s : State) : Out := .next (kcpCommand opCaptureDisarm k s)

/-- A FROZEN sub-region is released (R184): FREE, or LIVE at once in REARM. -/
def releaseSub (i : Nat) (r : Region) : Region :=
  if r.state == .rearm && !r.disarm then r.makeLive i else r.onSub i fun _ => {}

/-- The sub-region holds a trigger. -/
def CapSub.held (x : CapSub) : Bool := x.state == .posting || x.state == .frozen || x.state == .draining

/-- The frame of a dwell is still being written: the dwell computes or its beams form. -/
def State.writing (s : State) (d : Dwell) : Bool := s.xa.computing == some d || s.beams.forming == some d

/-- The sub-region that a command names, or the offset that offends. -/
def subOf (c : Ctx) (s : State) : Nat ⊕ (Nat × Nat) :=
  let i := fieldAt 0 1 c.par
  let j := fieldAt 1 1 c.par
  if i ≥ 8 then .inl 32 else if j ≥ (s.region i).subs.length then .inl 33 else .inr (i, j)

/-- CAPTURE_RELEASE: only a FROZEN sub-region is released; another is BUSY (DEDUCED from R184). -/
def opCaptureRelease : OpDef :=
  { code := 0x0507, form := formLen 4, res0 := firstRes0 [(2, 2)]
    run := needTrained fun c s =>
      match subOf c s with
      | .inl o => (s, ansField o)
      | .inr (i, j) =>
        let st := ((s.region i).subs.getD j {}).state
        if st != .frozen then (s, ansBusy (subCode st))
        else (s.onRegion i (releaseSub j), ansOk) }

/-- R184. -/
def execCaptureRelease (k : KcpIn) (s : State) : Out := .next (kcpCommand opCaptureRelease k s)

/-- CAPTURE_RESIZE (R181). -/
def opCaptureResize : OpDef :=
  { code := 0x0505, form := formLen 4, res0 := firstRes0 [(1, 1)]
    run := needTrained fun c s =>
      let i := fieldAt 0 1 c.par
      let m := fieldAt 2 2 c.par
      if i ≥ 8 then (s, ansField 32)
      else match s.plan.active with
        | none => (s, ansField 34)
        | some p =>
          let r := s.region i
          let g := { r.cfg with depth := m }
          match r.subs.find? (·.held) with
          | some x => (s, ansBusy (subCode x.state))
          | none =>
          if m < 3 || m > 1024 || !depthOk p.req.T g || !spaceFits p (s.regionsWith i g) then (s, ansField 34)
          else
            let ps := postStore p.req.T g
            (s.onRegion i fun r => { r with newDepth := some m },
             { status := if ps < g.post then .clamped else .ok, result := le4 ps }) }

/-- R181. -/
def execCaptureResize (k : KcpIn) (s : State) : Out := .next (kcpCommand opCaptureResize k s)

/-- A ring re-based to a depth (R181): on shrinking it keeps its newest m' - 1 whole frames and the frame in writing. -/
def rebaseRing (m old : Nat) (writing : Frame → Bool) (g : ChanRing) : ChanRing :=
  if old ≤ m then g
  else
    let whole := g.frames.filter fun f => !writing f
    { g with frames := whole.drop (whole.length - (m - 1)) ++ g.frames.filter writing }

/-- A new depth takes effect at a dwell boundary (R181): the LIVE sub-region's rings are re-based. A sub-region that has accepted a trigger
meanwhile keeps its rings. -/
def applyResize (i : Nat) (s : State) : State :=
  match (s.region i).newDepth with
  | none => s
  | some m =>
    let had := (s.region i).live.isSome
    let s := s.onRegion i fun r =>
      let r := { r with newDepth := none, cfg := { r.cfg with depth := m } }
      match r.live with
      | some j => r.onSub j fun x => { x with rebased := true, depth := m, rings := x.rings.map (rebaseRing m x.depth fun f => s.writing f.dwell) }
      | none => r
    if had then s.bump .cfResized else s

/-! ### Writing the rings (R171, R179) -/

/-- The dwell of a local channel in a sweep has started and its frame, if any, is whole. -/
def State.passedDwell (s : State) (p : Plan) (ch sweep : Nat) : Bool :=
  match s.xa.lastStarted with
  | none => false
  | some d =>
    decide (sweep < d.sweep) || (d.sweep = sweep && (decide (p.posOf ch < p.posOf d.chan) || (ch = d.chan && !s.writing d)))

/-- Next sweep of which a local channel's dwell has not started. -/
def State.nextSweepOf (s : State) (p : Plan) (ch : Nat) : Nat :=
  match s.xa.lastStarted, s.ingest.expected with
  | some d, _ => if p.posOf d.chan < p.posOf ch then d.sweep else d.sweep + 1
  | none, some e => if p.posOf e.chan ≤ p.posOf ch then e.sweep else e.sweep + 1
  | none, none => 0

/-- The ring of a channel. -/
def CapSub.ring (x : CapSub) (ch : Nat) : ChanRing := (x.rings.find? (·.chan = ch)).getD { chan := ch }
/-- Change the ring of a channel. -/
def CapSub.onRing (x : CapSub) (ch : Nat) (f : ChanRing → ChanRing) : CapSub :=
  { x with rings := f (x.ring ch) :: x.rings.filter (·.chan ≠ ch) }

/-- Channels of POSTING sub-regions whose k_f dwell is past freeze; a sub-region all of whose channels have frozen is
FROZEN (R179). -/
def freezeRegion (p : Plan) (s : State) (r : Region) : Region :=
  let chans := (p.captured r.cfg).filter fun c => p.order.contains c
  let subs := r.subs.map fun x =>
    match x.state, x.cap with
    | .posting, some c =>
      let x := chans.foldl (fun x ch =>
        if s.passedDwell p ch c.kf then x.onRing ch fun g => { g with frozen := true } else x) x
      if chans.all fun ch => (x.ring ch).frozen then { x with state := .frozen } else x
    | _, _ => x
  settleDisarm { r with subs := subs }

/-- Every region freezes what has reached its end. -/
def freezeRegions (s : State) : State :=
  match s.plan.active with
  | none => s
  | some p => { s with cf := { s.cf with regions := s.cf.regions.map (freezeRegion p s) } }

/-- The sub-region that takes a channel's next dwell (R171): the earliest-triggered POSTING one that has not frozen the
channel, failing that the LIVE one. -/
def Region.taker (r : Region) (ch : Nat) : Option Nat :=
  let post := (r.subs.zipIdx.filter fun (x, _) => x.state == .posting && !(x.ring ch).frozen)
  let id (x : CapSub × Nat) : Nat := match x.1.cap with | some c => c.id | none => 0
  match post with
  | [] => r.live
  | a :: rest => some (rest.foldl (fun m x => if id x < id m then x else m) a).2

/-- A dwell goes into a region's ring, in place of the channel's oldest frame (R171). -/
def writeFrame (p : Plan) (d : Dwell) (pkts : List SlotPkt) (i : Nat) (s : State) : State :=
  let r := s.region i
  if (r.state == .armed || r.state == .rearm) && mapBit r.cfg.chans d.chan then
    match r.taker d.chan with
    | none => s
    | some j =>
      let s := s.onRegion i fun r => r.onSub j fun x => x.onRing d.chan fun g =>
        let fs := g.frames ++ [{ dwell := d, pkts := pkts, rows := [] }]
        { g with frames := fs.drop (fs.length - x.depth), start := g.start <|> some (d.sweep * p.req.T) }
      -- the writer's bytes leave by every DRAM port alike: 8 KiB of each in turn (R272, R292)
      (List.range 16).foldl (fun s k => portAccess 2 k (8192 * k) (frameSize p r.cfg / 16) s) (s.bump .cfFrames)
  else s

/-- CAPTURE_FRAME_WRITE at a dwell boundary (R171, R181): resizes take effect, what has ended freezes, the dwell is
written. -/
def captureDwell (p : Plan) (d : Dwell) (pkts : List SlotPkt) (s : State) : State :=
  let s := (List.range 8).foldl (fun s i => applyResize i s) s
  (List.range 8).foldl (fun s i => writeFrame p d pkts i s) (freezeRegions s)

/-- Power groups of a beam's samples that saturate (R165). -/
def satGroups (samples : List (Int × Int)) : Nat :=
  ((List.range ((samples.length + 15) / 16)).filter fun g =>
    decide (2 ^ 32 - 1 < (((samples.drop (16 * g)).take 16).map fun v =>
      if v.1 = -32768 then 0 else (v.1 * v.1 + v.2 * v.2).toNat).sum)).length

/-- The beams' samples of a group join the frames of their dwell. -/
def captureRows (d : Dwell) (rows : List BeamRow) (s : State) : State :=
  let join (f : Frame) : Frame :=
    if f.dwell == d then
      { f with rows := rows.map fun r =>
          { r with samples := (match f.rows.find? (·.beam = r.beam) with | some x => x.samples | none => []) ++ r.samples } }
    else f
  let sub (x : CapSub) : CapSub :=
    { x with rings := x.rings.map fun g => if g.chan = d.chan then { g with frames := g.frames.map join } else g }
  let holds (r : Region) : Bool := r.subs.any fun x => (x.ring d.chan).frames.any (·.dwell == d)
  let sat := (s.cf.regions.filter holds).map fun r =>
    ((rows.filter fun x => mapBit r.cfg.powBeams x.beam).map fun x => satGroups x.samples).sum
  let regions := s.cf.regions.map fun r => { r with subs := r.subs.map sub }
  { s with cf := { s.cf with regions := regions } }.bumpBy .cfPowerSat sat.sum

/-! ### Records (R164, R165, R185 to R189) -/

/-- What a data record reads: a dwell's plan, packets and beam samples. -/
structure CapData where
  p : Plan
  d : Dwell
  pkts : List SlotPkt
  rows : List BeamRow
  deriving DecidableEq, Repr

/-- The masked view of a block over `n` samples from `o` of the dwell, row by row. -/
def CapData.inputRows (x : CapData) (blk o n : Nat) : List (List (Int × Int)) :=
  ((((List.range ((o + n + 255) / 256 - o / 256)).map fun u => viewRows x.p.req.wide x.pkts blk (o / 256 + u)).flatten).drop
    (o % 256)).take n
/-- A beam's sample at `o` of the dwell; the flagged code when it was not formed (R164). -/
def CapData.beam (x : CapData) (b o : Nat) : Int × Int :=
  match x.rows.find? (·.beam = b) with | some r => r.samples.getD o (-32768, -32768) | none => (-32768, -32768)

/-- A TWO_BIT code (R165). -/
def twoBit (thr : Int) (v : Int) : Nat := if v ≤ -thr then 0 else if v < 0 then 1 else if v < thr then 2 else 3
/-- The nibble of a sample: real code in [3:2], imaginary in [1:0] (R187). -/
def twoNibble (thr : Nat) (flagged : Bool) (v : Int × Int) : Nat :=
  if flagged then 10 else 4 * twoBit thr v.1 + twoBit thr v.2

/-- Nibbles packed, the even one in [3:0]. -/
def packNibbles : List Nat → List Byte
  | [] => []
  | [a] => [BitVec.ofNat 8 a]
  | a :: b :: rest => BitVec.ofNat 8 (a + 16 * b) :: packNibbles rest

/-- re² + im². -/
def power (v : Int × Int) : Nat := (v.1 * v.1 + v.2 * v.2).toNat

/-- Power of each input of a block over the group that starts at `o`. -/
def CapData.inputPower (x : CapData) (blk o : Nat) : List Nat :=
  (x.inputRows blk o 16).foldl (fun ns row =>
    ns.zipWith (fun n v => n + (if isFlagged x.p.req.wide v then 0 else power v)) row) (List.replicate 32 0)

/-- Power of a beam over a group before saturation. -/
def CapData.beamPower (x : CapData) (b o : Nat) : Nat :=
  ((List.range 16).map fun t => let v := x.beam b (o + t); if v.1 = -32768 then 0 else power v).sum

/-- Incoherent power over a group. -/
def CapData.incPower (x : CapData) (o : Nat) : Nat :=
  ((List.range x.p.blocks.length).map fun b => (x.inputPower b o).sum).sum

/-- Flagged samples of a block in valid sub-dwells over `n` samples from `o` (R186). -/
def CapData.blockFlags (x : CapData) (blk o n : Nat) : Nat :=
  let w := x.p.req.wide
  ((List.range ((o + n + 255) / 256 - o / 256)).map fun j =>
    let u := o / 256 + j
    let m := subMask w x.pkts blk u
    let from_ := o - 256 * u
    ((((rawRows w x.pkts blk u).drop from_).take (o + n - 256 * u - from_)).map fun row =>
      (row.zipIdx.filter fun (v, i) => m.getLsbD i && isFlagged w v).length).sum).sum

/-- A source and a reduction: KIND 0 block, 1 beam, 2 incoherent; REDUCTION 0 RAW, 1 TWO_BIT, 2 POWER; the index. -/
structure CapSource where
  kind : Nat
  red : Nat
  idx : Nat
  deriving DecidableEq, Repr

/-- Sources of a configuration in the order of R185. -/
def RegionCfg.sources (c : RegionCfg) : List CapSource :=
  let three (kind i : Nat) (a b e : List Byte) : List CapSource :=
    (if mapBit a i then [⟨kind, 0, i⟩] else []) ++ (if mapBit b i then [⟨kind, 1, i⟩] else []) ++
      (if mapBit e i then [⟨kind, 2, i⟩] else [])
  ((List.range 128).map fun i => three 0 i c.rawBlocks c.twoBlocks c.powBlocks).flatten ++
  ((List.range 256).map fun i => three 1 i c.rawBeams c.twoBeams c.powBeams).flatten ++
  (if c.inc then [⟨2, 2, 0⟩] else [])

/-- Most samples of a record (R187). -/
def CapSource.most (x : CapSource) (wide : Bool) : Nat :=
  match x.kind, x.red with
  | 0, 0 => if wide then 128 else 256
  | 0, 1 => 512
  | 0, _ => if wide then 1024 else 2048
  | 1, 0 => 2048
  | 1, 1 => 16384
  | _, _ => 32768

/-- The payload of a record over `n` samples from `o` of the dwell, and whether a power saturated (R187). -/
def CapData.payload (x : CapData) (c : RegionCfg) (q : CapSource) (o n : Nat) : List Byte × Bool :=
  let w := x.p.req.wide
  let groups := (List.range ((n + 15) / 16)).map fun g => o + 16 * g
  match q.kind, q.red with
  | 0, 0 => (((x.inputRows q.idx o n).map fun row => (row.map (sampleBytes w)).flatten).flatten, false)
  | 0, 1 => (packNibbles ((x.inputRows q.idx o n).map fun row => row.map fun v => twoNibble c.thrIn (isFlagged w v) v).flatten, false)
  | 0, _ => ((groups.map fun g => ((x.inputPower q.idx g).map fun v => le (if w then 4 else 2) v).flatten).flatten, false)
  | 1, 0 => (((List.range n).map fun t => let v := x.beam q.idx (o + t); leInt 2 v.1 ++ leInt 2 v.2).flatten, false)
  | 1, 1 => (packNibbles ((List.range n).map fun t =>
               let v := x.beam q.idx (o + t)
               twoNibble c.thrBeam (v.1 == -32768) v), false)
  | 1, _ =>
    let ps := groups.map (x.beamPower q.idx)
    ((ps.map fun v => le4 (min v (2 ^ 32 - 1))).flatten, ps.any fun v => decide (2 ^ 32 - 1 < v))
  | _, _ => ((groups.map fun g => le4 (x.incPower g)).flatten, false)

/-- Flagged samples covered (R186). -/
def CapData.flags (x : CapData) (q : CapSource) (o n : Nat) : Nat :=
  match q.kind with
  | 0 => x.blockFlags q.idx o n
  | 1 => ((List.range n).filter fun t => (x.beam q.idx (o + t)).1 == -32768).length
  | _ => ((List.range x.p.blocks.length).map fun b => x.blockFlags b o n).sum

/-- A data record (R186). -/
def capRecord (x : CapData) (c : RegionCfg) (id : Nat) (q : CapSource) (o n : Nat) (streamed : Bool) (s : State) : List Byte :=
  let w := x.p.req.wide
  let (data, spill) := x.payload c q o n
  let masks := if q.kind = 0 then
      ((List.range ((o + n - 1) / 256 - o / 256 + 1)).map fun u => le4 (subMask w x.pkts q.idx (o / 256 + u)).toNat).flatten
    else []
  let thr := if q.red = 1 then (if q.kind = 0 then c.thrIn else c.thrBeam) else 0
  [0x51, 1] ++ le2 (bitOf spill + 2 * bitOf streamed + 4 * bitOf w) ++ le2 s.mesh.index.toNat ++
    le2 (x.p.sysChan x.d.chan) ++ le4 id ++ le2 (q.kind + 4 * q.red + 256 * q.idx) ++ le2 thr ++
    le 6 (x.d.sweep * x.p.req.T + o) ++ le2 n ++ le4 (x.flags q o n) ++ zeros 4 ++ fit 32 masks ++ data

/-- Records of a source over the samples `a` to `b - 1` of a dwell, at most `most` samples each. -/
def sourceRecords (x : CapData) (c : RegionCfg) (id : Nat) (q : CapSource) (a b : Nat) (streamed : Bool) (s : State) :
    List (List Byte) :=
  let m := q.most x.p.req.wide
  (List.range ((b - a + m - 1) / m)).map fun i => capRecord x c id q (a + m * i) (min m (b - a - m * i)) streamed s

/-- The HEAD record (R188). -/
def headRecord (i j : Nat) (n : Nat) (c : Capture) (streamed : Bool) (s : State) : List Byte :=
  fit 128 ([0x52, 1] ++ le2 (bitOf c.clamped + 2 * bitOf c.shortPre + 4 * bitOf c.resized + 8 * bitOf streamed +
      16 * bitOf c.tdcFactory + 32 * bitOf (c.total > 8)) ++ le2 s.mesh.index.toNat ++ le 1 i ++ le 1 j ++ le4 c.id ++
    le4 (c.prev.getD (2 ^ 32 - 1)) ++ le8 c.ver.toNat ++ le 6 c.trig.sTrig ++ le 1 (c.trig.kind + 4 * c.trig.line) ++
    le 1 c.listed.length ++ le4 c.trig.fraction.toNat ++ le2 c.trig.device ++ le2 n ++ time10 c.trig.time16 ++ zeros 2 ++
    le4 c.pre ++ le4 c.preActual ++ le4 c.post ++ le4 c.postStored ++ le4 c.streamed ++ le 6 c.first ++ zeros 2 ++
    (c.listed.map (le 6 ·)).flatten)

/-- The END record (R189). -/
def endCapture (i j : Nat) (c : Capture) (records gaps dropped : Nat) (streamed : Bool) (s : State) : List Byte :=
  fit 64 ([0x53, 1] ++ le2 (2 * bitOf streamed) ++ le2 s.mesh.index.toNat ++ le 1 i ++ le 1 j ++ le4 c.id ++ le4 records ++
    le4 gaps ++ le4 dropped ++ le4 c.total)

/-- The frame of a dwell as data. -/
def State.frameData (s : State) (f : Frame) : Option CapData :=
  (s.planOf f.dwell.ver).map fun p => { p := p, d := f.dwell, pkts := f.pkts, rows := f.rows }

/-- All records of a capture in the order of R185, over the channels of the plan at its acceptance. -/
def drainRecords (i j : Nat) (s : State) : List (List Byte) :=
  let r := s.region i
  let x := r.subs.getD j {}
  match x.cap, x.cap.bind fun c => s.planOf c.ver with
  | some c, some p =>
    let chans := p.captured r.cfg
    let sweeps := (List.range (c.kf + 1 - c.first / c.T)).map (c.first / c.T + ·)
    let part (ch k : Nat) (q : CapSource) : List (List Byte) :=
      match (x.ring ch).frames.find? (·.dwell.sweep = k) with
      | none => []
      | some f => match s.frameData f with
        | none => []
        | some y => sourceRecords y r.cfg c.id q (if k = c.first / c.T then c.first % c.T else 0) c.T false s
    let data := (chans.map fun ch => (r.cfg.sources.map fun q => (sweeps.map fun k => part ch k q).flatten).flatten).flatten
    let gaps := (chans.map fun ch => (sweeps.filter fun k => !((x.ring ch).frames.any (·.dwell.sweep = k))).length).sum
    headRecord i j chans.length c false s :: data ++ [endCapture i j c (data.length + 1) gaps 0 false s]
  | _, _ => []

/-- The drain reader forms records while the DRAIN queue has room (R264). Recurses on the records left. -/
def fillDrain : List (List Byte) → State → List (List Byte) × State
  | [], s => ([], s)
  | r :: rs, s => if !s.classServed 4 || s.queueHas 4 r.length then fillDrain rs (enqueueRecord 4 r s) else (r :: rs, s)

/-- A drain to egress goes on. -/
def pumpDrain (i j : Nat) (s : State) : State :=
  match ((s.region i).subs.getD j {}).drain with
  | some d =>
    if d.host then s
    else
      let (left, s) := fillDrain d.left s
      s.onRegion i fun r => r.onSub j fun x => { x with drain := some { d with left := left } }
  | none => s

/-- Every drain to egress goes on. -/
def pumpDrains (s : State) : State :=
  (List.range 8).foldl (fun s i => (List.range 16).foldl (fun s j => pumpDrain i j s) s) s

/-- CAPTURE_DRAIN (R184). A drain to the host needs the buffer of the buffer form. -/
def captureDrainRun (c : Ctx) (s : State) : State × Answer :=
  match subOf c s with
  | .inl o => (s, ansField o)
  | .inr (i, j) =>
    let dest := fieldAt 2 1 c.par
    if dest > 1 || (dest = 0 && !c.buffered) then (s, ansField 34)
    else if ((s.region i).subs.getD j {}).state != .frozen then (s, ansBusy (subCode ((s.region i).subs.getD j {}).state))
    else
      let recs := drainRecords i j s
      let run : DrainRun := { host := dest = 0, seq := c.k.seq, left := if dest = 0 then [] else recs }
      let s := s.onRegion i fun r => r.onSub j fun x => { x with state := .draining, drain := some run }
      if dest = 0 then
        let body := kBody c.k
        let data := recs.flatten.take (fieldAt 12 4 body)
        (startTransfer { seq := c.k.seq, kind := .drain, addr := BitVec.ofNat 64 (fieldAt 16 8 body), data := data,
                         len := data.length } s, ansAccepted)
      else (pumpDrain i j s, ansAccepted)

/-- CAPTURE_DRAIN. -/
def opCaptureDrain : OpDef :=
  { code := 0x0506, b := true, form := formLen 4, res0 := firstRes0 [(3, 1)], run := needTrained captureDrainRun }

/-- R184. -/
def execCaptureDrain (k : KcpIn) (s : State) : Out := .next (kcpCommand opCaptureDrain k s)

/-- R184: a drain has sent all: the capture event, and with AUTO_RELEASE the sub-region is released. -/
def execCaptureDrainDone (region : Fin 8) (sub : Fin 16) (s : State) : Out :=
  .next (let i := region.val
    let j := sub.val
    let finish (s : State) : State :=
      let s := s.onRegion i fun r => r.onSub j fun x => { x with state := .frozen, drain := none, drained := true }
      let s := if (s.region i).cfg.autoRelease then s.onRegion i (releaseSub j) else s
      raiseEvent 1 s
    match ((s.region i).subs.getD j {}).drain with
    | none => s
    | some d =>
      if !s.dieRuns then s
      else if d.host then
        match s.pcie.transfers.find? fun t => t.kind == .drain && t.seq = d.seq with
        | none => s
        | some t =>
          if !s.msixOpen || s.pcie.dmaStopped then s
          else
            let s := { s with pcie := { s.pcie with transfers := s.pcie.transfers.erase t } }
            finish (if t.data.isEmpty then s else hostWrite t.addr.toNat t.data s)
      else
        let s := pumpDrain i j s
        match ((s.region i).subs.getD j {}).drain with
        | some d => if d.left.isEmpty then finish s else s
        | none => s)

/-! ### Stream-through (R179) -/

/-- A streamed record leaves, or is dropped where the STREAM queue is full. -/
def streamRecord (r : List Byte) (x : StreamRun) (s : State) : StreamRun × State :=
  if s.classServed 2 && !s.queueHas 2 r.length then ({ x with dropped := x.dropped + 1 }, s.bump .cfStreamDrop)
  else ({ x with sent := x.sent + 1 }, (enqueueRecord 2 r s).bump .cfStreamRecords)

/-- The END record of a stream-through all of whose channels have ended. -/
def endStream (i : Nat) (x : StreamRun) (s : State) : StreamRun × State :=
  streamRecord (endCapture i x.sub x.cap x.sent x.gaps x.dropped true s) x s

/-- Samples of a group of a channel that a stream-through sends: after the extent, up to its last sample. A power group is
sent whole (log 36). -/
def streamWindow (x : StreamRun) (first : Nat) : Nat × Nat :=
  let a := max first ((x.cap.kf + 1) * x.cap.T)
  let b := min (first + 1024) (x.last + 1)
  (a - first, b - first)

/-- A group of four sub-dwells streams (R179). -/
def streamGroup (p : Plan) (d : Dwell) (pkts : List SlotPkt) (rows : List BeamRow) (g : Nat) (s : State) : State :=
  let first := d.sweep * p.req.T + 1024 * g
  let y : CapData := { p := p, d := d, pkts := pkts, rows := rows }
  (List.range 8).foldl (fun s i =>
    let r := s.region i
    let (xs, s) := r.streams.foldl (fun (xs, s) x =>
      if !x.left.contains d.chan then (xs ++ [x], s)
      else
        let (a, b) := streamWindow x first
        let recs := if a < b then
            (r.cfg.sources.map fun q => sourceRecords y r.cfg x.cap.id q (1024 * g + a) (1024 * g + b) true s).flatten
          else []
        let head := if x.sent = 0 && x.dropped = 0 && !recs.isEmpty then
            [headRecord i x.sub (p.captured r.cfg).length x.cap true s] else []
        -- a ring that holds the dwell has counted its groups that saturate (R165)
        let inRing := r.subs.any fun y => (y.ring d.chan).frames.any (·.dwell == d)
        let sat := if inRing then 0
          else ((rows.filter fun x => mapBit r.cfg.powBeams x.beam).map fun x =>
            satGroups ((x.samples.drop (1024 * g + a)).take (b - a))).sum
        let s := s.bumpBy .cfPowerSat sat
        let (x, s) := (head ++ recs).foldl (fun (x, s) r => streamRecord r x s) (x, s)
        let x := if x.last < first + 1024 then { x with left := x.left.filter (· ≠ d.chan) } else x
        if x.left.isEmpty then (xs, (endStream i x s).2) else (xs ++ [x], s)) ([], s)
    s.onRegion i fun r => { r with streams := xs }) s

/-- Channels whose last streamed dwell is past without having come end as gaps (R179, R185). -/
def streamGaps (p : Plan) (s : State) : State :=
  (List.range 8).foldl (fun s i =>
    let r := s.region i
    let (xs, s) := r.streams.foldl (fun (xs, s) x =>
      let gone := x.left.filter fun ch => s.passedDwell p ch (x.last / x.cap.T)
      let x := { x with left := x.left.filter fun ch => !gone.contains ch, gaps := x.gaps + gone.length }
      if x.left.isEmpty && !gone.isEmpty then (xs, (endStream i x s).2) else (xs ++ [x], s)) ([], s)
    s.onRegion i fun r => { r with streams := xs }) s

/-! ### Triggers (R172 to R180) -/

/-- The trigger's bit of TRIG_MASK (R169). -/
def Trig.maskBit (t : Trig) : Nat := match t.kind with | 0 => 0 | 1 => 1 + t.line | 3 => 9 | _ => 10 + t.line

/-- An entry of R180. -/
def MissedTrig.bytes (m : MissedTrig) : List Byte :=
  le 6 m.trig.sTrig ++ le 1 m.region ++ le 1 m.reason ++ le 1 (m.trig.kind + 16 * m.trig.line) ++ zeros 1 ++
    le2 m.trig.device ++ le4 m.trig.fraction.toNat ++ le8 (nsOf m.trig.time16).toNat

/-- A TRIGGER record (R333). -/
def journalTrig (outcome id : Nat) (seq : W32) (m : MissedTrig) (s : State) : State :=
  record 0x50 2 (le 1 outcome ++ zeros 3 ++ le4 id ++ le4 seq.toNat ++ zeros 4 ++ m.bytes) s

/-- A trigger is missed (R180). -/
def missTrig (i reason : Nat) (t : Trig) (seq : W32) (s : State) : State :=
  let m : MissedTrig := { region := i, reason := reason, trig := t }
  let s := s.bump .cfTrigMissed
  let s := if s.cf.missed.length < 64 then { s with cf := { s.cf with missed := s.cf.missed ++ [m] } }
    else s.bump .cfMissedOverflow
  raiseEvent 13 (journalTrig 2 0 seq m s)

/-- The oldest sample that a channel holds in the LIVE sub-region, or its start sample to come (R177, R178). -/
def oldestOf (p : Plan) (r : Region) (x : CapSub) (ch : Nat) (s : State) : Nat :=
  match (x.ring ch).frames.head? with
  | some f => f.dwell.sweep * p.req.T
  | none =>
    let after := r.subs.foldl (fun n y => match y.state, y.cap with
      | .posting, some c => if (y.ring ch).frozen then n else max n (c.kf + 1)
      | _, _ => n) 0
    max (s.nextSweepOf p ch) after * p.req.T

/-- The window of an accepted trigger (R178, R179). -/
def captureOf (p : Plan) (i j : Nat) (t : Trig) (s : State) : Capture :=
  let r := s.region i
  let x := r.subs.getD j {}
  let chans := (p.captured r.cfg).filter fun ch => p.order.contains ch
  let T := p.req.T
  let old := (chans.map fun ch => oldestOf p r x ch s).foldl max 0
  let pre := min r.cfg.pre (t.sTrig - old)
  let ps := postStore T r.cfg
  let whole := (chans.map fun ch => ((x.ring ch).frames.filter fun f => !s.writing f.dwell).map (·.dwell.sweep)).flatten
  let kf := max ((t.sTrig + ps - 1) / T) (whole.foldl max 0)
  let short := decide (pre < r.cfg.pre)
  let prev := if short then (r.ends.find? (·.1 = old)).map (·.2) else none
  { id := r.nextId, prev := prev, ver := p.version, trig := t, pre := r.cfg.pre, preActual := pre, post := r.cfg.post
    first := 16 * ((t.sTrig - pre) / 16), kf := kf, T := T, postStored := (kf + 1) * T - t.sTrig
    streamed := if r.cfg.stream then t.sTrig + r.cfg.post - (kf + 1) * T else 0
    clamped := decide (ps < r.cfg.post), shortPre := short, resized := x.rebased
    tdcFactory := t.kind = 0 && !s.cf.calDone }

/-- The next FREE sub-region after `j`, ascending and wrapping. -/
def Region.nextFree (r : Region) (j : Nat) : Option Nat :=
  let n := r.subs.length
  ((List.range n).map fun k => (j + 1 + k) % n).find? fun k => (r.subs.getD k {}).state == .free

/-- A region accepts a trigger in its LIVE sub-region `j` (R177 to R179). Frames past the extent go on in the next LIVE
sub-region, so its data continues the extent (DEDUCED). -/
def acceptTrig (p : Plan) (i j : Nat) (t : Trig) (seq : W32) (s : State) : State :=
  let c := captureOf p i j t s
  let r := s.region i
  let beyond := ((r.subs.getD j {}).rings.map fun g =>
    { g with frames := g.frames.filter fun f => decide (c.kf < f.dwell.sweep), start := none, frozen := false }).filter
      fun g => !g.frames.isEmpty
  let run : List StreamRun := if 0 < c.streamed then
      [{ cap := c, sub := j, last := t.sTrig + c.post - 1, left := (p.captured r.cfg).filter fun ch => p.order.contains ch }]
    else []
  let s := s.onRegion i fun r =>
    let r := { r with nextId := r.nextId + 1, streams := r.streams ++ run, ends := ((c.kf + 1) * c.T, c.id) :: r.ends }
    let r := r.onSub j fun x => { x with
      state := .posting, cap := some c
      rings := x.rings.map fun g => { g with frames := g.frames.filter fun f => decide (f.dwell.sweep ≤ c.kf) } }
    match r.nextFree j with
    | some k => (r.makeLive k).onSub k fun x => { x with
        rings := beyond.map fun g => { g with start := (g.frames.head?).map fun f => f.dwell.sweep * p.req.T } }
    | none => { r with state := .rearm }
  let s := s.bump .cfTrigAccepted
  let s := if c.shortPre then s.bump .cfShortPre else s
  let s := if c.clamped then s.bump .cfClamped else s
  journalTrig 0 c.id seq { region := i, reason := 0, trig := t } (freezeRegions s)

/-- A mesh trigger leaves for every device of the system (R175, R261). -/
def forwardTrig (group : Nat) (t : Trig) (s : State) : State :=
  if s.boot.system ≠ 2 then s
  else
    let (n, s) := takeFseq 0x14 s
    meshOut { lane := 0, type := 0x14, src := s.mesh.index.toNat, dest := destField 3 0, fseq := n,
              body := le 1 group ++ le 1 (t.kind + 16 * t.line) ++ zeros 2 ++ le 6 t.sTrig ++ zeros 2 ++
                le4 t.fraction.toNat ++ time10 t.time16 ++ zeros 6 } s

/-- A coincident trigger is listed in a capture, the first 8 by S_trig (R177, R180). -/
def Capture.coincide (t : Trig) (c : Capture) : Capture :=
  { c with total := c.total + 1, listed := if c.listed.length < 8 then c.listed ++ [t.sTrig] else c.listed }

/-- The outcome of a region's judgement (R177): 1 accepted, 2 coincident, 3 + REASON, and the CAPTURE_ID. A channel receives nothing once its
plan has ended. -/
def judgeRegion (i : Nat) (t : Trig) (seq : W32) (s : State) : State × Nat × Nat :=
  let r := s.region i
  let held := r.subs.findIdx? fun x => x.held &&
    (match x.cap with | some c => decide (c.first ≤ t.sTrig ∧ t.sTrig < (c.kf + 1) * c.T) | none => false)
  match r.state, held, r.live, s.coldPlan with
  | .off, _, _, _ | .suspended, _, _, _ => (missTrig i 1 t seq s, 4, 0)
  | _, some j, _, _ =>
    let id := match (r.subs.getD j {}).cap with | some c => c.id | none => 0
    let s := s.onRegion i fun r =>
      let r := r.onSub j fun x => { x with cap := x.cap.map (Capture.coincide t) }
      { r with streams := r.streams.map fun x => if x.cap.id = id then { x with cap := x.cap.coincide t } else x }
    (journalTrig 1 id seq { region := i, reason := 0, trig := t } (s.bump .cfTrigCoincident), 2, id)
  | _, none, some j, some p =>
    let chans := (p.captured r.cfg).filter fun ch => p.order.contains ch
    let x := r.subs.getD j {}
    let ended := s.plan.active.isNone
    if chans.any fun ch => decide (t.sTrig < oldestOf p r x ch s) || (ended && (x.ring ch).frames.isEmpty) then (missTrig i 3 t seq s, 6, 0)
    else
      let id := r.nextId
      let s := acceptTrig p i j t seq s
      (match r.cfg.forward with
       | some g => if t.kind ≠ 2 then forwardTrig g t s else s
       | none => s, 1, id)
  | _, none, _, _ => (missTrig i 2 t seq s, 5, 0)

/-- TRIGGER_JUDGE: the regions of a set whose TRIG_MASK admits the trigger judge it, ascending (R177). -/
def judgeTrig (regions : Nat → Bool) (t : Trig) (seq : W32) (s : State) : State × List (Nat × Nat) :=
  (List.range 8).foldl (fun (s, os) i =>
    if regions i && (s.region i).cfg.trigMask.getLsbD t.maskBit then
      let (s, o, id) := judgeRegion i t seq s
      (s, os ++ [(o, id)])
    else (s, os ++ [(0, 0)])) (s, [])

/-- The position of an event's device time as S_trig and FRACTION (R172, R207). -/
def State.trigAt (s : State) (t16 : Int) (kind line : Nat) : Trig :=
  let pos := s.positionOf t16
  { sTrig := (pos / 2 ^ 32 % 2 ^ 48).toNat, fraction := BitVec.ofInt 32 pos, kind := kind, line := line,
    device := s.mesh.index.toNat, time16 := t16 }

/-- The edge selection for an edge sampled at an FRC value (R190): that of the last write at least 1 µs, 500 counts, before it. -/
def State.edgesAt (frc : Nat) (s : State) : BitVec 18 :=
  (s.cf.edgePend.filter fun w => decide (w.1 + 500 ≤ frc)).foldl (fun _ w => w.2) s.cf.edgeUsed

/-- A write of CF_EDGE_CFG. An edge comes within 1 µs of its sample (R172), so what took effect before that is settled. -/
def writeEdgeCfg (v : W32) (s : State) : State :=
  let cfg := BitVec.ofNat 18 v.toNat
  { s with cf := { s.cf with
    edgeUsed := s.edgesAt (s.now - 500), edgeCfg := cfg
    edgePend := s.cf.edgePend.filter (fun w => decide (s.now - 500 < w.1 + 500)) ++ [(s.now, cfg)] } }

/-- An edge is one that a selection counts: 0 rising, 1 falling, 2 both, 3 none. -/
def edgeCounts (sel : Nat) (rising : Bool) : Bool := sel = 2 || (sel = 0 && rising) || (sel = 1 && !rising)

/-- A hardware trigger reaches the regions; without an epoch mapping it has no sample position and reaches none (log 37). -/
def hardTrig (t16 : Int) (kind line : Nat) (s : State) : State :=
  if s.time.epochSet then (judgeTrig (fun _ => true) (s.trigAt t16 kind line) 0 s).1 else s

/-- R173: an edge of TDC_IN at a time in 1/512 TCLK; within 20 ns of the previous counted edge it is ignored and
counted. -/
def execTdcEdge (rising : Bool) (time512 : Nat) (s : State) : Out :=
  .next (if !s.dieRuns || !edgeCounts ((s.edgesAt (time512 / 512)).toNat % 4) rising then s
    else
      let near := match s.cf.lastTdc with | some t => decide (time512 < t + 5120) | none => false
      if near then s.bump .cfTdcDeadtime
      else
        let s := { s with cf := { s.cf with lastTdc := some time512 } }
        hardTrig (s.timeAtFrc (time512 / 512) + (time512 % 512 * 256 : Nat)) 0 0 s)

/-- R174: a level of a TRIG line; shorter than 2 samples it is a glitch, and one that is the level already counted changes nothing. The event
time is that of the first sample, less the 4 ns filter delay (R172). -/
def execTrigEdge (line : Fin 8) (rising : Bool) (firstFrc : W64) (samples : Nat) (s : State) : Out :=
  .next (if !s.dieRuns then s
    else if samples < 2 then s.bump .cfTrigGlitch
    else
      let bit : BitVec 8 := BitVec.ofNat 8 (2 ^ line.val)
      let changes := s.cf.trigLevel.getLsbD line.val != rising
      let s := { s with cf := { s.cf with trigLevel := if rising then s.cf.trigLevel ||| bit else s.cf.trigLevel &&& ~~~ bit } }
      if changes && edgeCounts ((s.edgesAt firstFrc.toNat).toNat / 4 ^ (line.val + 1) % 4) rising then
        hardTrig (s.timeAtFrc firstFrc.toNat - 4 * 2 ^ 16) 1 line.val s
      else s)

/-- R173: a background calibration ends; the channels exchange roles, or one outside its fused range is retired. -/
def execTdcCalibration (inRange : Bool) (s : State) : Out :=
  .next (if !s.dieRuns || s.cf.chFault then s
    else if inRange then
      { s with cf := { s.cf with calDone := true, calAt := some s.now, activeCh := !s.cf.activeCh } }
    else
      journalSpare 2 7 (bitOf (!s.cf.activeCh)) (bitOf s.cf.activeCh) 0 { s with cf := { s.cf with chFault := true } })

/-- CAPTURE_TRIGGER (R172, R177). A device time needs the epoch mapping (DEDUCED from R208). -/
def captureTriggerRun (c : Ctx) (s : State) : State × Answer :=
  let mask := fieldAt 0 1 c.par
  let form := fieldAt 1 1 c.par
  let when_ := fieldAt 4 8 c.par
  if form > 1 then (s, ansField 33)
  else if form = 0 && !s.time.epochSet then (s, ansRefuse .notSynced)
  else
    let t : Trig :=
      if form = 0 then s.trigAt ((when_ : Int) * 2 ^ 16) 3 0
      else { sTrig := when_ % 2 ^ 48, fraction := BitVec.ofNat 32 (fieldAt 12 4 c.par), kind := 3, line := 0,
             device := s.mesh.index.toNat, time16 := if s.time.epochSet then s.sampleTime when_ else s.time16 }
    let (s, os) := judgeTrig mask.testBit t c.k.seq s
    (s, ansOk (os.map fun o => le4 o.1 ++ le4 o.2).flatten)

/-- CAPTURE_TRIGGER. -/
def opCaptureTrigger : OpDef :=
  { code := 0x0504, form := formLen 20, res0 := firstRes0 [(2, 2), (16, 4)], run := needTrained captureTriggerRun }

/-- R172. -/
def execCaptureTrigger (k : KcpIn) (s : State) : Out := .next (kcpCommand opCaptureTrigger k s)

/-- CAPTURE_MISSED_GET: the entries are returned and the log empties (R180). -/
def opCaptureMissedGet : OpDef :=
  { code := 0x0508, form := formLen 0
    run := needTrained fun _ s =>
      ({ s with cf := { s.cf with missed := [] } },
       ansOk (le4 s.cf.missed.length ++ (s.cf.missed.map MissedTrig.bytes).flatten)) }

/-- R180. -/
def execCaptureMissedGet (k : KcpIn) (s : State) : Out := .next (kcpCommand opCaptureMissedGet k s)

/-! ### Plan changes (R182, R183) -/

/-- R182: every region becomes OFF; windows of which no drain has completed are discarded, counted and journaled (log 140). -/
def discardRegions (s : State) : State :=
  let lost := (s.cf.regions.map fun r => (r.subs.filter fun x => x.held && !x.drained).length).sum
  let s := { s with cf := { s.cf with regions := s.cf.regions.map fun r =>
    { r with state := .off, subs := r.subs.map (fun _ => {}), disarm := false, newDepth := none, streams := [] } } }
  if lost = 0 then s
  else
    let s := { s with cf := { s.cf with lostFrozenSeen := true } }.bumpBy .cfLostFrozen lost
    (List.range lost).foldl (fun s _ => journalEvent 2 blkCf 3 Ctr.cfLostFrozen.pid 0 0 s) (raiseEvent 13 s)

/-- A POSTING sub-region freezes with the dwells it holds (R183): its extent ends with the newest of any channel, and POST_STORED reports it. -/
def CapSub.cutShort (x : CapSub) : CapSub :=
  match x.state, x.cap with
  | .posting, some c =>
    let k := ((x.rings.map (·.frames)).flatten.map (·.dwell.sweep + 1)).foldl max 0
    { x with state := .frozen, cap := some { c with kf := k - 1, postStored := k * c.T - c.trig.sTrig } }
  | _, _ => x

/-- A region is SUSPENDED (R183): POSTING sub-regions freeze with the dwells they hold. -/
def suspendRegion (r : Region) : Region :=
  let subs := r.subs.map CapSub.cutShort
  let end_ (id : Nat) : Option Nat := subs.findSome? fun x => match x.cap with
    | some c => if c.id = id then some ((c.kf + 1) * c.T) else none
    | none => none
  { r with state := .suspended, subs := subs, ends := r.ends.map fun e => ((end_ e.2).getD e.1, e.2) }

/-- R183: regions are suspended in descending number until the write rate fits the budget. -/
def suspendRegions (p : Plan) (s : State) : State :=
  (List.range 8).foldl (fun s k =>
    let i := 7 - k
    let running := s.cf.regions.zipIdx.filterMap fun (r, j) =>
      if r.configured && r.state != .suspended && r.state != .off then some (j, r.cfg) else none
    if rateFits p p.cfBudget running then s
    else if running.any (·.1 = i) then s.onRegion i suspendRegion else s) s

/-- R183: at the COOL plan each suspended region returns to ARMED, its LIVE sub-region anew. -/
def resumeRegions (s : State) : State :=
  { s with cf := { s.cf with regions := s.cf.regions.map fun r =>
    if r.state == .suspended then
      match r.live <|> r.lowest .free with
      | some j => r.makeLive j
      | none => { r with state := .rearm }
    else r } }

/-! ### Registers -/

/-- CF_REGION_STATUS_i. -/
def regionStatus (r : Region) : W32 :=
  let held := r.subs.zipIdx.foldl (fun n (x, j) => n + (if x.held then 2 ^ j else 0)) 0
  BitVec.ofNat 32 (regionCode r.state + 16 * (if r.state == .armed then r.live.getD 0 else 0) +
    256 * (if r.configured then r.cfg.nsub else 0) + 65536 * held)

/-- CF_STATUS. -/
def cfStatus (s : State) : W32 :=
  let budget := match s.plan.active with | some p => p.cfBudget | none => 0
  BitVec.ofNat 32 (bitOf (s.cf.regions.any (·.state != .off)) + 2 * bitOf s.plan.derated +
    4 * bitOf (s.cf.regions.any fun r => !r.streams.isEmpty) + 8 * bitOf s.cf.lostFrozenSeen + 256 * budget)

/-- CF_TDC_STATUS. -/
def tdcStatus (s : State) : W32 :=
  let age := match s.cf.calAt with | some t => min ((s.now - t) / 500000) 0xFFFF | none => 0xFFFF
  BitVec.ofNat 32 (bitOf s.cf.calDone + 2 * bitOf s.cf.activeCh + 4 * bitOf s.cf.chFault + 65536 * age)

/-- A sub-region in CAPTURE_STATUS_GET: state, CAPTURE_ID and start sample. -/
def subStatus (x : CapSub) : List Byte :=
  let start := match x.cap with
    | some c => c.first
    | none => (x.rings.filterMap (·.start)).foldl max 0
  le 1 (subCode x.state) ++ zeros 3 ++ le4 (match x.cap with | some c => c.id | none => 0) ++ le8 start

/-- CAPTURE_STATUS_GET (layout log 12): the region's status word, then each sub-region. -/
def opCaptureStatusGet : OpDef :=
  { code := 0x0509, form := formLen 4, res0 := firstRes0 [(1, 3)]
    run := needTrained fun c s =>
      let i := fieldAt 0 1 c.par
      if i ≥ 8 then (s, ansField 32)
      else (s, ansOk (le4 (regionStatus (s.region i)).toNat ++ ((s.region i).subs.map subStatus).flatten)) }

/-- R176. -/
def execCaptureStatusGet (k : KcpIn) (s : State) : Out := .next (kcpCommand opCaptureStatusGet k s)

/-- R191: CF_CNT_CLR. -/
def execCfCntClr (value : W32) (s : State) : Out :=
  .next (overBus (clearOn 0x3030 0x3064 value) s)

end Sys2Proof.Machine
end

