-- ==== Sys2Proof/Machine/Routines.lean ====
section
/-! DEFINITION. Cell routines (R69, R70): their words, the check of a loaded routine, the register files of the cells, and the
operand memories that the irrigation fills (R67, R68). -/

namespace Sys2Proof.Machine
open Sys2Proof

/-! ### The words (R69) -/

/-- A PIECE word. -/
structure RoutinePiece where
  own : Bool
  shadow : Bool := false
  parts : Nat
  slot : Nat
  pos : Nat
  y : Nat
  x : Nat
  deriving DecidableEq, Repr

/-- A routine: HEAD, DEAL, at most one RANGE (FIRST, COUNT), PIECE words. -/
structure Routine where
  wide : Bool
  side : Bool := false
  ulog2 : Nat
  deal : Nat
  tag : Nat
  thetaStart : Nat
  qStart : Nat
  thetaEnd : Nat
  qEnd : Nat
  range : Option (Nat × Nat) := none
  pieces : List RoutinePiece
  deriving DecidableEq, Repr

/-- The HEAD word. -/
def Routine.head (r : Routine) : Nat :=
  2 ^ 60 + 2 ^ 59 * bitOf r.wide + 2 ^ 58 * bitOf r.side + 2 ^ 53 * r.pieces.length + 2 ^ 44 * r.ulog2 + 2 ^ 32 * r.deal + r.tag
/-- The DEAL word. -/
def Routine.dealWord (r : Routine) : Nat :=
  2 * 2 ^ 60 + 2 ^ 48 * r.thetaEnd + 2 ^ 29 * r.qEnd + 2 ^ 19 * r.thetaStart + r.qStart
/-- The RANGE word. -/
def rangeWord (x : Nat × Nat) : Nat := 4 * 2 ^ 60 + 2 ^ 19 * x.2 + x.1
/-- A PIECE word. -/
def RoutinePiece.word (x : RoutinePiece) : Nat :=
  3 * 2 ^ 60 + 2 ^ 59 * bitOf x.own + 2 ^ 58 * bitOf x.shadow + 2 ^ 54 * x.parts + 2 ^ 50 * x.slot + 2 ^ 36 * x.pos +
    2 ^ 29 * x.y + 2 ^ 22 * x.x
/-- Words as bytes. -/
def wordBytes (ws : List Nat) : List Byte := (ws.map le8).flatten
/-- The words of a routine, END word included. -/
def Routine.words (r : Routine) : List W64 :=
  let body := r.head :: r.dealWord :: ((r.range.toList.map rangeWord) ++ r.pieces.map RoutinePiece.word)
  (body ++ [15 * 2 ^ 60 + crc32c (wordBytes body)]).map (BitVec.ofNat 64)

/-! ### The routines of a plan -/

/-- The n-th PIECE word of deal index `i`. -/
def planPiece (p : Plan) (i n pos : Nat) : RoutinePiece :=
  let (a, b) := p.pairs.getD pos (0, 0)
  { own := p.deal.owner pos = i, parts := (p.deal.holders pos).length, slot := slotOfPiece p.req.wide n, pos := pos, y := b, x := a }

/-- A routine of deal index `i` over some of its pieces. -/
def planRoutineOver (p : Plan) (i : Nat) (ps : List Nat) : Routine :=
  { wide := p.req.wide, ulog2 := Nat.log2 p.U, deal := i, tag := p.serial, thetaStart := p.deal.theta i, qStart := p.deal.q i
    thetaEnd := p.deal.theta (i + 1), qEnd := p.deal.q (i + 1), pieces := ps.zipIdx.map fun (pos, n) => planPiece p i n pos }

/-- The routine of a deal index. -/
def planRoutine (p : Plan) (i : Nat) : Routine := planRoutineOver p i (p.deal.pieces i)

/-- The bytes of a routine. -/
def routineBytes (p : Plan) (i : Nat) : List Byte := wordBytes ((planRoutine p i).words.map (·.toNat))

/-- The steward's routine for a shadow check, or with `side` for a tie-break: HEAD and DEAL of the target, one PIECE word with
SHADOW = 1 and OWN = 0 (R80, R81). -/
def shadowRoutine (p : Plan) (i pos : Nat) (side : Bool) : Routine :=
  let r := planRoutineOver p i [pos]
  { r with side := side, pieces := r.pieces.map fun x => { x with own := false, shadow := true } }

/-- A spare's routine for its share of a recomputation: the PIECE words it needs, a RANGE word, the side stream (R83). -/
def shareRoutine (p : Plan) (i first count : Nat) : Routine :=
  let touched := (((p.deal.run i).drop first).take count).map fun us => us.2 / (8 * p.deal.m)
  { planRoutineOver p i ((p.deal.pieces i).filter fun pos => touched.contains pos) with side := true, range := some (first, count) }

/-! ### The check of a loaded routine (R69, R70) -/

/-- Bits `lo` to `hi` of a word. -/
def bitsOf (w : W64) (hi lo : Nat) : Nat := w.toNat / 2 ^ lo % 2 ^ (hi + 1 - lo)

/-- The fields of a PIECE word. -/
def rdPiece (w : W64) : RoutinePiece :=
  { own := w.getLsbD 59, shadow := w.getLsbD 58, parts := bitsOf w 57 54, slot := bitsOf w 53 50, pos := bitsOf w 49 36
    y := bitsOf w 35 29, x := bitsOf w 28 22 }

/-- The routine in some words; none where the words or their order are not those of R69, or CHECK does not match. -/
def rdRoutine (ws : List W64) : Option Routine :=
  match ws with
  | h :: d :: rest =>
    let op (w : W64) : Nat := bitsOf w 63 60
    let (range, rest) := match rest with
      | w :: rest' => if op w = 4 then (some (bitsOf w 18 0, bitsOf w 37 19), rest') else (none, rest)
      | [] => (none, rest)
    let n := bitsOf h 57 53
    let ps := rest.take n
    let body := (ws.take (ws.length - 1)).map (·.toNat)
    if op h = 1 && op d = 2 && ps.length = n && ps.all (fun w => op w = 3) && ws.length ≤ 20 &&
        rest.drop n == [BitVec.ofNat 64 (15 * 2 ^ 60 + bitsOf (rest.getLastD 0) 59 32 * 2 ^ 32 + crc32c (wordBytes body))] then
      some { wide := h.getLsbD 59, side := h.getLsbD 58, ulog2 := bitsOf h 47 44, deal := bitsOf h 42 32, tag := bitsOf h 31 0
             thetaStart := bitsOf d 28 19, qStart := bitsOf d 18 0, thetaEnd := bitsOf d 57 48, qEnd := bitsOf d 47 29
             range := range, pieces := ps.map rdPiece }
    else none
  | _ => none

/-- The first step, and the step after the last, in sub-dwell `u` (R64). -/
def Routine.bounds (r : Routine) (u : Nat) : Nat × Nat :=
  let rev := revBits r.ulog2 u
  (r.qStart + bitOf (r.thetaStart ≤ rev), r.qEnd + bitOf (r.thetaEnd ≤ rev))

/-- The steps of the range of DEAL, cut by RANGE, in execution order (R65). -/
def Routine.run (r : Routine) : List (Nat × Nat) :=
  let all := ((List.range (2 ^ r.ulog2)).map fun u =>
    let (lo, hi) := r.bounds u
    (List.range (hi - lo)).map fun j => (u, lo + j)).flatten
  match r.range with
  | none => all
  | some (first, count) => (all.drop first).take count

/-- Block-pair positions that the range reaches. -/
def Routine.reach (r : Routine) : List Nat :=
  let w := 8 * modeFactor r.wide
  match r.range with
  | some _ => (r.run.map fun us => us.2 / w).eraseDups
  | none => (((List.range (2 ^ r.ulog2)).map r.bounds).eraseDups.map fun (lo, hi) =>
      (List.range ((hi + w - 1) / w - lo / w)).map (lo / w + ·)).flatten.eraseDups

/-- The fields of R69 are in range, PIECE words ascend in POS, and each step of the range has its PIECE word; a routine whose
PIECE word is a shadow's computes that piece alone (R80; DEDUCED, log 124). -/
def Routine.valid (r : Routine) : Bool :=
  decide (1 ≤ r.pieces.length ∧ r.pieces.length ≤ 16 ∧ 5 ≤ r.ulog2 ∧ r.ulog2 ≤ 9 ∧ r.deal ≤ 1279 ∧ r.thetaEnd ≤ 512 ∧
    r.thetaStart ≤ 512 ∧ r.qEnd ≤ 264192 ∧ r.qStart ≤ 264192) &&
  (match r.range with | some (_, n) => decide (1 ≤ n) | none => true) &&
  r.pieces.all (fun x => decide (1 ≤ x.parts) && (!r.wide || x.slot % 2 = 0)) &&
  decide ((r.pieces.map (·.pos)).Pairwise (· < ·)) &&
  (r.pieces.any (·.shadow) || r.reach.all fun pos => r.pieces.any (·.pos = pos))

/-- A loaded routine passes its check (R70). -/
def routineOk (ws : List W64) : Bool := match rdRoutine ws with | some r => r.valid | none => false

/-! ### Loam region and register files (R70) -/

/-- The Espalier writes the routines of a plan into the Loam's region, beside those of the plan in force. -/
def writeRoutines (q : Plan) (s : State) : State :=
  let keep := s.xa.loamRoutines.filter fun x => s.plan.active.any fun p => p.version = x.ver && p.version ≠ q.version
  { s with xa := { s.xa with
      loamRoutines := keep ++ [{ ver := q.version, routines := (List.range q.A).map fun i => (planRoutine q i).words }] } }

/-- What the dealt cells of a plan load from the region. -/
def loadedFor (q : Plan) (s : State) : List CellRoutine :=
  match s.xa.loamRoutines.find? (·.ver = q.version) with
  | some x => (q.cellMap.zip x.routines).map fun (c, ws) => { cell := c, words := ws }
  | none => []

/-- Cells load the routines of the plan to come into their second register files and check them; a failed check counts and
faults the cell at the boundary at which the routine takes effect. -/
def loadRoutines (q : Plan) (s : State) : State :=
  let rs := loadedFor q s
  let bad := (rs.filter fun r => !routineOk r.words).map (·.cell)
  let s := s.bumpBy .xaRoutineBad bad.length
  { s with xa := { s.xa with nextRoutines := rs, routineBad := s.xa.routineBad ++ bad.filter fun c => !s.xa.routineBad.contains c } }

/-- The plan's routines stand in the second register files. -/
def State.routinesLoaded (s : State) (q : Plan) : Bool :=
  s.xa.nextRoutines.map (·.cell) == q.cellMap && s.xa.nextRoutines.all fun r => (r.words.headD 0).toNat % 2 ^ 32 == q.serial % 2 ^ 32

/-- At the switch boundary each cell swaps register files (R70). -/
def swapRoutines (q : Plan) (s : State) : State :=
  let s := if s.routinesLoaded q then s else loadRoutines q (if s.xa.loamRoutines.any (·.ver = q.version) then s else writeRoutines q s)
  { s with xa := { s.xa with routines := s.xa.nextRoutines, nextRoutines := s.xa.routines } }

/-- A routine enters the register file of one cell. -/
def setRoutine (cell : Nat) (ws : List W64) (s : State) : State :=
  { s with xa := { s.xa with routines := (s.xa.routines.filter (·.cell ≠ cell)) ++ [{ cell := cell, words := ws }] } }

/-- A graft or rotation moves a routine unchanged to another cell (R70, R302). -/
def moveRoutine (old new : Nat) (s : State) : State :=
  let move (rs : List CellRoutine) : List CellRoutine :=
    (rs.filter (·.cell ≠ new)).map fun r => if r.cell = old then { r with cell := new } else r
  { s with xa := { s.xa with routines := move s.xa.routines, nextRoutines := move s.xa.nextRoutines } }

/-! ### X-mem and Y-mem (R67, R68) -/

/-- Blocks of one side that a cell names in sub-dwell `u`. -/
def namedBlocks (p : Plan) (i u : Nat) (y : Bool) : List Nat :=
  (((p.deal.steps i u).map fun st => st / (8 * p.deal.m)).eraseDups.map fun pos =>
    let ab := p.pairs.getD pos (0, 0)
    if y then ab.2 else ab.1).eraseDups

/-- The buffers of a cell's set that a sub-dwell fills: one for each block, two in wide mode, in the order in which the cell
names the blocks (R67; which buffer a block takes is the model's choice, log 125). -/
def fillBuffers (p : Plan) (d : Dwell) (cell i u : Nat) (y : Bool) : List OperandBuf :=
  let halves := if p.req.wide then [0, 1] else [0]
  (((namedBlocks p i u y).map fun b => halves.map fun h => (b, h)).flatten).zipIdx.map fun (bh, n) =>
    { cell := cell, set1 := u % 2 = 1, buf := n, dwell := d, block := bh.1, sub := u, half := bh.2 }

/-- One side's buffers after a dwell: the last sub-dwell and the one before it, in their sets. -/
def operandMem (p : Plan) (d : Dwell) (y : Bool) : List OperandBuf :=
  (p.cellMap.zipIdx.map fun (c, i) => fillBuffers p d c i (p.U - 2) y ++ fillBuffers p d c i (p.U - 1) y).flatten

/-- The main stream has filled the cells' operand memories over a dwell (R68). -/
def fillOperands (p : Plan) (d : Dwell) (s : State) : State :=
  { s with xa := { s.xa with xMem := operandMem p d false, yMem := operandMem p d true } }

/-- What a buffer holds: the samples of its block's sub-dwell as R60 stores them. -/
def OperandBuf.rows (x : OperandBuf) (wide : Bool) (s : State) : List (List (Int × Int)) :=
  match s.slotOf x.dwell with
  | some i =>
    let rows := plainRows wide (s.slot i).pkts x.block x.sub
    if wide then (rows.drop (128 * x.half)).take 128 else rows
  | none => []

end Sys2Proof.Machine
end

