-- ==== Sys2Proof/Machine/Arrays.lean ====
section
/-! DEFINITION. What happens to cells: parts that drain into staging, discarded work and its recomputation, tie-breaks,
grafts, rotation and slot-file rows (R70 to R83, R298 to R303). -/

namespace Sys2Proof.Machine
open Sys2Proof

/-! ### Banks and staging -/

/-- The compute bank of the slot files (R71). -/
def State.computeBank (s : State) : List PieceSum := if s.xa.bank then s.xa.slots1 else s.xa.slots0
/-- The drain bank. -/
def State.drainBank (s : State) : List PieceSum := if s.xa.bank then s.xa.slots0 else s.xa.slots1
/-- Replace the compute bank. -/
def State.setComputeBank (s : State) (x : List PieceSum) : State :=
  if s.xa.bank then { s with xa := { s.xa with slots1 := x } } else { s with xa := { s.xa with slots0 := x } }
/-- Replace the drain bank. -/
def State.setDrainBank (s : State) (x : List PieceSum) : State :=
  if s.xa.bank then { s with xa := { s.xa with slots0 := x } } else { s with xa := { s.xa with slots1 := x } }

/-- Change the survey's counts of a cell (R84, R344). -/
def onCellStat (cell : Nat) (f : CellStat → CellStat) (s : State) : State :=
  let xs := s.cells.cellStats
  let xs := if xs.any (·.cell = cell) then xs else xs ++ [{ cell := cell }]
  { s with cells := { s.cells with cellStats := xs.map fun x => if x.cell = cell then f x else x } }

/-- Staging changes; block pairs newly marked OVERFLOW and REPLAYED are counted (R84). -/
def onPairs (d : Dwell) (f : StagedPair → StagedPair) (s : State) : State :=
  match s.staged d with
  | none => s
  | some x =>
    let out := x.pairs.map f
    let spill := ((x.pairs.zip out).filter fun (a, b) => !a.overflow && b.overflow).length
    let rep := ((x.pairs.zip out).filter fun (a, b) => !a.replayed && b.replayed).length
    ((s.onStaged d fun x => { x with pairs := out }).bumpBy .xaOverflowBp spill).bumpBy .xaReplayBp rep

/-- A block pair all of whose parts have arrived becomes ready (R75). -/
def settlePair (b : StagedPair) : StagedPair := if b.waits.isEmpty && !b.ready then readyPair b else b

/-- Parts arrive in staging; each is the last its deal index owes its block pair, unless `more` says otherwise (R75,
R83). -/
def arriveParts (p : Plan) (d : Dwell) (parts : List PieceSum) (replay : Bool) (more : Nat → Nat → Bool) (s : State) : State :=
  let sats (x : PieceSum) : Nat := (x.entries.filter (·.sat)).length
  let s := parts.foldl (fun s x =>
    if sats x = 0 then s
    else onCellStat x.cell (fun c => { c with sat := c.sat + BitVec.ofNat 32 (sats x) }) (s.bumpBy .xaSatEntries (sats x))) s
  onPairs d (fun b =>
    let mine := parts.filter (·.pos = b.pos)
    if mine.isEmpty then b
    else
      let b := mine.foldl (fun b x => addPart p.req.wide x b) b
      let gone := (mine.map (·.deal)).filter fun i => !more i b.pos
      settlePair { b with replayed := b.replayed || replay, waits := b.waits.filter fun i => !gone.contains i }) s

/-- The pieces of some cells in the drain bank drain (R74). -/
def drainCells (p : Plan) (d : Dwell) (cells : Nat → Bool) (s : State) : State :=
  arriveParts p d (s.drainBank.filter fun x => cells x.cell) false (fun _ _ => false) s

/-! ### Recomputation (R83) -/

/-- A graft waits in the bed, so its spare is being grafted in. -/
def State.graftingIn (s : State) (g : Nat) : Bool := s.cells.grafts.any fun j => bedOf j.cell = g

/-- The spares of a quadrant that are not being grafted in, in bed order. -/
def State.freeSpares (s : State) (q : Nat) : List Nat :=
  (List.range 20).filterMap fun b =>
    let g := 20 * q + b
    if s.graftingIn g then none
    else match s.spareOf g with
      | some c => if s.stripeOn c then some c else none
      | none => none

/-- `w` execution positions from `first` over the spares given (R83). -/
def shareOut (first w : Nat) (spares : List Nat) : List (Nat × Nat × Nat) :=
  let n := spares.length
  (spares.zipIdx.map fun (c, j) => (c, first + j * w / n, (j + 1) * w / n - j * w / n)).filter fun x => x.2.2 ≠ 0

/-- A dwell's slot has become RETAINED. -/
def State.retained (s : State) (d : Dwell) : Bool :=
  [0, 1, 2].any fun i => (s.slot i).dwell == some d && (s.slot i).state == .retained

/-- Spares that recompute suspend their shadow checks; a check whose dwell has been computed stands (R83). -/
def suspendShadows (spares : Nat → Bool) (s : State) : State :=
  { s with xa := { s.xa with shadow := s.xa.shadow.filter fun x => !x.entries.isEmpty || !spares x.spare } }

/-- A recomputation starts over a quadrant's spares, each with its routine (R69, R83). -/
def startReplay (p : Plan) (r : Replay) (s : State) : State :=
  let sh := shareOut 0 (p.deal.run r.deal).length (s.freeSpares (quadOf r.cell))
  if sh.isEmpty then s
  else
    let r' := { r with shares := sh, started := true }
    let s := { s with xa := { s.xa with replays := s.xa.replays.map fun x => if x = r then r' else x } }
    let s := sh.foldl (fun s x => setRoutine x.1 (shareRoutine p r.deal x.2.1 x.2.2).words s) s
    suspendShadows (fun c => quadOf c = quadOf r.cell) s

/-- Recomputations start: of those whose dwell's slot is RETAINED, in each quadrant the first one decided, when no other runs
there (R83, R301). R83 divides by the n spares free and says nothing of n = 0: a recomputation then waits until the quadrant
has a spare again (DESIGN CHOICE, log 126). -/
def startReplays (s : State) : State :=
  s.xa.replays.foldl (fun s r =>
    if r.started || !s.retained r.dwell || (s.xa.replays.any fun x => x.started && quadOf x.cell = quadOf r.cell) then s
    else match s.planOf r.dwell.ver with
      | none => s
      | some p => startReplay p r s) s

/-- A cell's work in a dwell is discarded and is to be recomputed (R83). -/
def discardWork (d : Dwell) (cell deal : Nat) (s : State) : State :=
  if s.xa.replays.any fun r => r.dwell == d && r.deal = deal then s
  else { s with xa := { s.xa with replays := s.xa.replays ++ [{ dwell := d, cell := cell, deal := deal, shares := [] }] } }

/-- Block-pair positions of a share. -/
def sharePos (p : Plan) (deal : Nat) (x : Nat × Nat × Nat) : List Nat :=
  ((((p.deal.run deal).drop x.2.1).take x.2.2).map fun us => us.2 / (8 * p.deal.m)).eraseDups

/-- Finished shares of a recomputation drain into staging, once the dwell is staged (R83). -/
def drainShares (r : Replay) (done : List (Nat × Nat × Nat)) (s : State) : State :=
  match s.planOf r.dwell.ver, s.slotOf r.dwell with
  | some p, some i =>
    let left := (r.shares.map (sharePos p r.deal)).flatten
    let parts := (done.map fun x =>
      cellSums p (s.slot i).pkts r.deal x.1 (((p.deal.run r.deal).drop x.2.1).take x.2.2)).flatten
    arriveParts p r.dwell parts true (fun _ pos => left.contains pos) s
  | _, _ => s

/-- A replay with nothing left to do leaves. -/
def endReplays (s : State) : State :=
  startReplays { s with xa := { s.xa with replays := s.xa.replays.filter fun r =>
    !(r.started && r.shares.isEmpty && r.finished.isEmpty) } }

/-- Shares that finished before their dwell was staged drain now. -/
def drainFinished (d : Dwell) (s : State) : State :=
  let now := s.xa.replays.filter fun r => r.dwell == d
  let s := now.foldl (fun s r => drainShares r r.finished s) s
  endReplays { s with xa := { s.xa with replays := s.xa.replays.map fun r => if r.dwell == d then { r with finished := [] } else r } }

/-! ### Tie-breaks (R81) -/

/-- The bed whose spare runs a tie-break for bed `g`: the first after it in the quadrant that has a spare not being
grafted in. -/
def State.tieHelper (s : State) (g : Nat) : Option Nat :=
  ((List.range 19).map fun j => 20 * (g / 20) + (g % 20 + 1 + j) % 20).find? fun x =>
    (s.spareOf x).isSome && !s.graftingIn x

/-- A cell that withheld its drain drains after all: at once when the others have drained. -/
def releaseTarget (d : Dwell) (cell : Nat) (s : State) : State :=
  let s := { s with xa := { s.xa with withheld := s.xa.withheld.filter (· ≠ cell) } }
  match s.planOf d.ver, s.xa.drain with
  | some p, none => drainCells p d (· = cell) s
  | _, _ => s

/-- No spare can run the tie-break: the target drains and the mismatch is journaled (R81). -/
def unresolvedShadow (d : Dwell) (x : Shadow) (s : State) : State :=
  journalFault 2 blkXa 0 Ctr.xaShadowMismatch.pid x.target x.pos (releaseTarget d x.target s)

/-- A block pair of a dwell is marked SHADOW_MISMATCH. -/
def markShadow (d : Dwell) (pos : Nat) (s : State) : State :=
  onPairs d (fun b => if b.pos = pos then { b with shadowMismatch := true } else b) s

/-- The spare of bed `h` abandons its own shadow check and takes the routine of a tie-break (R81). -/
def beginTie (h : Nat) (d : Dwell) (x : Shadow) (s : State) : State :=
  match s.spareOf h, s.planOf d.ver with
  | some c, some p => setRoutine c (shadowRoutine p x.deal x.pos true).words (suspendShadows (· = c) s)
  | _, _ => s

/-- Tie-breaks whose helper is gone take the next one, or end unresolved. -/
def rehelp (s : State) : State :=
  s.xa.tieBreaks.foldl (fun s t =>
    if (s.spareOf t.helper).isSome then s
    else
      match s.tieHelper t.shadow.bed with
      | some h => beginTie h t.dwell t.shadow
          { s with xa := { s.xa with tieBreaks := s.xa.tieBreaks.map fun u =>
                                     if u.shadow.bed = t.shadow.bed then { u with helper := h } else u } }
      | none => unresolvedShadow t.dwell t.shadow
          { s with xa := { s.xa with tieBreaks := s.xa.tieBreaks.filter (·.shadow.bed ≠ t.shadow.bed) } }) s

/-! ### Cells that leave (R298 to R301) -/

/-- A cell is retired in the health record (R299). -/
def retireCell (cell : Nat) (s : State) : State :=
  if s.cells.retired.contains cell then s
  else { s with cells := { s.cells with retired := s.cells.retired ++ [cell] }
                xa := { s.xa with faulted := s.xa.faulted.filter (· ≠ cell) } }

/-- Set a byte of the spare map, and its complement (R7, R300). -/
def setSpare (g : Nat) (b : BitVec 8) (s : State) : State :=
  { s with cells := { s.cells with
      spareMap := setAt g (fun _ => b) s.cells.spareMap, spareMapN := setAt g (fun _ => ~~~ b) s.cells.spareMapN } }

/-- A bed's spare is retired and the bed is without a spare; what it had still to compute is re-dealt (R300, R301). -/
def retireSpare (g : Nat) (s : State) : State :=
  match s.spareOf g with
  | none => s
  | some c =>
    let s := rewriteHealth (retireCell c (setSpare g 0xFF s))
    let spares := s.freeSpares (g / 20)
    let s := { s with xa := { s.xa with
      shadow := s.xa.shadow.filter (·.bed ≠ g)
      replays := s.xa.replays.map fun r =>
        { r with shares := (r.shares.map fun x => if x.1 = c then shareOut x.2.1 x.2.2 spares else [x]).flatten } } }
    rehelp (suspendShadows (fun y => s.xa.replays.any fun r => r.started && r.shares.any (·.1 = y)) s)

/-- A graft is scheduled, or where the bed's spare is gone or going, the CELL_LOSS re-plan (R153, R298, R300). -/
def scheduleGraft (cell : Nat) (s : State) : State :=
  let g := bedOf cell
  if s.cells.grafts.any (·.cell = cell) then s
  else if (s.spareOf g).isSome && !s.graftingIn g then
    { s with cells := { s.cells with grafts := s.cells.grafts ++ [{ cell := cell, decided := s.now }] } }
  else forcePlan 3 s

/-- What a faulted cell has not drained of the dwell just ended is discarded (R83). -/
def discardDraining (cell : Nat) (s : State) : State :=
  let undrained := s.xa.drain.isSome || s.xa.withheld.contains cell
  let ended := match s.xa.drain with
    | some x => some x.dwell
    | none => (s.xa.tieBreaks.find? (fun t => t.target.cell = cell)).map (fun t => t.dwell)
  let deal := (s.drainBank.find? (fun x => x.cell = cell)).map (fun x => x.deal)
  let s := { s with xa := { s.xa with
    shadow := s.xa.shadow.filter (·.target ≠ cell)
    tieBreaks := s.xa.tieBreaks.filter (·.target.cell ≠ cell)
    withheld := s.xa.withheld.filter (· ≠ cell) } }
  match undrained, ended, deal with
  | true, some d, some i => discardWork d cell i (s.setDrainBank (s.drainBank.filter (·.cell ≠ cell)))
  | _, _, _ => s

/-- A faulted cell's work in the dwell in progress is discarded, or in the dwell whose compute has ended before its
boundary (R83). -/
def discardComputing (cell deal : Nat) (s : State) : State :=
  match s.xa.computing, s.xa.lastStarted with
  | some d, _ => if s.xa.uncorr then s else discardWork d cell deal s
  | none, some d =>
    if s.computeBank.any (·.cell = cell) then
      discardWork d cell deal (s.setComputeBank (s.computeBank.filter (·.cell ≠ cell)))
    else s
  | none, none => s

/-- A cell faults (R82, R83): a spare is retired; a cell that no plan deals is retired at once; a dealt cell's work is
discarded and its graft scheduled. -/
def faultCell (cell : Nat) (s : State) : State :=
  let s := onCellStat cell (fun c => { c with faults := c.faults + 1 }) (s.bump .xaCellFault)
  let s := discardDraining cell s
  if s.spareOf (bedOf cell) = some cell then startReplays (retireSpare (bedOf cell) s)
  else
    match s.plan.active.bind fun p => p.cellMap.findIdx? (· = cell) with
    | none => startReplays (rewriteHealth (retireCell cell s))
    | some deal =>
      let s := { s with xa := { s.xa with faulted := s.xa.faulted ++ [cell] } }
      startReplays (scheduleGraft cell (discardComputing cell deal s))

/-- A cell that can fault: powered and neither faulted nor retired. -/
def State.canFault (s : State) (cell : Nat) : Bool :=
  s.dieRuns && s.stripeOn cell && !s.xa.faulted.contains cell && !s.cells.retired.contains cell

/-- R82: a cell monitor reports a fault. A routine that fails its check faults the cell at the boundary at which it would
have taken effect (R70). With no plan active or pending R70 names no such boundary: the cell faults at once (DESIGN CHOICE,
log 127). -/
def execCellFault (cell : Fin 1360) (cause : CellFaultCause) (s : State) : Out :=
  .next (if !s.canFault cell then s
    else match cause with
      | .routine =>
        let s := s.bump .xaRoutineBad
        if s.plan.active.isNone && s.plan.pendingPlan.isNone then faultCell cell s
        else if s.xa.routineBad.contains cell then s
        else { s with xa := { s.xa with routineBad := s.xa.routineBad ++ [cell.val] } }
      | .ecc | .supply | .clock => faultCell cell s)


/-- The helper's spare is busy with an earlier tie-break or a recomputation (R81). -/
def State.helperBusy (s : State) (t : TieBreak) : Bool :=
  let earlier := s.xa.tieBreaks.takeWhile fun u => u.shadow.bed ≠ t.shadow.bed
  earlier.any (·.helper = t.helper) ||
    (match s.spareOf t.helper with
     | some c => s.xa.replays.any fun r => r.started && r.shares.any (·.1 = c)
     | none => true)

/-- A cell has steps to complete: dealt work or a shadow check in the dwell being computed, a share of a recomputation that
runs, or a tie-break that runs (R68, R82). -/
def State.cellWorks (s : State) (cell : Nat) : Bool :=
  (s.xa.computing.isSome &&
    ((s.plan.active.any fun p => p.cellMap.contains cell) || s.xa.shadow.any fun x => x.spare = cell && x.entries.isEmpty)) ||
  (s.xa.replays.any fun r => r.started && r.shares.any (·.1 = cell)) ||
  (s.xa.tieBreaks.any fun t => s.spareOf t.helper = some cell && !s.helperBusy t)

/-- R82: a cell completes no step within 4,096 XCLK cycles while its operands are ready. -/
def execCellStallTimeout (cell : Fin 1360) (s : State) : Out :=
  .next (if s.canFault cell && s.cellWorks cell then faultCell cell s else s)

/-- Entries of a piece as a cell recomputes them, with the environment's errors. -/
def recompute (p : Plan) (pkts : List SlotPkt) (deal cell pos : Nat) (upsets : List Upset) : List Acc :=
  (upsets.foldl (fun x u => applyUpset u x)
    (formPiece p pkts deal cell 0 pos (stepsOf p.deal.m pos (p.deal.run deal)))).entries

/-- A boundary that waited is released when nothing holds it any more; `Boundary.lean` performs it. -/
def State.boundaryFree (s : State) : Bool := s.xa.drain.isNone && s.xa.withheld.isEmpty && s.beams.forming.isNone

/-- The outcome of a tie-break (the table of R81). -/
def decideTie (t : TieBreak) (result : List Acc) (s : State) : State :=
  let s := { s with xa := { s.xa with tieBreaks := s.xa.tieBreaks.filter (·.shadow.bed ≠ t.shadow.bed) } }
  let drop (s : State) : State :=
    if s.spareOf t.shadow.bed = some t.shadow.spare then retireSpare t.shadow.bed s else s
  if result = t.target.entries then drop (releaseTarget t.dwell t.target.cell s)
  else
    let s := if result = t.shadow.entries then s else drop s
    -- the withheld drain is discarded with the fault
    let s := { s with xa := { s.xa with tieBreaks := t :: s.xa.tieBreaks } }
    faultCell t.target.cell s

/-! ### Grafts and rotation at a boundary (R298, R301 to R303) -/

/-- A physical cell takes over another's deal index in a plan. -/
def Plan.swapCell (old new : Nat) (p : Plan) : Plan :=
  { p with cellMap := p.cellMap.map fun c => if c = old then new else c }

/-- In the active plan and in those published and not yet in effect. -/
def swapCells (old new : Nat) (s : State) : State :=
  moveRoutine old new { s with plan := { s.plan with
      active := s.plan.active.map (Plan.swapCell old new)
      pendingPlan := s.plan.pendingPlan.map (Plan.swapCell old new)
      follower := s.plan.follower.map (Plan.swapCell old new) } }

/-- A graft takes place (R298). -/
def doGraft (cell : Nat) (s : State) : State :=
  let g := bedOf cell
  match s.spareOf g with
  | none => if s.xa.faulted.contains cell then forcePlan 3 s else s
  | some sp =>
    let s := retireCell cell (setSpare g 0xFF (swapCells cell sp s))
    let s := { s with plan := { s.plan with mapGen := s.plan.mapGen + 1 } }.bump .xaGraft
    raiseEvent 9 (rewriteHealth (journalSpare 2 0 cell sp 0 s))

/-- The grafts due at a boundary: decided at least 2.0 us before it (R298). Those of a stripe that is off leave. -/
def doGrafts (s : State) : State :=
  let due := s.cells.grafts.filter fun j => s.passed j.decided 2000
  let s := { s with cells := { s.cells with grafts := s.cells.grafts.filter fun j => !s.passed j.decided 2000 } }
  due.foldl (fun s j => if s.stripeOn j.cell then doGraft j.cell s else s) s

/-- The spare role of a bed moves one position (R302). A bed whose spare is being grafted in does not take part. -/
def rotateBed (g : Nat) (s : State) : State :=
  match s.spareOf g with
  | none => s
  | some sp =>
    if s.graftingIn g then s
    else
      match ((List.range 16).map fun j => 17 * g + (sp - 17 * g + 1 + j) % 17).find? fun c => !s.cells.retired.contains c with
      | none => s
      | some c =>
        let s := setSpare g (BitVec.ofNat 8 (c - 17 * g)) (swapCells c sp s)
        journalSpare 2 1 c sp 0 { s with xa := { s.xa with shadow := s.xa.shadow.filter (·.bed ≠ g) } }

/-- Beds of a stripe (R13). -/
def bedsOf (st : Nat) : List Nat := ((List.range 4).map fun q => [20 * q + 2 * st, 20 * q + 2 * st + 1]).flatten

/-- The rotation step of a stripe: one MAP_GEN and one XA_ROTATION (R302; log 38). -/
def rotateStripe (st : Nat) (s : State) : State :=
  let old := s.cells.spareMap
  let s := (bedsOf st).foldl (fun s g => rotateBed g s) s
  if s.cells.spareMap = old then s
  else { s with plan := { s.plan with mapGen := s.plan.mapGen + 1 } }.bump .xaRotation

/-- The stripe that is due rotates, unless a plan has switched at this boundary. -/
def doRotation (switched : Bool) (s : State) : State :=
  match s.cells.rotDue with
  | none => s
  | some st =>
    if switched then s
    else
      let s := if s.cells.powered.getLsbD st && !s.cells.stripeLost.getLsbD st then rotateStripe st s else s
      { s with cells := { s.cells with rotDue := if st + 1 < 10 then some (st + 1) else none } }

/-- R302: the period expires: the rotation starts with stripe 0, unless ROTATION_PERIOD is 0 under a plan that is not
provisional. -/
def execRotationPeriod (s : State) : Out :=
  .next (match s.plan.active with
    | none => s
    | some p =>
      if !s.dieRuns || s.cells.rotDue.isSome || (s.sup.rotationPeriod = 0 && !p.provisional) then s
      else { s with cells := { s.cells with rotDue := some 0 } })

/-- Rows of the bank that becomes the compute bank are replaced (R303): corrected in two dwells within one hour, while the
bank has a spare row left. -/
def doRows (bank : Bool) (s : State) : State :=
  let fresh := s.xa.rowCorr.filter fun r => !s.passed r.at_ (3600 * 10 ^ 9)
  let s := { s with xa := { s.xa with rowCorr := fresh } }
  let keys := (fresh.map fun r => (r.cell, r.bank, r.row)).eraseDups
  let due := keys.filter fun k => k.2.1 = bank &&
    decide (2 ≤ ((fresh.filter fun r => (r.cell, r.bank, r.row) = k).map (·.at_)).eraseDups.length)
  due.foldl (fun s k =>
    if (s.xa.rowsSpared.filter fun x => x.1 = k.1 && x.2.1 = bank).length ≥ 2 then s
    else
      let s := { s with xa := { s.xa with
        rowsSpared := s.xa.rowsSpared ++ [k], rowCorr := s.xa.rowCorr.filter fun r => (r.cell, r.bank, r.row) ≠ k } }
      rewriteHealth (journalSpare 2 2 k.1 k.2.2 (bitOf bank) (s.bump .xaRowSpare))) s

end Sys2Proof.Machine
end

