-- ==== Sys2Proof/Machine/Switch.lean ====
section
/-! DEFINITION. A plan takes effect (R154, R155, R158, R182, R183). -/

namespace Sys2Proof.Machine
open Sys2Proof

/-- MC_RMW_PACE: 2 S / (D - 22 us) in units of 0.1 GB/s, rounded up (R26, R98). -/
def Plan.pace (p : Plan) : Nat :=
  let den := p.dNum - 22000 * p.dDen
  if den = 0 then 0 else (20 * p.P * p.Z * p.dDen + den - 1) / den

/-- Dwells of the ingest and the weights formed ahead are those of the plan that takes effect, where no F-engine sees the
change (R154). -/
def relabel (old new : W64) (s : State) : State :=
  let re (d : Dwell) : Dwell := if d.ver = old then { d with ver := new } else d
  let slot (x : Slot) : Slot :=
    if x.state == .arriving || x.state == .closed then { x with dwell := x.dwell.map re } else x
  { s with
    ingest := { s.ingest with
      expected := s.ingest.expected.map re
      slot0 := slot s.ingest.slot0, slot1 := slot s.ingest.slot1, slot2 := slot s.ingest.slot2
      bay := s.ingest.bay.map fun b => { b with dwell := re b.dwell } }
    beams := { s.beams with idle := { s.beams.idle with dwell := s.beams.idle.dwell.map re } } }

/-- The parameters of integrations that a plan starts (R103). -/
def Plan.integCfg (p : Plan) : IntegCfg := { len := p.req.integLen, width := p.req.harvestWidth }

/-- Integrations at a switch: the first plan starts them; a plan with LAYOUT stops them at its switch sweep, flushes over
the old layout and starts new ones (R90, R103, R158). -/
def switchIntegrations (prev : Option Plan) (q : Plan) (s : State) : State :=
  match prev with
  | none => startIntegrations q (q.req.start.map fun n => n / q.req.T) q.integCfg s
  | some p =>
    if !q.hasLayout then s
    else
      let running := s.rmw.flushLeft.isEmpty
      let s := { s with
        plan := { s.plan with flushing := true }
        rmw := { s.rmw with startAt := some 0, nextCfg := some q.integCfg } }
      if running then
        let stop := s.rmw.stopAt.getD (q.switchSample.getD 0 / p.req.T)
        beginFlush p { s with rmw := { s.rmw with stopAt := some stop } }
      else s

/-- The cold frame at a switch (R182, R183): regions are OFF when the base moves or the space shrinks; a lower budget
suspends regions, and a COOL plan resumes them. -/
def switchRegions (prev : Option Plan) (q : Plan) (s : State) : State :=
  match (match prev with | some p => some p | none => s.plan.old.head?) with
  | none => s
  | some p =>
    let s := if p.base 5 ≠ q.base 5 || q.coldSpace < p.coldSpace then discardRegions s else s
    let s := if q.cfBudget < p.cfBudget then suspendRegions q s else s
    if q.cause = 7 then resumeRegions s else s

/-- Faulted cells that the plan no longer deals are retired (R153, R299). -/
def retireLeft (q : Plan) (s : State) : State :=
  let gone := s.xa.faulted.filter fun c => !q.cellMap.contains c
  if gone.isEmpty then s else rewriteHealth (gone.foldl (fun s c => retireCell c s) s)

/-- A plan takes effect: it becomes active, and what was published with it is pending. -/
def takeEffect (q : Plan) (s : State) : State :=
  let prev := s.plan.active
  let q := { q with reason := 0 }
  -- the sweeps of a first plan count anew: none has started, and of none have weights begun
  let s := if prev.isSome then s
    else { s with xa := { s.xa with startedSweep := none }, beams := { s.beams with weightEnd := 0, gainHold := [], idle := {} } }
  -- a joiner is a member from the switch point of its plan (R376)
  let s := if s.boot.system = 1 then raiseEvent 4 { s with boot := { s.boot with system := 2 } } else s
  let before := match prev with
    | none => []
    | some p => if q.seenByF then (q.switchSample.getD 0, p.version) :: s.plan.before else s.plan.before
  let s := { s with plan := { s.plan with
    active := some q, old := prev.toList ++ s.plan.old, before := before, pendingPlan := s.plan.follower, follower := none
    dwellsSince := 0, stopCorr := s.plan.stopCorr && q.cellMap.any fun c => !s.stripeOn c } }
  let s := { s with
    ingest := { s.ingest with quiet := [] }
    rmw := { s.rmw with pace := BitVec.ofNat 16 q.pace } }
  let s := if q.routines || prev.isNone then swapRoutines q s else s
  let s := match s.plan.pendingPlan with | some f => if f.routines then writeRoutines f s else s | none => s
  let s := raiseEvent 0 (journalPlan 1 q s)
  let s := retireLeft q (switchRegions prev q (switchIntegrations prev q s))
  match prev with
  | none =>
    match q.req.start with
    | some n => openSlot { s with ingest := { s.ingest with expected := some (startDwell q n) } }
    | none => { s with ingest := { s.ingest with expected := none, opened := false } }
  | some p => if q.seenByF then s else relabel p.version q.version s

/-- While no plan is active, a plan published under an epoch mapping takes effect when device time reaches its switch
sample (R154). -/
def switchFirst (s : State) : State :=
  match s.plan.active, s.plan.pendingPlan with
  | none, some q =>
    if s.time.epochSet && decide (s.sampleTime (q.switchSample.getD 0) ≤ s.time16) then takeEffect q s else s
  | _, _ => s

/-- Time goes on to the switch sample of a first plan (log 16), and the plan takes effect. -/
def waitFirst (s : State) : State :=
  match s.plan.active, s.plan.pendingPlan with
  | none, some q =>
    let d := s.sampleTime (q.switchSample.getD 0) - s.time16
    switchFirst (if 0 < d then s.advanceTo (s.now + (d.toNat + 2 ^ 17 - 1) / 2 ^ 17) else s)
  | _, _ => s

/-- The plans whose switch point is the boundary at which dwell `d` starts (R154): one that an F-engine sees starts with
its own first dwell; one that changes routines waits a full dwell; any other is due. -/
def switchDue (d : Dwell) (s : State) : Option Plan :=
  match s.plan.pendingPlan with
  | none => none
  | some q =>
    if d.ver = q.version then some q
    else if q.seenByF then
      none
    else if !q.routines || s.plan.dwellsSince ≥ 1 || (match s.plan.follower with | some f => f.version = d.ver | none => false)
    then some q else none

/-- Every plan due at the boundary of dwell `d` takes effect: an interim plan, then the follower whose first dwell it is;
whether any did. -/
def switchPlans (d : Dwell) (s : State) : State × Bool :=
  match switchDue d s with
  | none => ({ s with plan := { s.plan with dwellsSince := s.plan.dwellsSince + 1 } }, false)
  | some q =>
    let s := takeEffect q s
    match s.plan.pendingPlan with
    | some f => if f.version = d.ver then (takeEffect f s, true) else (s, true)
    | none => (s, true)

end Sys2Proof.Machine
end

