-- ==== Sys2Proof/Machine/Boundary.lean ====
section
/-! DEFINITION. The dwell pipeline (R24, R48, R49): compute, boundaries, drains, the groups of the B array. -/

namespace Sys2Proof.Machine
open Sys2Proof

/-! ### The end of a dwell's compute (R48.4, R77, R83, R155) -/

/-- The spare's result of a shadow check, with the environment's errors (R80). -/
def runShadow (p : Plan) (pkts : List SlotPkt) (upsets : List Upset) (x : Shadow) : Shadow :=
  { x with entries := recompute p pkts x.deal x.spare x.pos upsets }

/-- A dwell left uncorrelated is handled as an absent one: its slot waits for no commit (R155). -/
def leaveUncorrelated (d : Dwell) (i : Nat) (s : State) : State :=
  let s := s.setSlot i { s.slot i with committed := true }
  journalAbsent d 1 { s with plan := { s.plan with uncorrelated := s.plan.uncorrelated + 1 } }

/-- A corrected ECC error: counted, in the survey too; a slot-file row keeps its moment (R82, R84, R303). -/
def correctedError (s : State) (x : Nat × CellMem) : State :=
  let s := onCellStat x.1 (fun c => { c with ecc := c.ecc + 1 }) (s.bump .xaEccCorr)
  match x.2 with
  | .slotRow bank row => { s with xa := { s.xa with rowCorr := s.xa.rowCorr ++ [{ cell := x.1, bank := bank, row := row, at_ := s.now }] } }
  | .xMem | .yMem | .routine => s

/-- What the cell monitors saw during the dwell: waits for operand buffers and corrected errors (R68, R82, R84). -/
def cellEvents (ev : CellEvents) (s : State) : State :=
  let s := ev.waits.foldl (fun s c => onCellStat c (fun x => { x with irrWait := x.irrWait + 1 }) (s.bump .xaIrrWait)) s
  ev.corrected.foldl correctedError s

/-- R48: compute ends, and the slot becomes RETAINED. -/
def execComputeEnd (upsets : List Upset) (events : CellEvents) (s : State) : Out :=
  .next (match s.xa.computing with
    | none => s
    | some d =>
      match s.planOf d.ver with
      | none => s
      | some p =>
        if !s.arraysRun then s
        else
          let i := s.xa.computingSlot
          let pkts := (s.slot i).pkts
          let s := s.waitFor s.xa.computeAt ((5 * p.tX + 7) / 8)
          let s := s.setSlot i { s.slot i with state := .retained }
          let s := cellEvents events { s with xa := { s.xa with computing := none } }
          if s.xa.uncorr || s.plan.stopCorr then
            let s := s.setComputeBank []
            let rs := s.xa.replays.filter fun r => r.dwell != d
            leaveUncorrelated d i { s with xa := { s.xa with uncorr := true, shadow := [], replays := rs } }
          else
            let sums := (arraySums p pkts s.xa.faulted).map fun x => upsets.foldl (fun x u => applyUpset u x) x
            let s := fillOperands p d (s.setComputeBank sums)
            let t := tallyCounts p pkts
            let s := (s.bumpBy .xaTallyExc t.1).bumpBy .xaTallyOver (bitOf t.2)
            let shadows := s.xa.shadow.map (runShadow p pkts upsets)
            startReplays { s with xa := { s.xa with shadow := shadows, dwellCount := s.xa.dwellCount + 1 } })

/-! ### Shadow comparisons (R81) -/

/-- One bed compares its spare's slot with the target's. -/
def compareShadow (d : Dwell) (s : State) (x : Shadow) : State :=
  match s.drainBank.find? fun y => y.cell = x.target && y.pos = x.pos with
  | none => s
  | some y =>
    let s := onCellStat x.target (fun c => { c with shadowDone := c.shadowDone + 1 }) (s.bump .xaShadowDone)
    if y.entries = x.entries then s
    else
      let s := onCellStat x.target (fun c => { c with shadowMismatch := c.shadowMismatch + 1 }) (s.bump .xaShadowMismatch)
      let s := markShadow d x.pos s
      match s.tieHelper x.bed with
      | none => unresolvedShadow d x s
      | some h => beginTie h d x { s with xa := { s.xa with
          withheld := s.xa.withheld ++ [x.target]
          tieBreaks := s.xa.tieBreaks ++ [{ dwell := d, shadow := x, target := y, helper := h }] } }

/-- Every bed compares at the boundary, in bed order. -/
def compareShadows (d : Dwell) (s : State) : State :=
  let xs := s.xa.shadow
  xs.foldl (compareShadow d) { s with xa := { s.xa with shadow := [] } }

/-! ### The boundary (R48, R71, R74) -/

/-- The dwell whose compute has ended is staged, its bank drains, and the shadow checks compare (R71, R74, R75, R77,
R81). -/
def endDwell (s : State) : State :=
  let s := (s.setDrainBank [])
  let s := { s with xa := { s.xa with bank := !s.xa.bank } }
  match s.xa.lastStarted, s.xa.uncorr with
  | some e, false =>
    match s.planOf e.ver, s.slotOf e with
    | some p, some i =>
      let x := stageDwell p e (s.slot i).pkts s.now (s.counted e)
      let s := { s with xa := { s.xa with staging := s.xa.staging ++ [x], drain := some { dwell := e } } }
      drainFinished e (compareShadows e s)
    | _, _ => s
  | _, _ => s

/-- The older of two RETAINED slots is released when its commit records are complete, and otherwise waited for (R48,
R49). -/
def releaseOlder (s : State) : State :=
  match [0, 1, 2].filter fun i => (s.slot i).state == .retained with
  | [a, b] =>
    match (s.slot a).dwell, (s.slot b).dwell with
    | some da, some db =>
      let older := if some da = s.xa.lastStarted then b else if some db = s.xa.lastStarted then a
        else if s.dwellDist da db ≥ 0 then a else b
      if (s.slot older).committed then freeSlot older s
      else { s with ingest := { s.ingest with lateReleaseWait := true } }
    | _, _ => s
  | _ => s

/-- The shadow checks that the beds' spares run in a dwell (R80). -/
def chooseShadows (p : Plan) (d : Dwell) (s : State) : List Shadow :=
  (List.range 80).filterMap fun g =>
    match s.spareOf g, shadowTarget p g d with
    | some sp, some (i, cell, pos) =>
      if s.stripeOn sp && !s.xa.faulted.contains cell && !(s.xa.replays.any fun r => r.started && r.shares.any (·.1 = sp)) &&
          !s.xa.tieBreaks.any (·.helper = g) then
        some { bed := g, spare := sp, target := cell, deal := i, pos := pos }
      else none
    | _, _ => none

/-- Stripes that STRIPE_POWER switches off: at the later of the cue's point and the boundary from which the plan deals none
of their cells (R307). -/
def stripesOff (d : Dwell) (s : State) : State :=
  let due (x : StripeOff) : Bool :=
    (match x.point with | some k => decide (k ≤ d.sweep) | none => false) &&
      (match s.plan.active with
       | some p => p.cellMap.all fun c => stripeOfBed (bedOf c) ≠ x.stripe
       | none => true)
  let off := (s.cells.stripeOff.filter due).foldl (fun (n : BitVec 10) x => n ||| BitVec.ofNat 10 (2 ^ x.stripe)) 0
  { s with cells := { s.cells with stripeOff := s.cells.stripeOff.filter fun x => !due x, powered := s.cells.powered &&& ~~~ off } }

/-- What stewards and supervisors do at a boundary: grafts, rotation, rows, margins, switched-off stripes, cells whose new
routine is bad, an orderly handover (R70, R298, R302, R303, R307, R315, R326). -/
def boundaryWork (d : Dwell) (switched : Bool) (s : State) : State :=
  let s := doRotation switched (doGrafts s)
  let s := doRows s.xa.bank s
  let margins := s.cells.marginNext
  let s := { s with cells := { s.cells with marginNext := [] } }
  let s := margins.foldl (fun (s : State) x => applyMargin x.1 x.2 s) s
  let s := stripesOff d s
  let bad := s.xa.routineBad
  let s := { s with xa := { s.xa with routineBad := [] } }
  let s := bad.foldl (fun (s : State) c => if s.canFault c then faultCell c s else s) s
  if s.sup.handoverDue = 0 then s else handover s.sup.handoverDue s

/-- During the dwell before a plan's switch boundary the cells load its routines and check them (R70). -/
def loadComing (d : Dwell) (s : State) : State :=
  match s.plan.pendingPlan with
  | some q =>
    let comes := if q.seenByF then decide ((s.nextDwell d).ver = q.version) else true
    if q.routines && comes && s.plan.active.isSome && !s.routinesLoaded q then loadRoutines q s else s
  | none => s

/-- The dwell starts compute in slot `i` (R24, R48.3, R109, R171, R210). -/
def startCompute (p : Plan) (d : Dwell) (i : Nat) (s : State) : State :=
  let s := s.setSlot i { s.slot i with state := .computing }
  let s := { s with xa := { s.xa with
    computing := some d, computeAt := s.now, computingSlot := i, lastStarted := some d, startedSweep := some d.sweep, uncorr := s.plan.stopCorr } }
  let s := if s.plan.stopCorr then s
    else
      let s := s.xa.faulted.foldl (fun s c => match p.cellMap.findIdx? (· = c) with
        | some deal => discardWork d c deal s
        | none => s) s
      let xs := chooseShadows p d s
      let s := xs.foldl (fun s x => setRoutine x.spare (shadowRoutine p x.deal x.pos false).words s) s
      { s with xa := { s.xa with shadow := xs } }
  let s := loadComing d s
  let s := fixStart d.sweep s
  let s := if s.rmw.running && (match s.rmw.stopAt with | some k => decide (k ≤ d.sweep) | none => false) then
      beginFlush p s else s
  let s := startForming p d i s
  let s := { s with riddle := { s.riddle with sieves := s.riddle.sieves.map fun x =>
    if x.cfg.chan = d.chan then { x with coefErr := false } else x } }
  closeSieves (streamGaps p (captureDwell p d (s.slot i).pkts s))

/-! ### Leaving a system (R15, R377) -/

/-- The device is a system of one: its own caller and lead, with index 0 (R15). -/
def systemOfOne (s : State) : State :=
  let m := s.mesh
  chooseSource <| followRole { s with
    boot := { s.boot with system := 0 }
    time := { s.time with meshSilent := true, aligned := false }
    mesh := { segment := m.segment, caller := true, lead := true, partitionSeen := m.partitionSeen, fseq := m.fseq, seen := m.seen,
              tx := m.tx, hbAt := m.hbAt, surveySentAt := m.surveySentAt } }

/-- SYSTEM_LEAVE acts (R377): integrations end as by INTEG_STOP and their flush passes follow, the plan ends with what was
published or being computed after it, and the device becomes a system of one. What arrives for the plan is discarded; dwells
that have started compute commit as before. -/
def leaveSystem (s : State) : State :=
  let s := match s.plan.active with
    | none => s
    | some p =>
      let s := if s.rmw.running then beginFlush p { s with rmw := { s.rmw with stopAt := some s.nextSweep, startAt := none } } else s
      let s := match s.plan.pendingPlan with | some q => withdrawPlan q 0 s | none => s
      let s := [0, 1, 2].foldl (fun (s : State) i =>
        if (s.slot i).state == .arriving || (s.slot i).state == .closed || ((s.slot i).state == .retained && (s.slot i).committed)
        then freeSlot i s else s) s
      { s with
        plan := { s.plan with active := none, follower := none, followerWaits := none, computing := none, stopCorr := false, old := p :: s.plan.old, before := [] }
        ingest := { s.ingest with bay := [], expected := none, opened := false, quiet := [] } }
  raiseEvent 4 (systemOfOne s)

/-- SYSTEM_LEAVE cues in the hardware schedule whose point has come when a dwell of sweep `k` is to start. -/
def State.leaveCues (s : State) (k : Nat) : List CueEntry :=
  s.cues.hw.filter fun e => e.opcode = 0x0207 && decide (e.point.toNat / s.planT ≤ k)

/-- The boundary from which SYSTEM_LEAVE acts. -/
def State.leaveDue (s : State) (d : Dwell) : Bool :=
  (match s.mesh.leaveAt with | some k => decide (k ≤ d.sweep) | none => false) || !(s.leaveCues d.sweep).isEmpty

/-- SYSTEM_LEAVE acts at the boundary of dwell `d`; a cue that asked for it has run. -/
def leaveAtBoundary (d : Dwell) (s : State) : State :=
  let es := s.leaveCues d.sweep
  let s := es.foldl (fun (s : State) e =>
    journalCue s.srcTamzar 0 (s.dwellSample d) e (s.bump .tmCueRun)) s
  let cues := { s.cues with hw := s.cues.hw.filter fun e => !es.contains e, done := s.cues.done ++ es.map fun e => (e.system, e.seq)
                            packets := s.cues.packets.filter fun x => !es.any (·.id = x.1) }
  leaveSystem { s with cues := cues }

/-- A boundary: slot `i` is CLOSED, nothing computes, drains or forms. -/
def boundary (i : Nat) (s : State) : State :=
  match (s.slot i).dwell with
  | none => s
  | some d0 =>
    let s := endDwell { s with xa := { s.xa with boundaryHeld := false } }
    let (s, switched) := switchPlans d0 s
    let d := (s.slot i).dwell.getD d0
    match s.planOf d.ver with
    | none => s
    | some p =>
      let s := releaseOlder (boundaryWork d switched s)
      let p := (s.planOf d.ver).getD p
      if s.leaveDue d then leaveAtBoundary d s else openSlot (startReplays (startCompute p d i s))

/-- R48, R76, R111: a slot is CLOSED and none is COMPUTING. The boundary takes place, or waits for the drain or for the B
array. While no plan is active, the switch point of a plan that waits for its switch sweep comes (R154, log 16). -/
def execDwellBoundary (s : State) : Out :=
  .next (match s.slotIn .closed, s.xa.computing with
    | some i, none =>
      if !s.arraysRun || s.xa.boundaryHeld then s
      else if s.boundaryFree then boundary i s
      else
        let drain := s.xa.drain.isSome || !s.xa.withheld.isEmpty
        let s := { s with xa := { s.xa with boundaryHeld := true } }
        let s := if drain then s.bump .xaDrainHold else s
        if s.beams.forming.isSome then s.bump .bfHold else s
    | none, none => if s.arraysRun then waitFirst s else s
    | _, _ => s)

/-- A held boundary takes place once nothing holds it. -/
def releaseBoundary (s : State) : State :=
  if s.xa.boundaryHeld && s.boundaryFree then
    match s.slotIn .closed with | some i => boundary i s | none => s
  else s

/-! ### Drains, tie-breaks and recomputation -/

/-- R76: every cell but those that withhold has drained. Parts arrive in staging now (log 39); block pairs become ready and
the RMW engine takes them (R94). -/
def execDrainEnd (s : State) : Out :=
  .next (match s.xa.drain with
    | none => s
    | some x =>
      match s.planOf x.dwell.ver with
      | none => s
      | some p =>
        if !s.arraysRun then s
        else
          let s := drainCells p x.dwell (fun c => !s.xa.withheld.contains c) s
          let s := { s with xa := { s.xa with drain := none } }
          let s := s.onStaged x.dwell fun h => { h with drained := true }
          releaseBoundary (advancePass s))

/-- R81: the tie-break of a bed's shadow check ends. -/
def execTieBreakDone (bed : Fin 80) (upsets : List Upset) (s : State) : Out :=
  .next (match s.xa.tieBreaks.find? (·.shadow.bed = bed.val) with
    | none => s
    | some t =>
      match s.planOf t.dwell.ver, s.slotOf t.dwell, s.spareOf t.helper with
      | some p, some i, some sp =>
        if !s.arraysRun || s.helperBusy t then s
        else
          let r := recompute p (s.slot i).pkts t.shadow.deal sp t.shadow.pos upsets
          releaseBoundary (advancePass (decideTie t r s))
      | _, _, _ => s)

/-- R83: a spare finishes its share of the recomputation of a cell's work; the parts drain, once the dwell is staged. -/
def execReplayRecomputeDone (cell : Nat) (spare : Nat) (s : State) : Out :=
  .next (match s.xa.replays.find? fun r => r.started && r.cell = cell && r.shares.any (·.1 = spare) with
    | none => s
    | some r =>
      if !s.arraysRun then s
      else
        let done := r.shares.filter (·.1 = spare)
        let r' := { r with shares := r.shares.filter (·.1 ≠ spare) }
        let r' := if (s.staged r.dwell).isSome then r' else { r' with finished := r'.finished ++ done }
        let s := { s with xa := { s.xa with replays := s.xa.replays.map fun x => if x = r then r' else x } }
        let s := if (s.staged r.dwell).isSome then drainShares r' done s else s
        advancePass (endReplays s))

/-! ### The B array (R109, R125 to R127) -/

/-- Everything of one formed group: beam records, rows, sieves, captures. -/
def formGroup (p : Plan) (d : Dwell) (s : State) : State :=
  let g := s.beams.group
  let first := d.sweep * p.req.T
  let pkts := (s.slot s.beams.formingSlot).pkts
  let ins := (List.range 4).map fun u => inputRows p pkts (4 * g + u)
  let (rows, s) := s.beams.weights.beams.foldl (fun (acc : List BeamRow × State) b =>
    let (rows, s) := acc
    let err := s.beams.weights.err.contains b.beam
    let o := beamGroup p pkts ins b (s.swapsOf b.beam) first g err
    let row : BeamRow := { beam := b.beam, samples := o.vals.map fun v => (beamClamp true v).1 }
    let (rec_, clamped) := beamRecord p d b o err g s
    let s := s.bumpBy .bfLowValid o.low
    let s := s.bumpBy .bfClamped clamped
    let s := if b.desc.egress then
        enqueueRecord 1 rec_ (if s.classServed 1 && !s.queueHas 1 rec_.length then s else s.bump .bfRecords) else s
    (rows ++ [row], s)) ([], s)
  let joined := if g = 0 then rows
    else s.beams.rows.map fun x =>
      { x with samples := x.samples ++ (match rows.find? (·.beam = x.beam) with | some r => r.samples | none => []) }
  let s := { s with beams := { s.beams with rows := joined, group := g + 1 } }
  riddleGroup d (first + 1024 * g) rows (streamGroup p d pkts joined g (captureRows d rows s))

/-- The last group of a dwell has been formed: the B array is idle; swaps whose last sample lies in a sweep now over take
their target (R124), regions freeze (R179), sieve records close (R136). -/
def endForming (p : Plan) (d : Dwell) (s : State) : State :=
  let s := { s with beams := { s.beams with forming := none } }
  let s := if p.order.getLast? = some d.chan then
      finishSwaps (fun x => decide ((x.stop - 1) / p.req.T ≤ d.sweep)) s else s
  releaseBoundary (closeSieves (freezeRegions s))

/-- R127: a group of four sub-dwells is formed; the beams given are those whose weights the weight store returned with an
uncorrectable error (R119). -/
def execBeamGroupFormed (badWeights : List Nat) (s : State) : Out :=
  .next (match s.beams.forming with
    | none => s
    | some d =>
      match s.planOf d.ver with
      | none => s
      | some p =>
        if !s.arraysRun then s
        else
          let s := formGroup p d (badWeights.foldl storeError s)
          if s.beams.group ≥ p.req.T / 1024 then endForming p d s else s)

/-- XA_STATUS (R84). -/
def xaStatus (s : State) : W32 :=
  let (wide, a) := match s.plan.active with | some p => (p.req.wide, p.A) | none => (false, 0)
  BitVec.ofNat 32 (bitOf s.xa.computing.isSome + 2 * bitOf s.xa.bank + 4 * bitOf s.xa.drain.isSome + 8 * bitOf wide +
    16 * s.candidates.length + 65536 * a)

/-- R84, R329: XA_CNT_CLR. -/
def execXaCntClr (value : W32) (s : State) : Out :=
  .next (overBus (clearOn 0x280C 0x2844 value) s)

end Sys2Proof.Machine
end

