-- ==== Sys2Proof/Machine/Spares.lean ====
section
/-! DEFINITION. Spares by command and by test (R299, R300, R304 to R309, R326): GRAFT, SPARE_MAP_GET, STRIPE_POWER,
margins by the hour, Loam banks. -/

namespace Sys2Proof.Machine
open Sys2Proof

/-! ### GRAFT, SPARE_MAP_GET, STRIPE_POWER -/

/-- GRAFT: the checks of R299; answered at once. -/
def graftRun (c : Ctx) (s : State) : State × Answer :=
  let cell := fieldAt 0 2 c.par
  let g := bedOf cell
  if cell ≥ 1360 || s.spareOf g = some cell || s.cells.retired.contains cell then (s, ansField 32)
  else
    match s.plan.active with
    | none => (rewriteHealth (retireCell cell s), ansOk (le2 0xFFFF ++ le2 s.plan.mapGen.toNat))
    | some p =>
      if !p.cellMap.contains cell then (s, ansField 32)
      else
        match s.spareOf g with
        | none => (s, ansRefuse .noSpare)
        | some sp =>
          if s.graftingIn g then (s, ansRefuse .noSpare)
          else (scheduleGraft cell s, ansOk (le2 sp ++ le2 s.plan.mapGen.toNat))

/-- GRAFT. -/
def opGraft : OpDef := { code := 0x0902, form := formLen 4, res0 := firstRes0 [(2, 2)], run := graftRun }

/-- R299. -/
def execGraft (k : KcpIn) (s : State) : Out := .next (kcpCommand opGraft k s)

/-- SPARE_MAP_GET: the map with its complements (R300). -/
def opSpareMapGet : OpDef :=
  { code := 0x0901, form := formLen 0
    fault := fun _ s => !(s.cells.spareMapN == compl s.cells.spareMap)
    run := fun _ s => (s, ansOk (le2 s.plan.mapGen.toNat ++ zeros 2 ++ s.cells.spareMap ++ s.cells.spareMapN)) }

/-- R300. -/
def execSpareMapGet (k : KcpIn) (s : State) : Out := .next (kcpCommand opSpareMapGet k s)

/-- The STRIPE and ON fields of STRIPE_POWER, or the offset of the one refused. -/
def stripeArgs (c : Ctx) : Nat ⊕ (Nat × Bool) :=
  let st := fieldAt 0 1 c.par
  let on := fieldAt 1 1 c.par
  if st ≥ 10 then .inl 32 else if on > 1 then .inl 33 else .inr (st, on = 1)

/-- A stripe powers up and tests its cells (R307). -/
def powerUp (st : Nat) (s : State) : State :=
  let s := { s with cells := { s.cells with stripeOff := s.cells.stripeOff.filter (·.stripe ≠ st) } }
  if s.cells.powered.getLsbD st then s
  else { s with cells := { s.cells with
    powered := s.cells.powered ||| BitVec.ofNat 10 (2 ^ st), stripeTest := s.cells.stripeTest ++ [st] } }

/-- STRIPE_POWER is accepted (R307): ON of a stripe lost through phase faults is refused; OFF starts the STRIPE_LOSS
re-plan, for the point given or the cue that waits. -/
def stripeAccept (point : Option Nat) (cue : Option Nat) (c : Ctx) (s : State) : State × Answer :=
  match stripeArgs c with
  | .inl o => (s, ansField o)
  | .inr (st, true) => if s.cells.stripeLost.getLsbD st then (s, ansRefuse .noSpare) else (s, ansOk)
  | .inr (st, false) =>
    if !s.cells.powered.getLsbD st || s.cells.stripeOff.any (·.stripe = st) then (s, ansOk)
    else
      let s := { s with cells := { s.cells with
        stripeOff := s.cells.stripeOff ++ [{ stripe := st, point := point, cue := cue }] } }
      (forcePlan 4 s, ansOk)

/-- STRIPE_POWER. Without EXEC_AT its point is now; with no plan active the stripe switches at once. -/
def opStripePower : OpDef :=
  { code := 0x0903, cue := some .sweep, form := formLen 4, res0 := firstRes0 [(2, 2)]
    run := fun c s =>
      let (s, a) := stripeAccept (some 0) none c s
      match stripeArgs c with
      | .inr (st, true) => if statusRefused a.status then (s, a) else (powerUp st s, a)
      | .inr (_, false) => (if s.plan.active.isNone then stripesOff { ver := 0, chan := 0, sweep := 0 } s else s, a)
      | .inl _ => (s, a)
    accept := fun c _ s => stripeAccept none (some c.cueId) c s
    atPoint := fun c s =>
      match stripeArgs c with
      | .inr (st, true) => powerUp st s
      | .inr (st, false) =>
        { s with cells := { s.cells with stripeOff := s.cells.stripeOff.map fun x =>
            if x.stripe = st && x.cue = some c.cueId then { x with point := s.xa.startedSweep, cue := none } else x } }
      | .inl _ => s }

/-- R307. -/
def execStripePower (k : KcpIn) (s : State) : Out := .next (kcpCommand opStripePower k s)

/-- R307: the cells of a powered stripe have passed their test and rejoin the candidates. -/
def execStripeTestDone (stripe : Fin 10) (s : State) : Out :=
  .next (if s.dieRuns && s.cells.stripeTest.contains stripe.val then
    rewriteHealth { s with cells := { s.cells with stripeTest := s.cells.stripeTest.filter (· ≠ stripe.val) } }
    else s)

/-! ### Margins by the hour (R326) -/

/-- A worn cell is grafted out under R298: at once retired with no plan; only where its bed has a spare to take over. -/
def wornCell (cell : Nat) (s : State) : State :=
  let g := bedOf cell
  if cell ≥ 1360 || s.spareOf g = some cell || s.cells.retired.contains cell || s.xa.faulted.contains cell then s
  else
    match s.plan.active with
    | none => rewriteHealth (retireCell cell s)
    | some p => if p.cellMap.contains cell && (s.spareOf g).isSome && !s.graftingIn g then scheduleGraft cell s else s

/-- The hourly rule for one stripe in DX2-compatible mode. -/
def hourlyStripe (s : State) (x : Int × Nat) : State :=
  let (slack, st) := x
  if 25 ≤ slack then s
  else
    let n := match s.cells.marginNext.find? (·.1 = st) with | some (_, n) => n | none => s.cells.margin.getD st 0
    if n < 8 then scheduleMargin st (n + 1) s
    else { s with cells := { s.cells with marginExhausted := s.cells.marginExhausted ||| BitVec.ofNat 10 (2 ^ st) } }

/-- R326: the hour's slack readings: of cells, and the smallest of each stripe, in ps. -/
def execMarginHourly (cellSlack : List (Nat × Int)) (stripeSlack : List Int) (s : State) : Out :=
  .next (if !s.dieRuns then s
    else
      let s := readStripes s
      let s := { s with cells := { s.cells with
        stripeRead := s.cells.stripeRead.zipIdx.map fun (r, i) =>
          match stripeSlack[i]? with | some v => { r with slackMin := v } | none => r } }
      let s := cellSlack.foldl (fun s x => onCellStat x.1 (fun c => { c with slack := x.2 }) s) s
      let steps := s.cells.margin
      let worn := cellSlack.filter fun x => decide (x.2 < 10) &&
        (!s.cells.marginMode || decide (steps.getD (stripeOfBed (bedOf x.1)) 0 = 8))
      let s := worn.foldl (fun s x => wornCell x.1 s) s
      if s.cells.marginMode then ((stripeSlack.take 10).zipIdx).foldl hourlyStripe s else s)

/-! ### Loam banks (R304, R305) -/

/-- Group of a bank. -/
def bankGroup (b : Nat) : Nat := b / 16

/-- A group of banks has no spare left: NO_SPARE is journaled (R304). -/
def loamNoSpare (unit : Nat) (s : State) : State :=
  let was := s.cells.loamNoSpareSeen
  let s := journalSpare 2 8 unit 0 0 { s with cells := { s.cells with loamNoSpareSeen := true } }
  if was then s else raiseEvent 9 s

/-- A bank is to be replaced (R304): the copy to its group's spare begins, or the bank stays in service. -/
def replaceBank (b : Nat) (s : State) : State :=
  if s.cells.loamCopy.contains (bankGroup b, b) || s.cells.loamRemap.contains (bankGroup b, b) &&
      !s.cells.loamSpareUsed.getLsbD (bankGroup b) then s
  else if s.cells.loamSpareUsed.getLsbD (bankGroup b) || s.cells.loamCopy.any (·.1 = bankGroup b) then loamNoSpare b s
  else { s with cells := { s.cells with loamCopy := s.cells.loamCopy ++ [(bankGroup b, b)] } }

/-- R304: a scrub of the Loam ends: the words it corrected (bank, word), and the groups whose spare failed its test. A bank
with corrections in 16 distinct words within one hour is replaced. -/
def execLoamScrub (corrected : List (Nat × Nat)) (badSpares : List Nat) (s : State) : Out :=
  .next (if !s.dieRuns then s
    else
      let s := s.bumpBy .genLoamCe corrected.length
      let kept := s.cells.loamCorr.filter fun x => !s.passed x.2.2 (3600 * 10 ^ 9)
      let all := kept ++ corrected.map fun x => (x.1, x.2, s.now)
      let words (b : Nat) : Nat := ((all.filter (·.1 = b)).map (·.2.1)).eraseDups.length
      let bad := ((corrected.map (·.1)).eraseDups).filter fun b => decide (b < 256 ∧ 16 ≤ words b)
      let s := { s with cells := { s.cells with loamCorr := all.filter fun x => !bad.contains x.1 } }
      let s := bad.foldl (fun s b => replaceBank b s) s
      badSpares.foldl (fun s g => if g < 16 then loamNoSpare (256 + g) s else s) s)

/-- R304: the copy ends: the bank remap switches, the replacement is journaled and counted, the health record keeps it. -/
def execLoamBankCopyDone (group : Fin 16) (s : State) : Out :=
  .next (match s.cells.loamCopy.find? (·.1 = group.val) with
    | none => s
    | some x =>
      if !s.dieRuns then s
      else
        let s := { s with cells := { s.cells with
          loamCopy := s.cells.loamCopy.filter (·.1 ≠ group.val), loamRemap := s.cells.loamRemap ++ [x]
          loamRemapN := s.cells.loamRemapN ++ [remapCompl x]
          loamSpareUsed := s.cells.loamSpareUsed ||| BitVec.ofNat 16 (2 ^ group.val) } }
        raiseEvent 9 (rewriteHealth ((journalSpare 2 3 x.2 (256 + group.val) 0 s).bump .genLoamGraft)))

/-- The 8 bytes of a seedbed word read as the flagged code (R305): word `w` of a block's sub-dwell, 2,048 words a half in
wide mode. -/
def flagWord (wide : Bool) (blk sub w : Nat) (k : SlotPkt) : SlotPkt :=
  let half := if wide then w / 1024 else 0
  let o := 8 * (w % 1024)
  if k.block = blk && k.sub = sub && k.half = half then
    { k with data := k.data.take o ++ List.replicate 8 (if wide then 0x80 else 0x88) ++ k.data.drop (o + 8) }
  else k

/-- The handling of each region (the table of R305). Placement tables are rewritten from the almanac, without effect on
any value. -/
def loamPlace (place : LoamPlace) (s : State) : State :=
  match place with
  | .seedbed slot blk sub w =>
    let x := s.slot slot
    match x.dwell.bind fun d => s.planOf d.ver with
    | some p => if slot < 3 then s.setSlot slot { x with pkts := x.pkts.map (flagWord p.req.wide blk sub w) } else s
    | none => s
  | .staging pos =>
    match s.xa.staging.find? fun x => x.pairs.any fun b => b.pos = pos with
    | some x => onPairs x.dwell (fun b => if b.pos = pos then { b with replayed := true } else b) s
    | none => s
  | .inflight pos =>
    match s.rmw.pass with
    | none => s
    | some ps =>
      match s.planOf ps.dwell.ver with
      | none => s
      | some p =>
        if ps.flight.any (·.pos = pos) then
          let s := sumLost (journalRmwFail p ps.dwell 1 pos (s.bump .mcRmwReadUe))
          let ps := { ps with
            sumLost := true
            flight := ps.flight.map fun x =>
              if x.pos = pos then { x with old := some (List.replicate 1024 (0, 0)), readUe := true } else x }
          tryQueue p (s.setPass (some ps))
        else s
  | .harvestQueue index => s.setQueue 3 (s.lanes.qHarvest.eraseIdx index)
  | .beamTable b => tableError b s
  | .placement => s
  | .riddle i bankB => s.onSieve i fun x => if x.bank = bankB then { x with coefErr := true } else x

/-- The argument of the journal entry: it names slot, block and sub-dwell of a seedbed word (R305). -/
def loamArg : LoamPlace → Nat
  | .seedbed slot blk sub _ => slot + 2 ^ 8 * blk + 2 ^ 16 * sub
  | .staging pos => pos
  | .inflight pos => pos
  | .harvestQueue i => i
  | .beamTable b => b
  | .placement => 0
  | .riddle i b => i + 2 ^ 8 * bitOf b

/-- R305: an uncorrectable or poisoned Loam read: counted, journaled with its address, handled by region; its bank is
replaced (R304). -/
def execLoamUncorrectableRead (place : LoamPlace) (bank : Fin 256) (addr : Nat) (s : State) : Out :=
  .next (if !s.dieRuns then s
    else
      let s := journalFault 2 blkGen 0 Ctr.genLoamUe.pid (loamArg place) addr (s.bump .genLoamUe)
      replaceBank bank.val (loamPlace place (freezeOn 6 s)))

/-- GEN_LOAM_STATUS. -/
def loamStatus (s : State) : W32 :=
  BitVec.ofNat 32 (s.cells.loamSpareUsed.toNat + 2 ^ 16 * bitOf s.cells.loamNoSpareSeen)

/-- PW_STRIPE_STATUS. -/
def stripeStatus (s : State) : W32 :=
  BitVec.ofNat 32 (s.cells.powered.toNat + 2 ^ 10 * s.cells.sparePhaseIn.toNat + 2 ^ 20 * s.cells.stripeLost.toNat)

/-- R329: GEN_LOAM_CNT_CLR. -/
def execGenLoamCntClr (value : W32) (s : State) : Out :=
  .next (overBus (clearOn 0x0068 0x0070 value) s)

end Sys2Proof.Machine
end

