-- ==== Sys2Proof/Machine/Espalier.lean ====
section
/-! DEFINITION. The Espalier (R138 to R150, R156): the request and its items, the deal, the dwell period, hedge roles and
routes, DRAM regions, shedding and the checks in their order. -/

namespace Sys2Proof.Machine
open Sys2Proof

/-! ### The request (R138) -/

/-- A number given in 1 to 8 bytes, in a range (item values, log 11). -/
def scalarItem (lo hi : Nat) (v : List Byte) : Option Nat :=
  let n := unle v
  if 1 ≤ v.length ∧ v.length ≤ 8 ∧ lo ≤ n ∧ n ≤ hi then some n else none

/-- The 2-byte words of an item. -/
def wordsItem (v : List Byte) : List Nat := (List.range (v.length / 2)).map fun i => fieldAt (2 * i) 2 v

/-- The entries of SOURCES: SOURCE_ID (4), FIRST_BLOCK (2), NBLOCKS (1), NLANES (1). -/
def sourcesItem (v : List Byte) : List Source :=
  (List.range (v.length / 8)).map fun i =>
    { id := BitVec.ofNat 32 (fieldAt (8 * i) 4 v), firstBlock := fieldAt (8 * i + 4) 2 v, nBlocks := fieldAt (8 * i + 6) 1 v,
      nLanes := fieldAt (8 * i + 7) 1 v }

/-- An acceptable entry of SOURCES: some blocks, blocks of R35, 1 to 16 lanes. -/
def Source.good (x : Source) : Bool :=
  decide (1 ≤ x.nBlocks ∧ x.firstBlock + x.nBlocks ≤ 65536 ∧ 1 ≤ x.nLanes ∧ x.nLanes ≤ 16)

/-- LANE_PROFILE: AUTO (1), then counts of ingest, egress and mesh hedges (log 11); caps of R148. -/
def profileItem (v : List Byte) : Option (Option (Nat × Nat × Nat)) :=
  let b (i : Nat) : Nat := fieldAt i 1 v
  if v.length ≠ 4 ∨ 1 < b 0 then none
  else if b 0 = 1 then some none
  else if b 1 ≤ 12 ∧ b 2 ≤ 4 ∧ b 3 ≤ 1 ∧ b 1 + b 2 + b 3 ≤ 16 then some (some (b 1, b 2, b 3))
  else none

/-- Apply one item of R138; none when the ID, the length or the value is not acceptable. IDs are the rows of the table. -/
def planItem (id : Nat) (v : List Byte) (r : Request) : Option Request :=
  match id with
  | 1 =>
    let xs := sourcesItem v
    if v.length % 8 = 0 ∧ 1 ≤ xs.length ∧ xs.length ≤ 128 ∧ xs.all Source.good then some { r with sources := xs } else none
  | 2 => if v.length % 2 = 0 ∧ 2 ≤ v.length then some { r with channels := wordsItem v } else none
  | 3 => (scalarItem 1 (2 ^ 64 - 1) v).map fun n => { r with rate := n }
  | 4 => (scalarItem 0 2 v).map fun n => { r with framing := n }
  | 5 => (scalarItem 8192 131072 v).bind fun n => if n = 2 ^ Nat.log2 n then some { r with T := n } else none
  | 6 =>
    if 2 ≤ v.length ∧ fieldAt 0 1 v ≤ 1 ∧ fieldAt 1 1 v ≤ 1 ∧ (v.drop 2).all (· == 0) then
      some { r with wide := fieldAt 0 1 v = 1, long := fieldAt 1 1 v = 1 }
    else none
  | 7 => (scalarItem 1 (2 ^ 32 - 1) v).map fun n => { r with integLen := n }
  | 8 => (scalarItem 0 2 v).map fun n => { r with harvestWidth := n, widthGiven := true }
  | 9 => (scalarItem 0 256 v).map fun n => { r with beamBudget := n }
  | 10 => (scalarItem 0 1 v).map fun n => { r with beamWidth := n }
  | 11 => (scalarItem 0 16 v).map fun n => { r with fadeSlots := n }
  | 12 => (scalarItem 0 8192 v).map fun n => { r with heapMib := n }
  | 13 =>
    (scalarItem 0 (2 ^ 64 - 1) v).bind fun n =>
      if n = 2 ^ 64 - 1 then some { r with captureBytes := none }
      else if n ≤ 96 * 2 ^ 30 then some { r with captureBytes := some n }
      else none
  | 14 => (scalarItem 0 200 v).map fun n => { r with captureRate := n }
  | 15 => (scalarItem 0 (2 ^ 32 - 1) v).map fun n => { r with streamRate := n }
  | 16 => (profileItem v).map fun x => { r with laneProfile := x }
  | 17 => if v.length % 2 = 0 then some { r with shedOrder := wordsItem v } else none
  | 18 => (scalarItem (10 ^ 7) (6 * 10 ^ 10) v).map fun n => { r with planLead := n }
  | 19 =>
    (scalarItem 0 (2 ^ 64 - 1) v).bind fun n =>
      if n = 2 ^ 64 - 1 then some { r with start := none }
      else if n < 2 ^ 48 then some { r with start := some n }
      else none
  | 20 => (scalarItem 0 1 v).map fun n => { r with dryRun := n = 1 }
  | 21 => (scalarItem 0 1 v).map fun n => { r with ingestVlan := n = 1 }
  | _ => none

/-- Apply items in order; the offset of the first that fails. -/
def planItems : List (Nat × Nat × List Byte) → Request → Request ⊕ Nat
  | [], r => .inl r
  | (id, off, v) :: rest, r =>
    match planItem id v r with
    | some r => planItems rest r
    | none => .inr off

/-- What a request starts from: the saved request without its START and DRY_RUN, or the defaults (R138). -/
def State.baseRequest (s : State) : Request := { (s.plan.request.getD {}) with start := none, dryRun := false }

/-- The default of HARVEST_WIDTH follows LONG (R138). -/
def Request.withWidth (r : Request) : Request := if r.widthGiven then r else { r with harvestWidth := if r.long then 2 else 1 }

/-- The refusals of an effective request beyond each item's own range (R90, R103, R138): the packet offset that offends. -/
def requestFault (r : Request) (saved : Bool) (items : List (Nat × Nat × List Byte)) (end_ : Nat) : Option Nat :=
  let has (id : Nat) : Bool := items.any (·.1 = id)
  let at_ (ids : List Nat) : Nat := match ids.find? has with | some i => itemOffset items i | none => 32
  if !saved && !(has 1 && has 2 && has 3) then some end_
  else if r.integLen > (2 ^ 32 - 1) / r.T then some (at_ [7, 5])
  else if (if r.long then r.harvestWidth = 0 else r.harvestWidth = 2) then some (at_ [8, 6])
  else none

/-- The system blocks of a request, in request order. -/
def Request.blocks (r : Request) : List Nat := (r.sources.map fun x => (List.range x.nBlocks).map (x.firstBlock + ·)).flatten

/-- No element occurs twice. -/
def noRepeat : List Nat → Bool
  | [] => true
  | x :: xs => !xs.contains x && noRepeat xs

/-- Channels in the order in which they are shed: SHED_ORDER, then any it does not name from the highest index down. -/
def Request.shedList (r : Request) (layout : List Nat) : List Nat :=
  let named := r.shedOrder.filter layout.contains
  named ++ layout.reverse.filter fun c => !named.contains c

/-! ### The deal (R64 to R67, R144, R145) -/

/-- Block pairs of which deal index `i` computes a step in sub-dwell `u`. -/
def Deal.touched (d : Deal) (i u : Nat) : List Nat :=
  let lo := d.bound i u
  let hi := d.bound (i + 1) u
  if lo < hi then (List.range ((hi - 1) / (8 * d.m) + 1 - lo / (8 * d.m))).map (lo / (8 * d.m) + ·) else []

/-- R66 and R67 for one cell: its pieces, and its X and Y blocks in every sub-dwell. -/
def Deal.cellFits (d : Deal) (pairs : List (Nat × Nat)) (i : Nat) : Bool :=
  let lim := if d.m = 1 then 8 else 4
  let first := d.q i / (8 * d.m)
  let mine := (pairs.drop first).take (d.q (i + 1) / (8 * d.m) + 1 - first)
  decide ((d.pieces i).length ≤ 2 * lim) && (List.range d.U).all fun u =>
    let ps := (d.touched i u).map fun pos => mine.getD (pos - first) (0, 0)
    decide ((ps.map (·.1)).eraseDups.length ≤ lim ∧ (ps.map (·.2)).eraseDups.length ≤ lim)

/-- R66 and R67 for a whole deal. -/
def Deal.fits (d : Deal) (pairs : List (Nat × Nat)) : Bool :=
  (List.range pairs.length).all (fun pos => decide ((d.holders pos).length ≤ 15)) && (List.range d.A).all (d.cellFits pairs)

/-- The largest A up to a start that breaks no limit, or 0 (R145). -/
def chooseA (wide : Bool) (T : Nat) (pairs : List (Nat × Nat)) : Nat → Nat
  | 0 => 0
  | n + 1 => if (dealOver wide T pairs.length (n + 1)).fits pairs then n + 1 else chooseA wide T pairs n

/-- Beds in the order of their visits: stripe j mod 10, rank j / 10 in ascending (q, b) (R144). -/
def bedOrder : List Nat := (List.range 80).map fun j => 20 * (j / 10 / 2) + 2 * (j % 10) + j / 10 % 2

/-- The dealt cells in ascending physical index (R144). -/
def chooseCells (cands : List Nat) (a : Nat) : List Nat :=
  if a = cands.length then cands
  else
    let visits := ((List.range 17).map fun r => bedOrder.filterMap fun g => (cands.filter fun c => bedOf c = g)[r]?).flatten
    let taken := visits.take a
    cands.filter taken.contains

/-- t_X in XCLK cycles (R23). -/
def tXOf (wide : Bool) (T P A : Nat) : Nat := if A = 0 then 0 else (modeFactor wide * T * P + 32 * A - 1) / (32 * A) * 32

/-- Pieces of a deal. -/
def Deal.total (d : Deal) : Nat := ((List.range d.A).map fun i => (d.pieces i).length).sum

/-- t_D ≥ t_X (R76): the drain takes the longer of 8,192 P bytes at 2.56 TB/s and 8,192 N_pc bytes at 3.84 TB/s. -/
def drainTooLong (P pieces tX : Nat) : Bool := decide (8 * 8192 * P ≥ 5 * tX * 2560 ∨ 8 * 8192 * pieces ≥ 5 * tX * 3840)

/-! ### Hedges and routes (R55, R148, R149) -/

/-- w of R27. -/
def wireBytes (framing : Nat) (tagged : Bool) : Nat :=
  match framing with
  | 0 => 8310 + 4 * bitOf tagged
  | 1 => 8330 + 4 * bitOf tagged
  | _ => 8268

/-- Bytes a second, times 8,192, that the inputs send (R27, R55, R56). -/
def ingestLoad (r : Request) (inputs : Nat) (tagged : Bool) : Nat :=
  inputs * r.rate * wireBytes r.framing tagged * (if r.wide then 2 else 1)

/-- 12.5 × 10^9 × 8,192: what one lane takes, in the units of `ingestLoad`. -/
def laneLoad : Nat := 102400 * 10 ^ 9

/-- Hedges in the order in which roles are placed (R148). -/
def hedgeOrder : List Nat := [0, 4, 8, 12, 1, 5, 9, 13, 2, 6, 10, 14, 3, 7, 11, 15]

/-- LN_HEDGE_ROLE for counts of hedges: mesh first, then egress, then ingest. -/
def roleWord (ing eg mesh : Nat) : W32 :=
  BitVec.ofNat 32 ((hedgeOrder.zipIdx.map fun (h, i) =>
    4 ^ h * (if i < mesh then 3 else if i < mesh + eg then 2 else if i < mesh + eg + ing then 1 else 0)).sum)

/-- Lanes of a role that are not lost. -/
def lanesOf (roles : W32) (r : Nat) (lost : List Nat) : List Nat :=
  (List.range 128).filter fun l => roleIn roles (l / 8) = r && !lost.contains l

/-- Counts of hedges: ingest needed, egress needed, and the ingest, egress and mesh hedges given; the hedges that egress
could have (R148). -/
def hedgeCounts (r : Request) (needIn needEg mesh : Nat) : Nat × Nat × Nat × Nat :=
  match r.laneProfile with
  | some (i, e, m) => (i, e, m, e)
  | none =>
    let avail := min 4 (16 - mesh - min 12 needIn)
    let eg := min needEg avail
    let ing := min 12 (16 - mesh - eg)
    (ing, min 4 (16 - mesh - ing), mesh, avail)

/-- The ingest lane for a stream of a source: fewest streams, then the lowest number; fewer than 8, and not yet carrying
this entry of SOURCES. -/
def pickLane (lanes : List Nat) (x : Source) (rs : List Route) : Option Nat :=
  let load (l : Nat) : Nat := (rs.filter (·.lane = l)).length
  let free := lanes.filter fun l => decide (load l < 8) &&
    !rs.any fun r => r.lane = l && r.source = x.id && r.firstBlock = x.firstBlock
  free.foldl (fun (b : Option Nat) l => match b with
    | none => some l
    | some m => if load l < load m then some l else some m) none

/-- Add `n` streams of a source; false when a lane is lacking. -/
def addStreams (device slice_ : Nat) (lanes : List Nat) (x : Source) : Nat → List Route → List Route × Bool
  | 0, rs => (rs, true)
  | n + 1, rs =>
    match pickLane lanes x rs with
    | none => (rs, false)
    | some l =>
      addStreams device slice_ lanes x n
        (rs ++ [{ device := device, lane := l, source := x.id, firstBlock := x.firstBlock, nBlocks := x.nBlocks,
                  slice := slice_ }])

/-- The routes of a request: kept streams stay, the others are assigned in request order (R149). -/
def assignRoutes (device slice_ : Nat) (lanes : List Nat) (kept : List Route) (xs : List Source) : List Route × Bool :=
  xs.foldl (fun (a : List Route × Bool) x =>
    let have_ := (a.1.filter fun r => r.source = x.id && r.firstBlock = x.firstBlock).length
    let (rs, ok) := addStreams device slice_ lanes x (x.nLanes - have_) a.1
    (rs, a.2 && ok)) (kept.filter fun r => lanes.contains r.lane, true)

/-! ### DRAM regions (R147) -/

/-- H_c in bytes. -/
def heapOf (heapMib C P inputs : Nat) : Nat :=
  max (heapMib * 2 ^ 20 / C / 4096 * 4096) (((P + 4095) / 4096 + (inputs + 511) / 512 + 1) * 4096)

/-- The regions of R147, or none when they do not fit 128 GiB with the 1 GiB reserve. -/
def layRegions (r : Request) (C P inputs : Nat) : Option (List DramRegion) :=
  let gib := 2 ^ 30
  let sums := C * P * (if r.long then 16384 else 8192)
  let counts := C * P * 4
  let heap := C * heapOf r.heapMib C P inputs
  let b2 := gib + gib / 4
  let b5 := b2 + sums + counts + heap
  let top := 127 * gib
  if top < b5 + gib then none
  else
    let g := (top - b5 - gib) / gib * gib
    let cold := min (min (r.captureBytes.getD (96 * gib)) (96 * gib)) g
    some [⟨0, 0, gib⟩, ⟨1, gib, gib / 4⟩, ⟨2, b2, sums⟩, ⟨3, b2 + sums, counts⟩, ⟨4, b2 + sums + counts, heap⟩,
          ⟨5, b5, cold⟩, ⟨6, b5 + cold, top - b5 - cold⟩, ⟨7, top, gib⟩]

/-! ### The plan (R140 to R150, R156) -/

/-- What one plan is made from besides the health record: the device's request, its place in the tiling, the version, the
streams that stay, the channels that stay shed, and whether failing RATE or LANES sheds. -/
structure PlanIn where
  req : Request
  version : W64
  device : Nat := 0
  shape : Shape := .triangle
  slices : Nat := 1
  slice : Nat := 0
  tiles : List Tile := []
  sliceChans : List (List Nat) := []
  kept : List Route := []
  keptShed : List Nat := []
  mayShed : Bool := false
  mesh : Bool := false
  /-- The lost lanes of the device, where it is not this one (R149). -/
  lost : Option (List Nat) := none
  deriving DecidableEq, Repr

/-- Roles and routes for an ingest that is tagged or not. -/
def placeLanes (x : PlanIn) (P inputs dNum dDen sieves : Nat) (tagged : Bool) (lost : List Nat) :
    W32 × List Route × Bool × Bool × Nat :=
  let r := x.req
  let needIn := ((ingestLoad r inputs tagged + laneLoad - 1) / laneLoad + 7) / 8
  let fits (n : Nat) : Bool :=
    egressFits P inputs r.harvestWidth dNum dDen r.beamBudget r.beamWidth r.rate r.channels.length r.T sieves r.streamRate n
  let needEg := ((List.range 17).find? fun n => fits (8 * n)).getD 17
  let (ing, eg, mesh, avail) := hedgeCounts r needIn needEg (bitOf x.mesh)
  let roles := roleWord ing eg mesh
  let (routes, ok) := assignRoutes x.device x.slice (lanesOf roles 1 lost) x.kept r.sources
  (roles, routes, ok && decide (needIn ≤ 12), decide (needEg ≤ avail) && fits (lanesOf roles 2 lost).length,
   ingestLoad r inputs tagged)

/-- The first checks: SHAPE, SEEDBED, STAGING. -/
def earlyReason (r : Request) (P inputs : Nat) : Nat :=
  if !noRepeat r.blocks || !noRepeat r.channels || r.blocks.length > 128 || r.channels.length > 4096 then 1
  else if inputs * r.T * (if r.wide then 2 else 1) > 2 ^ 28 then 2
  else if P * 8200 + 2 ^ 21 > 68 * 2 ^ 20 then 3
  else 0

/-- CAPTURE of R150 (R278): pace in GB/s is 2 P Z dDen / (dNum - 22000 dDen). -/
def captureFits (P Z rate dNum dDen : Nat) : Bool :=
  let n := 2 * P * Z * dDen
  let w := dNum - 22000 * dDen
  decide (10 * (n + min rate 200 * w) ≤ 7899 * w ∧ 10 * (n + min rate 150 * w) ≤ 7202 * w)

/-- Every enabled sieve fits the plan (R135). -/
def sievesFit (p : Plan) (s : State) : Bool :=
  s.riddle.sieves.all fun x =>
    let c := x.last
    !c.enable || (match s.chain c with
      | some (_, total, _) => sieveFits p c.decim total (max x.bankA.len x.bankB.len)
      | none => true)

/-- LEAD of R150. -/
def leadFails (r : Request) (s : State) : Bool :=
  match r.start with
  | some n => s.time.epochSet && decide (s.sampleTime n < s.time16 + r.planLead * 2 ^ 16)
  | none => false

/-- The longer of two periods given as fractions. -/
def longer (a b : Nat × Nat) : Nat × Nat := if a.1 * b.2 ≤ b.1 * a.2 then b else a

/-- A plan and the code of its first failing check, 0 when none fails. What no check reached stays zero (R401). Beams already enabled above a
lower BEAM_BUDGET are not judged and stay enabled (DESIGN CHOICE, log 133): R111 and R139 judge a BEAM_CFG, R150 only the budget itself.
Where the ingest lanes left are the limit, D' of R156 is T over the rate that they carry (DEDUCED, log 134). -/
def computePlan (x : PlanIn) (s : State) : Plan × Nat :=
  let r := x.req
  let blocks := sortNat r.blocks
  let layout := sortNat r.channels
  let inputs := 32 * blocks.length
  let P := pairsOf x.shape blocks.length
  let p0 : Plan := { version := x.version, req := r }
  let early := earlyReason r P inputs
  if early ≠ 0 then (p0, early)
  else
    let cands := s.candidates
    let pairs := pairList x.shape blocks.length
    -- a deal to more than 15 P cells has more than 15 P pieces, which R66 never allows
    let a := chooseA r.wide r.T pairs (min cands.length (15 * P))
    let cells := chooseCells cands a
    let tX := tXOf r.wide r.T P a
    let lost := x.lost.getD s.lostLanes
    let sieves := s.sieveBits r.T
    let rateD := (r.T * 10 ^ 9, r.rate)
    let d0 := longer rateD (5 * tX, 8)
    let plain := placeLanes x P inputs d0.1 d0.2 sieves r.ingestVlan lost
    -- the tagged row when a lane given an ingest role carries a VLAN item (R148)
    let vlan := (lanesOf plain.1 1 []).any fun l => (s.lanes.lane.getD l {}).vlan ≠ 0
    let (roles, routes, lanesOk, egressOk, load) :=
      if vlan && !r.ingestVlan then placeLanes x P inputs d0.1 d0.2 sieves true lost else plain
    let lIn := (lanesOf roles 1 lost).length
    let rateBad := decide (8 * r.T * 10 ^ 9 < r.rate * 5 * tX ∨ lIn * laneLoad < load)
    let inD := if lIn = 0 then (1, 1) else (r.T * load, r.rate * lIn * 102400)
    let sheds := x.mayShed && (rateBad || !lanesOk)
    let d := if sheds then longer d0 inD else d0
    let C := layout.length
    let keep := if sheds then (if lIn = 0 then 0 else C * r.T * 10 ^ 9 * d.2 / (r.rate * d.1)) else C
    let order := r.shedList layout
    let fresh := order.take (C - keep)
    let shed := order.filter fun c => fresh.contains c || x.keptShed.contains c
    let p1 : Plan := { p0 with
      shape := x.shape, blocks := blocks, layout := layout, shed := shed, cellMap := cells, tX := tX, dNum := d.1, dDen := d.2
      roles := roles, routes := routes, tagged := vlan || r.ingestVlan, tiles := x.tiles, slices := x.slices, slice := x.slice
      sliceChans := x.sliceChans, cfBudget := min r.captureRate (if s.plan.derated then 150 else 200) }
    let deal := dealOver r.wide r.T P a
    if rateBad && !sheds then (p1, 4)
    else if a = 0 then (p1, 5)
    else if drainTooLong P deal.total tX then (p1, 6)
    else if decide (d.1 ≤ 22000 * d.2 ∨ 2 * P * p1.Z * d.2 > 600 * (d.1 - 22000 * d.2)) then (p1, 7)
    else if !p1.fitsD (beamTime p1 r.beamBudget) then (p1, 8)
    else if !sievesFit p1 s then (p1, 9)
    else
      match layRegions r C P inputs with
      | none => (p1, 10)
      | some regions =>
        let p2 : Plan := { p1 with regions := regions }
        if !captureFits P p1.Z r.captureRate d.1 d.2 then (p2, 11)
        else if !lanesOk && !sheds then (p2, 12)
        else if !egressOk then (p2, 13)
        else if leadFails r s then (p2, 15)
        else (p2, 0)

end Sys2Proof.Machine
end

