-- ==== Sys2Proof/Machine/Tables.lean ====
section
/-! DEFINITION. What a plan is read back as (R107, R142, R159, R160, R401, R402): the placement table, the baseline table,
the plan record, and the PLAN_DIGEST. -/

namespace Sys2Proof.Machine
open Sys2Proof

/-! ### The placement table (R160) -/

/-- Lexicographic order of keys. -/
def lexLe : List Nat → List Nat → Bool
  | [], _ => true
  | _ :: _, [] => false
  | a :: as, b :: bs => if a = b then lexLe as bs else decide (a < b)

/-- Insert an entry by its key. -/
def insertKey (e : List Nat × List Byte) : List (List Nat × List Byte) → List (List Nat × List Byte)
  | [] => [e]
  | f :: fs => if lexLe e.1 f.1 then e :: f :: fs else f :: insertKey e fs

/-- Entries sorted by their keys. -/
def sortKeys (xs : List (List Nat × List Byte)) : List (List Nat × List Byte) := xs.foldr insertKey []

/-- A CHANNEL entry. -/
def channelEntry (slice_ pos chan : Nat) (shed : Bool) : List Nat × List Byte :=
  ([1, slice_, pos], le 1 1 ++ le 1 (bitOf shed) ++ le2 pos ++ le2 chan ++ le 1 slice_ ++ zeros 9)

/-- A ROUTE entry. -/
def routeEntry (r : Route) : List Nat × List Byte :=
  ([2, r.device, r.lane, r.source.toNat, r.firstBlock],
   le 1 2 ++ zeros 1 ++ le2 r.device ++ le2 r.firstBlock ++ le 1 r.nBlocks ++ le 1 r.lane ++ le4 r.source.toNat ++
     le 1 r.slice ++ zeros 3)

/-- Code of a shape. -/
def shapeCode : Shape → Nat
  | .triangle => 0 | .square => 1 | .twoTriangles => 2

/-- A TILE entry. -/
def tileEntry (t : Tile) : List Nat × List Byte :=
  let row := (t.rows.foldl min (t.rows.headD 0))
  let col := (t.cols.foldl min (t.cols.headD 0))
  ([3, t.slice, t.device, row, col],
   le 1 3 ++ le 1 (shapeCode t.shape) ++ le2 t.device ++ le 1 t.slice ++ zeros 1 ++ le2 row ++ le2 col ++
     le2 t.rows.length ++ zeros 4)

/-- The CHANNEL entries of a slice: the dwelt channels in channel order, then the shed ones ascending. -/
def sliceEntries (shed : List Nat) (slice_ : Nat) (chans : List Nat) : List (List Nat × List Byte) :=
  let dwelt := chans.filter fun c => !shed.contains c
  let gone := chans.filter fun c => shed.contains c
  (dwelt.zipIdx.map fun (c, i) => channelEntry slice_ i c false) ++
    gone.zipIdx.map fun (c, i) => channelEntry slice_ (dwelt.length + i) c true

/-- The tiles of a plan; a system of one holds one tile over its own blocks. -/
def Plan.allTiles (p : Plan) (device : Nat) : List Tile :=
  if p.tiles.isEmpty then [{ slice := 0, device := device, shape := p.shape, rows := p.blocks, cols := p.blocks }] else p.tiles

/-- The slices' channels of a plan. -/
def Plan.allSlices (p : Plan) : List (List Nat) := if p.sliceChans.isEmpty then [p.layout] else p.sliceChans

/-- The placement table with a given digest and switch sample. -/
def placementWith (p : Plan) (device digest switch_ : Nat) : List Byte :=
  let chans := (p.allSlices.zipIdx.map fun (cs, i) => sliceEntries (if i = p.slice then p.shed else []) i cs).flatten
  let tiles := p.allTiles device
  let entries := sortKeys (chans ++ p.routes.map routeEntry ++ tiles.map tileEntry)
  let devices := ((tiles.map (·.device)).filter (· ≠ 0xFFFF)).eraseDups.length
  let head := le 1 1 ++ le 1 p.req.framing ++ le 1 (bitOf p.req.wide) ++ le 1 p.slices ++ le4 p.req.T ++
    le8 p.version.toNat ++ le8 digest ++ le8 switch_ ++ le4 p.dNs ++ le2 chans.length ++ le2 p.routes.length ++
    le2 tiles.length ++ le2 devices ++ zeros 20
  let body := head ++ (entries.map fun e => e.2 ++ compl e.2).flatten
  body ++ le4 (crc32c body)

/-- SWITCH_SAMPLE as it is read: all ones in [47:0] until it is fixed (R154). -/
def Plan.switchField (p : Plan) : Nat := p.switchSample.getD (2 ^ 48 - 1)

/-- The placement table of a plan (R160). -/
def placementTable (p : Plan) (s : State) : List Byte := placementWith p s.mesh.index.toNat p.digest.toNat p.switchField

/-! ### Regions, cell map, digest (R142, R402) -/

/-- The region table of R402: zero bases and sizes where no region was laid out. -/
def regionTable (p : Plan) : List Byte :=
  ((List.range 8).map fun k =>
    let r := (p.region k).getD ⟨k, 0, 0⟩
    le 1 k ++ zeros 7 ++ le8 r.base ++ le8 r.size).flatten

/-- The cell map, zero-padded. -/
def cellMapBytes (p : Plan) : List Byte := padTo 4 (p.cellMap.map le2).flatten

/-- PLAN_DIGEST: the CRC-64 over placement table, routines, region table and cell map, with SWITCH_SAMPLE, and the digest's
own field, taken as zero (R142). -/
def digestOf (p : Plan) (device : Nat) : W64 :=
  BitVec.ofNat 64 (crc64 (placementWith p device 0 0 ++ ((List.range p.A).map (routineBytes p)).flatten ++ regionTable p ++
    cellMapBytes p))

/-- States of R402. -/
def outcomeCode : PlanOutcome → Nat
  | .checked => 2 | .refused => 3 | .withdrawn => 4

/-- The PLAN_GET record (R402). -/
def planRecord (p : Plan) (state : Nat) (s : State) : List Byte :=
  le8 p.version.toNat ++ le8 p.digest.toNat ++ le 1 state ++ le 1 p.reason ++ le2 p.A ++ le4 p.req.T ++
    le4 ((5 * p.tX + 7) / 8) ++ le4 (if p.blocks.isEmpty then 0 else p.dNs) ++
    le8 (if state = 3 then p.switchSample.getD 0 else p.switchField) ++
    le4 p.roles.toNat ++ le2 s.plan.mapGen.toNat ++ le2 p.cfBudget ++ le2 8 ++ le2 p.shed.length ++ le2 p.A ++ zeros 10 ++
    regionTable p ++ padTo 4 (p.shed.map le2).flatten ++ cellMapBytes p

/-- The baseline table (R107). FORMAT is coded as in SUMS: the output width, and [2] long mode. -/
def baselineTable (p : Plan) : List Byte :=
  le8 p.version.toNat ++ le2 p.P ++ le2 p.blocks.length ++ le2 p.layout.length ++
    le 1 (p.req.harvestWidth + 4 * bitOf p.req.long) ++ zeros 1 ++
    (p.pairs.map fun (a, b) => le2 (p.blocks.getD a 0) ++ le2 (p.blocks.getD b 0)).flatten ++
    (p.blocks.map le2).flatten ++ (p.layout.map le2).flatten

/-! ### PLAN_GET, PLAN_TABLE_GET, BASELINE_GET (R159, R401) -/

/-- The plan that WHICH names, with its state of R402, or the refusal of R401. -/
def whichPlan (par : List Byte) (s : State) : (Plan × Nat) ⊕ Answer :=
  let none_ : (Plan × Nat) ⊕ Answer := .inr (ansBusy s.planCode)
  match fieldAt 0 1 par with
  | 0 => match s.plan.active with | some p => .inl (p, 0) | none => none_
  | 1 => match s.plan.pendingPlan with | some p => .inl (p, 1) | none => none_
  | 2 => match s.plan.last with | some (p, o) => .inl (p, outcomeCode o) | none => none_
  | _ => .inr (ansField 32)

/-- PLAN_GET. -/
def opPlanGet : OpDef :=
  { code := 0x0202, form := formLen 8, res0 := firstRes0 [(1, 3)]
    run := fun c s => match whichPlan c.par s with
      | .inr a => (s, a)
      | .inl (p, st) => (s, ansOk (paged (fieldAt 4 4 c.par) (planRecord p st s))) }

/-- R402. -/
def execPlanGet (k : KcpIn) (s : State) : Out := .next (kcpCommand opPlanGet k s)

/-- PLAN_TABLE_GET. -/
def opPlanTableGet : OpDef :=
  { code := 0x0203, b := true, form := formLen 8, res0 := firstRes0 [(1, 3)]
    run := fun c s => match whichPlan c.par s with
      | .inr a => (s, a)
      | .inl (p, st) =>
        if st = 3 then (s, ansBusy s.planCode)
        else (s, ansOk (paged (fieldAt 4 4 c.par) (placementTable p s))) }

/-- R160. -/
def execPlanTableGet (k : KcpIn) (s : State) : Out := .next (kcpCommand opPlanTableGet k s)

/-- The plan whose baseline table an active or pending plan keeps: the newest that set LAYOUT (R107, R159, R401). A plan that
was only checked, or withdrawn, gives its own (log 42). -/
def State.layoutPlan (s : State) (p : Plan) (state : Nat) : Plan :=
  if state ≥ 2 || p.hasLayout then p else ((s.plan.active.toList ++ s.plan.old).find? (·.hasLayout)).getD p

/-- BASELINE_GET. -/
def opBaselineGet : OpDef :=
  { code := 0x0204, b := true, form := formLen 8, res0 := firstRes0 [(1, 3)]
    run := fun c s => match whichPlan c.par s with
      | .inr a => (s, a)
      | .inl (p, st) =>
        if st = 3 then (s, ansBusy s.planCode)
        else (s, ansOk (paged (fieldAt 4 4 c.par) (baselineTable (s.layoutPlan p st)))) }

/-- R107. -/
def execBaselineGet (k : KcpIn) (s : State) : Out := .next (kcpCommand opBaselineGet k s)

end Sys2Proof.Machine
end

