-- ==== Sys2Proof/Machine/Tiling.lean ====
section
/-! DEFINITION. The system plan (R161 to R163, R256, R317, R376): members, tiles and slices, the mesh route table, and the
pages that the caller publishes (byte layout log 17). -/

namespace Sys2Proof.Machine
open Sys2Proof

/-! ### Members (R376) -/

/-- A member: system index, segment, birth identity. -/
structure Member where
  index : Nat
  segment : Nat
  birth : W64
  deriving DecidableEq, Repr

/-- Insert a member by its index. -/
def insertMember (m : Member) : List Member → List Member
  | [] => [m]
  | x :: xs => if m.index ≤ x.index then m :: x :: xs else x :: insertMember m xs

/-- The devices of the system that the caller has not declared lost, in ascending index; this device among them. -/
def State.members (s : State) : List Member :=
  let me := s.mesh.index.toNat
  let others := (s.mesh.system.filter fun r => r.index ≠ me && !s.mesh.lost.contains r.index).map fun r =>
    ({ index := r.index, segment := fieldAt 10 1 r.device, birth := BitVec.ofNat 64 (fieldAt 0 8 r.device) } : Member)
  ({ index := me, segment := s.mesh.segment, birth := s.birth } :: others).foldr insertMember []

/-- Insert a joiner by its birth identity. -/
def insertJoiner (u : UnknownDev) : List UnknownDev → List UnknownDev
  | [] => [u]
  | x :: xs => if u.birth ≤ x.birth then u :: x :: xs else x :: insertJoiner u xs

/-- The joiners with their new indexes: the lowest free ones in ascending birth identity, at most 1,024 devices and 32 of a
segment (R376). -/
def admitJoiners (taken : List Nat) : List UnknownDev → List Member → List Member
  | [], ms => ms
  | u :: us, ms =>
    let i := (List.range 1024).find? fun i => !taken.contains i && !ms.any (·.index = i)
    match i with
    | some i =>
      if (ms.filter (·.segment = u.segment)).length < 32 then
        admitJoiners taken us (insertMember { index := i, segment := u.segment, birth := u.birth } ms)
      else admitJoiners taken us ms
    | none => ms

/-- Members with the joiners heard (R376). An index of a device that is lost stays taken. -/
def State.membersNext (s : State) : List Member :=
  admitJoiners (s.mesh.system.map (·.index)) (s.mesh.unknown.foldr insertJoiner []) s.members

/-- The lead of a segment: its device of lowest system index (R376). -/
def leadOf (ms : List Member) (segment : Nat) : Option Nat := (ms.find? (·.segment = segment)).map (·.index)

/-- The leads of a member list. -/
def leadsOf (ms : List Member) : List Member := ms.filter fun m => leadOf ms m.segment = some m.index

/-! ### Tiles and slices (R161, R162) -/

/-- Cut a list into groups of 64. Recurses on fuel. -/
def groupsOf (fuel : Nat) (xs : List Nat) : List (List Nat) :=
  match fuel with
  | 0 => []
  | fuel + 1 => if xs.isEmpty then [] else xs.take 64 :: groupsOf fuel (xs.drop 64)

/-- The places of a tile set: the squares in row order of (g_r, g_c), then the triangle devices. -/
def tilePlaces (blocks : List Nat) : List (Shape × List Nat × List Nat) :=
  if blocks.length ≤ 128 then [(.triangle, blocks, blocks)]
  else
    let gs := groupsOf blocks.length blocks
    let n := gs.length
    let g (i : Nat) : List Nat := gs.getD i []
    let squares := ((List.range n).map fun r => (List.range (n - 1 - r)).map fun k =>
      (Shape.square, g r, g (r + 1 + k))).flatten
    let tris := (List.range ((n + 1) / 2)).map fun k =>
      if 2 * k + 1 < n then (Shape.twoTriangles, g (2 * k), g (2 * k + 1)) else (Shape.triangle, g (2 * k), g (2 * k))
    squares ++ tris

/-- The smallest number of slices for which RATE / S does not exceed r_max at 4,096 inputs (R27, R161), or the most that SLICES holds. r_max is
taken with 96 ingest lanes, A = 1,280 and the larger of the full tile shapes, whatever LANE_PROFILE and the devices' health (DEDUCED, log
135). -/
def sliceCount (r : Request) (nBlocks : Nat) : Nat :=
  let P := if nBlocks ≤ 128 then 8256 else 4160
  let tX := tXOf r.wide r.T P 1280
  (((List.range 255).map (· + 1)).find? fun S =>
    decide (r.rate * 5 * tX ≤ 8 * r.T * 10 ^ 9 * S ∧ ingestLoad r 4096 r.ingestVlan ≤ S * 96 * laneLoad)).getD 255

/-- The channels of a slice: equal contiguous ranges, the last with the remainder. -/
def sliceChannels (chans : List Nat) (S k : Nat) : List Nat :=
  let n := chans.length / S
  if k + 1 = S then chans.drop (k * n) else (chans.drop (k * n)).take n

/-- A tiling. -/
structure Tiling where
  slices : Nat
  chans : List (List Nat)
  tiles : List Tile
  deriving DecidableEq, Repr

/-- Tile a request over devices in ascending index (R161, R162); a tile that no device is left for has none. -/
def tileSystem (r : Request) (devs : List Nat) : Tiling :=
  let blocks := sortNat r.blocks
  let places := tilePlaces blocks
  let S := sliceCount r blocks.length
  { slices := S
    chans := (List.range S).map (sliceChannels (sortNat r.channels) S)
    tiles := ((List.range S).map fun k => places.zipIdx.map fun ((sh, rows, cols), q) =>
      ({ slice := k, device := devs.getD (places.length * k + q) 0xFFFF, shape := sh, rows := rows, cols := cols } : Tile)).flatten }

/-- Every tile has a device: TILE of R150 passes. -/
def Tiling.full (t : Tiling) : Bool := t.tiles.all fun x => x.device != 0xFFFF

/-- Give the tiles of devices that are gone to the lowest spare devices, or to none (R163). -/
def retile (devs : List Nat) (tiles : List Tile) : List Tile :=
  let held := (tiles.map (·.device)).filter devs.contains
  let spares := devs.filter fun d => !held.contains d
  (tiles.foldl (fun (a : List Tile × List Nat) t =>
    if devs.contains t.device then (a.1 ++ [t], a.2)
    else match a.2 with
      | d :: ds => (a.1 ++ [{ t with device := d }], ds)
      | [] => (a.1 ++ [{ t with device := 0xFFFF }], [])) ([], spares)).1

/-- The blocks of a tile. -/
def Tile.blocks (t : Tile) : List Nat := if t.shape = .triangle then t.rows else t.rows ++ t.cols

/-- The entries of SOURCES that name a device's blocks: each run of consecutive blocks of a source is an entry. -/
def runsOf (x : Source) (mine : List Nat) : List Source :=
  (List.range x.nBlocks).foldl (fun (acc : List Source) i =>
    let b := x.firstBlock + i
    if !mine.contains b then acc
    else match acc.getLast? with
      | some y => if y.firstBlock + y.nBlocks = b then acc.dropLast ++ [{ y with nBlocks := y.nBlocks + 1 }]
                  else acc ++ [{ x with firstBlock := b, nBlocks := 1 }]
      | none => [{ x with firstBlock := b, nBlocks := 1 }]) []

/-- The request of one device, derived from the system's: its blocks, its slice's channels and RATE / S, in whole S/s (R138, R161, log 136). -/
def deviceRequest (r : Request) (t : Tile) (chans : List (List Nat)) : Request :=
  { r with
    sources := (r.sources.map fun x => runsOf x t.blocks).flatten, channels := chans.getD t.slice []
    rate := r.rate / max 1 chans.length }

/-! ### The mesh route table (R256) -/

/-- Neighbours of a device by its survey: first-hop lane and next device. -/
def neighbours (s : State) (dev : Nat) : List (Nat × Nat) :=
  let rows : List (Nat × List Byte) :=
    if dev = s.mesh.index.toNat then
      ((List.range 128).filter fun l => (s.lanes.lane.getD l {}).meshUp).map fun l => (l, laneRecord l s)
    else match s.mesh.system.find? (·.index = dev) with | some r => r.lanes | none => []
  rows.filterMap fun (l, rec) =>
    if (fieldAt 3 1 rec).testBit 5 then some (l, fieldAt 60 2 rec) else none

/-- Distances from a device, breadth first. Recurses on fuel. -/
def spread (s : State) (fuel : Nat) (front : List Nat) (dist : List (Nat × Nat)) (d : Nat) : List (Nat × Nat) :=
  match fuel with
  | 0 => dist
  | fuel + 1 =>
    let next := ((front.map fun v => (neighbours s v).map (·.2)).flatten.filter fun v => !dist.any (·.1 = v)).eraseDups
    if next.isEmpty then dist else spread s fuel next (dist ++ next.map fun v => (v, d)) (d + 1)

/-- The route table of a device: for each destination the lane of a shortest path; the lower lane wins, then the lower next
device. -/
def routeTable (s : State) (dev : Nat) (dests : List Nat) : List (Nat × Nat) :=
  (dests.filter (· ≠ dev)).filterMap fun t =>
    let dist := spread s 1024 [t] [(t, 0)] 1
    let far (v : Nat) : Nat := match dist.find? (fun (e : Nat × Nat) => e.1 = v) with | some e => e.2 | none => 2000
    let hops := (neighbours s dev).filter fun (x : Nat × Nat) => far x.2 != 2000
    let best := hops.foldl (fun (b : Option (Nat × Nat)) x => match b with
      | none => some x
      | some y =>
        if decide (far x.2 < far y.2 ∨ (far x.2 = far y.2 ∧ (x.1 < y.1 ∨ (x.1 = y.1 ∧ x.2 < y.2)))) then some x else some y) none
    best.map fun x => (t, x.1)

/-! ### Pages (R317, R376; log 17) -/

/-- What a page image says to one device. -/
structure Image0 where
  version : W64
  switch_ : Nat
  start : Nat
  tile : Option Tile
  req : Request
  slices : Nat
  chans : List (List Nat)
  tiles : List Tile
  routes : List Route
  members : List Member
  meshRoutes : List (Nat × Nat)
  /-- As it was read: every placement-table entry matches its complement (R7). -/
  paired : Bool := true
  deriving DecidableEq, Repr

/-- A tile in an image. -/
def tileBytes (t : Tile) : List Byte :=
  le 1 (shapeCode t.shape) ++ le2 t.device ++ le 1 t.slice ++ counted (t.rows.map le2) ++ counted (t.cols.map le2)

/-- A route in an image. -/
def routeBytes (r : Route) : List Byte :=
  le2 r.device ++ le 1 r.lane ++ le4 r.source.toNat ++ le2 r.firstBlock ++ le 1 r.nBlocks ++ le 1 r.slice

/-- A placement-table entry of an image, with its complement (R7). -/
def tilePair (t : Tile) : List Byte := withCompl (tileBytes t)
/-- The same for a route. -/
def routePair (r : Route) : List Byte := withCompl (routeBytes r)

/-- A member in an image. -/
def memberBytes (m : Member) : List Byte := le2 m.index ++ le 1 m.segment ++ le8 m.birth.toNat

/-- The CRC-64 of the rest, in front. -/
def sealImage (body : List Byte) : List Byte := le8 (crc64 body) ++ body

/-- The bytes of a plan image for a device. -/
def imageBytes (x : Image0) : List Byte :=
  sealImage (le 1 0 ++ le8 x.version.toNat ++ le8 x.switch_ ++ le8 x.start ++
    (match x.tile with | none => [0] | some t => 1 :: tilePair t) ++ requestBytes x.req ++ le 1 x.slices ++
    counted (x.chans.map fun cs => counted (cs.map le2)) ++ counted (x.tiles.map tilePair) ++
    counted (x.routes.map routePair) ++ counted (x.members.map memberBytes) ++
    counted (x.meshRoutes.map fun (d, l) => le2 d ++ le 1 l))

/-- Read a number of `n` bytes. -/
def rdNum (n : Nat) (bs : List Byte) : Nat × List Byte := (fieldAt 0 n bs, bs.drop n)

/-- Read `n` things. -/
def rdMany {α : Type} (f : List Byte → α × List Byte) : Nat → List Byte → List α × List Byte
  | 0, bs => ([], bs)
  | n + 1, bs =>
    let (x, bs) := f bs
    let (xs, bs) := rdMany f n bs
    (x :: xs, bs)

/-- Read a counted list; no list is longer than the bytes left. -/
def rdList {α : Type} (f : List Byte → α × List Byte) (bs : List Byte) : List α × List Byte :=
  let (n, bs) := rdNum 4 bs
  rdMany f (min n bs.length) bs

/-- Read a thing that its complement follows, and whether that matches (R7). -/
def rdPaired {α : Type} (f : List Byte → α × List Byte) (bs : List Byte) : (α × Bool) × List Byte :=
  let (x, rest) := f bs
  let n := bs.length - rest.length
  ((x, rest.take n == compl (bs.take n)), rest.drop n)

/-- Things whose complement matched; the others are not used (R7). -/
def pairedOnly {α : Type} (xs : List (α × Bool)) : List α := (xs.filter (·.2)).map (·.1)

/-- Read a shape. -/
def shapeOf (n : Nat) : Shape := match n with | 0 => .triangle | 1 => .square | _ => .twoTriangles

/-- Read a tile. -/
def rdTile (bs : List Byte) : Tile × List Byte :=
  let (sh, bs) := rdNum 1 bs
  let (dev, bs) := rdNum 2 bs
  let (sl, bs) := rdNum 1 bs
  let (rows, bs) := rdList (rdNum 2) bs
  let (cols, bs) := rdList (rdNum 2) bs
  ({ slice := sl, device := dev, shape := shapeOf sh, rows := rows, cols := cols }, bs)

/-- Read a route. -/
def rdRoute (bs : List Byte) : Route × List Byte :=
  ({ device := fieldAt 0 2 bs, lane := fieldAt 2 1 bs, source := BitVec.ofNat 32 (fieldAt 3 4 bs), firstBlock := fieldAt 7 2 bs,
     nBlocks := fieldAt 9 1 bs, slice := fieldAt 10 1 bs }, bs.drop 11)

/-- Read a member. -/
def rdMember (bs : List Byte) : Member × List Byte :=
  ({ index := fieldAt 0 2 bs, segment := fieldAt 2 1 bs, birth := BitVec.ofNat 64 (fieldAt 3 8 bs) }, bs.drop 11)

/-- Read an entry of SOURCES. -/
def rdSource (bs : List Byte) : Source × List Byte :=
  ({ id := BitVec.ofNat 32 (fieldAt 0 4 bs), firstBlock := fieldAt 4 2 bs, nBlocks := fieldAt 6 1 bs, nLanes := fieldAt 7 1 bs },
   bs.drop 8)

/-- Read the request of log 13. -/
def rdRequest (bs : List Byte) : Request × List Byte :=
  let (sources, bs) := rdList rdSource bs
  let (channels, bs) := rdList (rdNum 2) bs
  let g (o n : Nat) : Nat := fieldAt o n bs
  let cap : Option Nat := if g 26 8 = 2 ^ 64 - 1 then none else some (g 26 8)
  let prof : Option (Nat × Nat × Nat) := if g 42 1 = 0xFF then none else some (g 42 1, g 43 1, g 44 1)
  let r : Request := { sources := sources, channels := channels, rate := g 0 8, framing := g 8 1, T := g 9 4, wide := g 13 1 = 1,
                       long := g 14 1 = 1, integLen := g 15 4, harvestWidth := g 19 1, beamBudget := g 20 2, beamWidth := g 22 1,
                       fadeSlots := g 23 1, heapMib := g 24 2, captureBytes := cap, captureRate := g 34 4, streamRate := g 38 4,
                       laneProfile := prof, widthGiven := true }
  let (shed, bs) := rdList (rdNum 2) (bs.drop 45)
  ({ r with shedOrder := shed, planLead := fieldAt 0 8 bs, ingestVlan := fieldAt 8 1 bs = 1 }, bs.drop 9)

/-- Read a plan image after its CRC-64 and KIND. -/
def rdImage (bs : List Byte) : Image0 :=
  let (ver, bs) := rdNum 8 bs
  let (sw, bs) := rdNum 8 bs
  let (start, bs) := rdNum 8 bs
  let (has, bs) := rdNum 1 bs
  let (tile, bs) := if has = 1 then (let (t, bs) := rdPaired rdTile bs; (some t, bs)) else (none, bs)
  let (req, bs) := rdRequest bs
  let (slices, bs) := rdNum 1 bs
  let (chans, bs) := rdList (rdList (rdNum 2)) bs
  let (tiles, bs) := rdList (rdPaired rdTile) bs
  let (routes, bs) := rdList (rdPaired rdRoute) bs
  let (members, bs) := rdList rdMember bs
  let (mr, _) := rdList (fun bs => ((fieldAt 0 2 bs, fieldAt 2 1 bs), bs.drop 3)) bs
  { version := BitVec.ofNat 64 ver, switch_ := sw, start := start, tile := tile.map (·.1), req := req, slices := slices, chans := chans
    tiles := pairedOnly tiles, routes := pairedOnly routes, members := members, meshRoutes := mr
    paired := tile.all (·.2) && tiles.all (·.2) && routes.all (·.2) }

/-- The system state (R317): voters with the standby caller's index, then the saved system request. -/
def stateImage (s : State) (standby : Nat) : List Byte :=
  sealImage (le 1 1 ++ le2 standby ++ counted (s.mesh.voters.map fun v => le2 v.index ++ le8 v.birth.toNat) ++
    (match s.plan.request with | none => [0] | some r => 1 :: requestBytes r) ++
    counted (s.cues.system.map fun c => le4 c.seq.toNat ++ le 1 (bitOf c.settled)))

/-- A packet that the caller forms itself for members: it takes no number of the system series (log 22). One for a whole segment
leaves as a SEGMENT frame, so that a joiner with no index takes it too (R376). -/
def sendSystem (code : BitVec 16) (scope target : Nat) (params : List Byte) (s : State) : State :=
  let k : KcpIn := { path := .mesh, opcodeN := ~~~ code, seq := s.kcp.sys.h, plen := BitVec.ofNat 16 params.length, params := params,
                     route := BitVec.ofNat 32 (scope * 1024 + target + 65536 * s.mesh.index.toNat) }
  let k := { k with crc := kCrc code k }
  if scope = 2 then
    let (f, s) := takeFseq 0x15 s
    meshOut { lane := 0, type := 0x15, src := s.mesh.index.toNat, dest := destField 2 target, fseq := f, body := kWire code k } s
  else relayFrames scope target (kWire code k) s

/-- The pages of an image. Recurses on fuel. -/
def pagesOf (fuel : Nat) (bs : List Byte) : List (List Byte) :=
  match fuel with
  | 0 => []
  | fuel + 1 => if bs.length ≤ 4048 then [bs] else bs.take 4048 :: pagesOf fuel (bs.drop 4048)

/-- Send an image in PLAN_PUBLISH pages. -/
def publishImage (version : W64) (scope target : Nat) (image : List Byte) (s : State) : State :=
  let ps := pagesOf image.length (padTo 4 image)
  ps.zipIdx.foldl (fun (s : State) (x : List Byte × Nat) =>
    sendSystem 0x0205 scope target (le8 version.toNat ++ le2 x.2 ++ le2 ps.length ++ zeros 4 ++ x.1) s) s

/-- Voters of a member list: caller, standby caller, leads, as distinct devices (R317). -/
def votersOf (caller standby : Nat) (ms : List Member) : List Voter :=
  (ms.filter fun m => m.index = caller || m.index = standby || leadOf ms m.segment = some m.index).map fun m =>
    { index := m.index, birth := m.birth }

/-- The voter of lowest birth identity other than the caller; 0x3FF for none (R320). -/
def chooseStandby (caller : Nat) (vs : List Voter) : Nat :=
  ((vs.filter (·.index ≠ caller)).foldl (fun (b : Option Voter) v => match b with
    | none => some v
    | some w => if v.birth < w.birth then some v else some w) none).map (·.index) |>.getD 0x3FF

/-- The caller sends the system state to the standby caller and every lead (R317). -/
def publishState (s : State) : State :=
  let me := s.mesh.index.toNat
  (s.mesh.voters.filter (·.index ≠ me)).foldl (fun (s : State) v =>
    publishImage (match s.plan.active with | some p => p.version | none => 0) 1 v.index (stateImage s s.mesh.standbyIndex) s) s

/-- This device tiles the system: it is the caller of a joined system. -/
def State.tiles (s : State) : Bool := s.boot.system = 2 && s.mesh.caller

/-- PLAN_VERSION in a device's image: LAYOUT is set where a re-plan gives the device another tile, so that its long-term layout changes (R158,
R163, log 137). -/
def imageVersion (p : Plan) (old : List Tile) (device : Nat) : W64 :=
  let of_ (ts : List Tile) : Option (Nat × Shape × List Nat × List Nat) :=
    (ts.find? (·.device = device)).map fun t => (t.slice, t.shape, t.rows, t.cols)
  if of_ old == of_ p.tiles then p.version else p.version ||| BitVec.ofNat 64 (2 ^ 41)

/-- Lanes that the newest LANE records of a device show as lost (R269, R346): the caller knows of no others. -/
def State.lostOf (s : State) (device : Nat) : List Nat :=
  match s.mesh.system.find? (·.index = device) with
  | some r => (r.lanes.filter fun l => (fieldAt 3 1 l.2).testBit 3).map (·.1)
  | none => []

/-- The DEVICE body the caller starts for a joiner: its birth identity, index and segment (R344). -/
def joinerBody (m : Member) : List Byte := le8 m.birth.toNat ++ le2 m.index ++ le 1 m.segment ++ zeros 53

/-- The caller enters the joiners of a member list and sends each device its image of the plan (R376). -/
def publishPlan (p : Plan) (r : Request) (ms : List Member) (s : State) : State :=
  let me := s.mesh.index.toNat
  let new : List Member := ms.filter fun m => decide (m.index ≠ me) && !s.mesh.system.any fun r => r.index = m.index
  let recs : List SysRec := new.map fun m => ({ index := m.index, device := joinerBody m, arrivedAt := s.now } : SysRec)
  let s := { s with mesh := { s.mesh with
    system := s.mesh.system ++ recs
    unknown := s.mesh.unknown.filter fun u => !ms.any (fun m => m.birth = u.birth)
    foundedAt := if new.isEmpty then s.mesh.foundedAt else none } }
  let standby := if ms.any (fun m => m.index = s.mesh.standbyIndex && m.index ≠ me) then s.mesh.standbyIndex
    else chooseStandby me (votersOf me me ms)
  let s := { s with mesh := { s.mesh with voters := votersOf me standby ms, standbyIndex := standby, routes := routeTable s me (ms.map (·.index)) } }
  let s := (ms.filter (·.index ≠ me)).foldl (fun (s : State) m =>
    let tile := p.tiles.find? fun t => t.device = m.index
    let x : Image0 :=
      { version := imageVersion p (match s.plan.active with | some a => a.tiles | none => []) m.index, switch_ := p.switchField, start := r.start.getD (2 ^ 64 - 1), tile := tile
        req := match tile with | some t => deviceRequest r t p.sliceChans | none => r
        slices := p.slices, chans := p.sliceChans, tiles := p.tiles, routes := p.routes, members := ms
        meshRoutes := routeTable s m.index (ms.map (·.index)) }
    if new.any (fun n => n.index = m.index) then publishImage x.version 2 m.segment (imageBytes x) s
    else publishImage x.version 1 m.index (imageBytes x) s) s
  publishState s

end Sys2Proof.Machine
end

