-- ==== Sys2Proof/Machine/Plan.lean ====
section
/-! DEFINITION. Plans come and go (R138, R150 to R157, R376, R403): PLAN_SUBMIT, a computation that ends, publication and
switch points, forced re-plans, FINAL and COOL, PLAN_PUBLISH. -/

namespace Sys2Proof.Machine
open Sys2Proof

/-! ### What a plan changes (R154, R158) -/

/-- D of two plans differs. -/
def sameD (a b : Plan) : Bool := a.dNum * b.dDen == b.dNum * a.dDen

/-- The change includes something an F-engine sees (R154): sources, lanes of sources, blocks, channels and their order, D, T,
and the form of its packets. -/
def seenChange (a b : Plan) : Bool :=
  a.req.sources != b.req.sources || a.routes != b.routes || a.blocks != b.blocks || a.chans != b.chans || a.req.T != b.req.T ||
    a.req.wide != b.req.wide || a.req.framing != b.req.framing || a.tiles != b.tiles || !sameD a b

/-- The routines change (R154): dealt cells or A, or what they compute. -/
def routineChange (a b : Plan) : Bool :=
  a.cellMap != b.cellMap || a.shape != b.shape || a.blocks.length != b.blocks.length || a.req.T != b.req.T || a.req.wide != b.req.wide

/-- Two requests have one long-term layout (R158). -/
def sameLayout (a b : Request) : Bool :=
  sortNat a.blocks == sortNat b.blocks && sortNat a.channels == sortNat b.channels && a.T == b.T && a.wide == b.wide &&
    a.long == b.long && a.heapMib == b.heapMib

/-- LAYOUT of a requested plan: no plan is active, or the layout changes. In a system the slices count as well. -/
def State.layoutBit (s : State) (r : Request) : Bool :=
  match s.plan.active with
  | none => true
  | some p =>
    let prev := if s.tiles then s.plan.request.getD p.req else p.req
    !sameLayout prev r || (s.tiles && (sliceCount prev prev.blocks.length != sliceCount r r.blocks.length || p.tiles.isEmpty))

/-- A plan with its digest (R142). -/
def withDigest (p : Plan) (s : State) : Plan := { p with digest := digestOf p s.mesh.index.toNat }

/-- The switch sample of a plan published now (R154), and START moved to it. -/
def withSwitch (q : Plan) (s : State) : Plan :=
  let lead := s.sampleAtOrAfter (s.time16 + q.req.planLead * 2 ^ 16)
  let from_ := max lead (q.req.start.getD 0)
  match s.plan.active with
  | none =>
    if s.time.epochSet then
      let n := (from_ + q.req.T - 1) / q.req.T * q.req.T
      { q with switchSample := some n, req := { q.req with start := q.req.start.map fun _ => n }, seenByF := true, routines := true }
    else
      { q with switchSample := some (match q.req.start with | some n => n / q.req.T * q.req.T | none => 0), seenByF := true,
               routines := true }
  | some p =>
    let q := { q with seenByF := seenChange p q, routines := routineChange p q }
    if q.seenByF && s.time.epochSet then
      let m := max p.req.T q.req.T
      { q with switchSample := some ((from_ + m - 1) / m * m) }
    else q

/-! ### Making a plan -/

/-- A device of a system without a tile holds this plan (R162). -/
def idlePlan (version : W64) (r : Request) (t : Tiling) : Plan :=
  { version := version, req := { r with sources := [], channels := [] }, slices := t.slices, sliceChans := t.chans, tiles := t.tiles }

/-- What a plan for one device is made from. -/
def deviceInput (r : Request) (version : W64) (device : Nat) (t : Tiling) (tile : Tile) (kept : List Route) (keptShed : List Nat)
    (mayShed : Bool) : PlanIn :=
  { req := deviceRequest r tile t.chans, version := version, device := device, shape := tile.shape, slices := t.slices,
    slice := tile.slice, tiles := t.tiles, sliceChans := t.chans, kept := kept, keptShed := keptShed, mayShed := mayShed, mesh := true }

/-- The first of two failing checks in the order of R150; 0 is none. -/
def firstReason (a b : Nat) : Nat := if a = 0 then b else if b = 0 then a else min a b

/-- The plan of this device in a tiling, with the routes of every other device (R160), and the first check that any device's plan fails. The
caller plans another device on its known lost lanes and on cells like its own (DEDUCED, log 138). -/
def tiledPlan (r : Request) (version : W64) (t : Tiling) (kept : List Route) (keptShed : List Nat) (mayShed : Bool) (s : State) :
    Plan × Nat :=
  let me := s.mesh.index.toNat
  let plans : List (List Route × Nat) := (t.tiles.filter fun x => x.device ≠ me && x.device ≠ 0xFFFF).map fun x =>
    let (p, reason) := computePlan { deviceInput r version x.device t x (kept.filter (·.device = x.device)) [] mayShed with
                                       lost := some (s.lostOf x.device) } s
    (p.routes.filter fun (o : Route) => o.device = x.device, reason)
  let others := (plans.map (·.1)).flatten
  let first := plans.foldl (fun n x => firstReason n x.2) 0
  match t.tiles.find? (·.device = me) with
  | none => ({ idlePlan version r t with routes := others }, first)
  | some x =>
    let (p, reason) := computePlan (deviceInput r version me t x (kept.filter (·.device = me)) keptShed mayShed) s
    ({ p with routes := p.routes ++ others }, firstReason reason first)

/-- The plan of a request under a version (R150); with the plan it replaces when it is forced, and the plan whose tile a device of a system
keeps. A tiling that lacks devices fails TILE, after every check of R150 that comes before it (log 52). -/
def makePlan (r : Request) (version : W64) (base place : Option Plan) (cause : Nat) (mayShed : Bool) (s : State) : Plan × Nat :=
  let me := s.mesh.index.toNat
  let kept := match base with | some p => p.routes | none => []
  let keptShed := match base with | some p => if cause = 2 || cause = 7 then [] else p.shed | none => []
  if s.tiles then
    let r := if base.isSome then { (s.plan.request.getD r) with start := none } else r
    if !noRepeat r.blocks || !noRepeat r.channels then ({ version := version, req := r }, 1)
    else
      let devs := s.membersNext.map (·.index)
      match base with
      | some p =>
        tiledPlan r version { slices := p.slices, chans := p.allSlices, tiles := retile devs (p.allTiles me) } kept keptShed mayShed s
      | none =>
        let t := tileSystem r devs
        let (q, reason) := tiledPlan r version t kept keptShed mayShed s
        (q, if t.full then reason else firstReason 14 reason)
  else
    let x : PlanIn := { req := r, version := version, device := me, kept := kept.filter (·.device = me), keptShed := keptShed,
                        mayShed := mayShed, mesh := s.boot.system = 2 }
    match (match base with | some p => some p | none => place) with
    | some p =>
      let (q, reason) := computePlan { x with shape := p.shape, slices := p.slices, slice := p.slice, tiles := p.tiles,
                                              sliceChans := p.sliceChans } s
      ({ q with routes := q.routes ++ p.routes.filter (·.device ≠ me) }, reason)
    | none => computePlan x s

/-! ### Publication (R150, R154, R155, R157) -/

/-- A plan is refused, or a recomputed request is withdrawn (R150, R157). -/
def refusePlan (q : Plan) (reason : Nat) (o : PlanOutcome) (s : State) : State :=
  let q := { q with reason := reason }
  raiseEvent 0 (journalPlan (if o = .withdrawn then 3 else 2) q { s with plan := { s.plan with
    last := some (q, o), refused := true, reason := reason } })

/-- A pending plan that a newer one supersedes is withdrawn unused, with its follower. -/
def supersede (s : State) : State :=
  let s := match s.plan.pendingPlan with | some q => withdrawPlan q 0 s | none => s
  match s.plan.follower with
  | some f =>
    let s := { s with plan := { s.plan with follower := none } }
    raiseEvent 0 (journalPlan 3 f { s with plan := { s.plan with last := some (f, .withdrawn) } })
  | none => s

/-- A plan is ready: it is pending from now on, with its follower, published at the same moment (R154, R155, R157). A first
plan without an epoch mapping takes effect at once. -/
def publish (q : Plan) (f : Option Plan) (s : State) : State :=
  let s := supersede s
  let s := { s with plan := { s.plan with pendingPlan := some q, follower := f, publishAt := s.now, dwellsSince := 0 } }
  let s := if q.routines || s.plan.active.isNone then writeRoutines q s else s
  let s := journalPlan 0 q s
  let s := match f with | some f => journalPlan 0 f s | none => s
  let s := raiseEvent 0 (rewriteHealth s)
  let s := if s.tiles then publishPlan (f.getD q) { (s.plan.request.getD q.req) with start := q.req.start } s.membersNext s else s
  if s.plan.active.isNone && !s.time.epochSet then takeEffect q s else switchFirst s

/-- The interim plan: only what the F-engines do not see (R155). -/
def interimOf (p q : Plan) : Plan :=
  { p with
    version := q.version ||| BitVec.ofNat 64 (2 ^ 42)
    cellMap := q.cellMap, tX := q.tX, cfBudget := q.cfBudget, switchSample := none, reason := 0, seenByF := false
    routines := routineChange p { p with cellMap := q.cellMap } }

/-- The next version of a forced plan's follower: the next SERIAL, without INTERIM (R155). -/
def followerVersion (v : W64) : W64 := BitVec.ofNat 64 (v.toNat / 2 ^ 32 * 2 ^ 32 + (v.toNat + 1) % 2 ^ 32)

/-- A version without PROVISIONAL once the history is learned (R152). -/
def learnedVersion (v : W64) (s : State) : W64 := if s.boot.learned then v &&& ~~~ BitVec.ofNat 64 (2 ^ 40) else v

/-- A forced re-plan is computed (R153, R155, R156). A device that reports PARTITIONED makes only the interim plan: its follower waits until
the partition ends (R163, log 132). -/
def forcedReady (j : Job) (s : State) : State :=
  match s.plan.active with
  | none => s
  | some p =>
    let v := learnedVersion j.version s
    let (q, reason) := makePlan { p.req with start := none } v (some p) none j.cause true s
    if reason ≠ 0 then refusePlan q reason .refused s
    else
      let q := { q with req := { q.req with start := none } }
      if seenChange p q then
        let a := withDigest (interimOf p q) s
        if s.mesh.partitioned then publish a none { s with plan := { s.plan with followerWaits := some j.cause } }
        else
          let s := { s with plan := { s.plan with serial := s.plan.serial + 1 } }
          let f := withSwitch (withDigest { q with version := followerVersion v } s) s
          publish a (some f) s
      else publish (withSwitch (withDigest q s) s) none s

/-- A requested plan is computed (R150, R157). When self-test ended meanwhile, FINAL recomputes it at once under the learned history (R152,
log 131). -/
def requestReady (j : Job) (s : State) : State :=
  let (q, reason) := makePlan j.req j.version none j.place 1 j.also.isSome s
  let again (s : State) : State := match j.also with | some c => forcePlan c s | none => s
  if reason ≠ 0 then again (refusePlan q reason (if j.also.isSome then .withdrawn else .refused) s)
  else
    let q := { withDigest q s with requested := true }
    if j.req.dryRun then
      again (raiseEvent 0 (journalPlan 4 q { s with plan := { s.plan with last := some (q, .checked) } }))
    else
      let s := if j.place.isSome then s
        else { s with plan := { s.plan with request := some { j.req with start := none, dryRun := false } } }
      let s := publish (withSwitch q s) none s
      if q.provisional && s.boot.learned then forcePlan 2 s else s

/-- R150: the computation ends. While dwells of a pending plan have come to the ingest, a re-plan waits for its switch. -/
def execPlanReady (s : State) : Out :=
  .next (match s.plan.computing with
    | none => s
    | some j =>
      let wait := match s.seam with | some q => s.inPipe q.version | none => false
      if !s.tamzarServes || wait then s
      else
        let s := { s with plan := { s.plan with computing := none } }
        if j.forced then forcedReady j s else requestReady j s)

/-! ### PLAN_SUBMIT (R138, R150, R403) -/

/-- A request is taken: its computation starts, and the version it will carry is answered (R150). -/
def startRequest (r : Request) (s : State) : State × W64 :=
  let v := nextVersion 1 (s.layoutBit r) false s
  let j : Job := { cause := 1, req := r, version := v, startedAt := s.now }
  ({ s with plan := { s.plan with computing := some j, serial := s.plan.serial + 1 } }, v)

/-- T of the request for the point of R403. -/
def submitT (items : List (Nat × Nat × List Byte)) (s : State) : Nat :=
  match items.find? (·.1 = 5) with
  | some (_, _, v) => match planItem 5 v {} with | some r => r.T | none => s.baseRequest.T
  | none => s.baseRequest.T

/-- The point of a PLAN_SUBMIT with EXEC_AT, or its refusal at step 10 (R209 to R211, R403). -/
def submitPoint (k : KcpIn) (T : Nat) (s : State) : CuePoint ⊕ Answer :=
  let v := k.executeAt.toNat
  let loc := k.executeAt.getLsbD 63
  if loc && (!k.executeAt.getLsbD 62 || v % 2 ^ 62 ≥ 2 ^ 48) then .inr (ansField 24)
  else if !loc && (!s.time.synced || !s.time.epochSet) then .inr (ansRefuse .notSynced)
  else
    let sc := if loc then v % 2 ^ 48 else s.sampleAtOrAfter ((v : Int) * 2 ^ 16)
    let pt := (sc + T - 1) / T * T
    match s.plan.active with
    | none => .inl { point := pt, isLocal := loc }
    | some p =>
      if pt / p.req.T < s.nextSweep then
        if kLateOk k then .inl { point := s.nextSweep * p.req.T, lateRun := true, isLocal := loc } else .inr (ansRefuse .late)
      else .inl { point := pt, isLocal := loc }

/-- PLAN_SUBMIT's own rules: R157, R239, R138, R403. -/
def submitRun (items : List (Nat × Nat × List Byte)) (pt : Option CuePoint) (c : Ctx) (s : State) : State × Answer :=
  if s.plan.computing.isSome || s.plan.pendingPlan.isSome then (s, ansBusy s.planCode)
  else
    match repeatedItem items [] with
    | some o => (s, ansField o)
    | none =>
      match planItems items s.baseRequest with
      | .inr o => (s, ansField o)
      | .inl r =>
        let r := r.withWidth
        if pt.isSome && items.any (·.1 = 19) then (s, ansField (itemOffset items 19))
        else
          match requestFault r s.plan.request.isSome items (32 + c.par.length) with
          | some o => (s, ansField o)
          | none =>
            let r := match pt with | some x => { r with start := some x.point } | none => r
            let (s, v) := startRequest r s
            let s := match pt with | some x => if x.lateRun then s.bump .tmCueLateRun else s | none => s
            (s, ansAccepted ((match pt with | some x => cuePrefix x | none => []) ++ le8 v.toNat))

/-- PLAN_SUBMIT: with EXEC_AT its point is judged first (step 10). -/
def planSubmitRun (c : Ctx) (s : State) : State × Answer :=
  match parseItems c.par.length 32 c.par with
  | (none, o) => (s, ansField o)
  | (some items, _) =>
    if !kExecAt c.k then submitRun items none c s
    else
      match submitPoint c.k (submitT items s) s with
      | .inr a =>
        (match a.status with
         | .late => s.bump .tmCueLate
         | .notSynced => s.bump .tmCueNotSynced
         | _ => s, a)
      | .inl pt => submitRun items (some pt) c s

/-- PLAN_SUBMIT. -/
def opPlanSubmit : OpDef :=
  { code := 0x0201, cue := some .sweep, b := true, sys := true, form := formItems 0, run := needTrained planSubmitRun }

/-- R138. -/
def execPlanSubmit (k : KcpIn) (s : State) : Out := .next (kcpCommand opPlanSubmit k s)

/-! ### Switch samples without an epoch mapping, FINAL, COOL (R152 to R154, R274) -/

/-- The first sweep after every sweep of which a packet has been admitted or a dwell has started. -/
def State.sweepOpen (s : State) : Nat :=
  let slot (x : Slot) : Nat := match x.dwell with | some d => if x.pkts.isEmpty then 0 else d.sweep + 1 | none => 0
  let bay := s.ingest.bay.foldl (fun n b => max n (b.dwell.sweep + 1)) 0
  max (max (slot s.ingest.slot0) (slot s.ingest.slot1)) (max (slot s.ingest.slot2) (max bay s.nextSweep))

/-- The switch sample that PLAN_LEAD after publication fixes (R154). -/
def fixSwitch (p q : Plan) (s : State) : Plan :=
  let m := max p.req.T q.req.T
  let from_ := max (s.sweepOpen * p.req.T) (q.req.start.getD 0)
  { q with switchSample := some ((from_ + m - 1) / m * m) }

/-- The PLANNER of a version (R142). -/
def plannerOf (v : W64) : Nat := v.toNat / 2 ^ 43 % 2 ^ 10

/-- A plan of this planner that an F-engine sees and whose switch sweep is not fixed; a plan of the caller's waits for its table (R154). -/
def Plan.wantsSwitch (q : Plan) (s : State) : Bool :=
  q.seenByF && q.switchSample.isNone && plannerOf q.version = s.mesh.index.toNat

/-- The placement table of a plan is published again, under its version: a caller sends every member its image (R154, R376). -/
def publishAgain (q : Plan) (s : State) : State :=
  if s.tiles then publishPlan q { (s.plan.request.getD q.req) with start := q.req.start } s.members s else s

/-- R154: PLAN_LEAD has passed since publication without an epoch mapping; the switch sweep is fixed and the placement table
is published again. -/
def execSwitchSamplePublish (s : State) : Out :=
  .next (if !s.tamzarServes then s
    else match s.plan.active with
    | none => s
    | some p =>
      match s.plan.pendingPlan, s.plan.follower with
      | _, some f =>
        if f.wantsSwitch s then
          let s := s.waitFor s.plan.publishAt f.req.planLead
          let f := fixSwitch p f s
          publishAgain f { s with plan := { s.plan with follower := some f } }
        else s
      | some q, none =>
        if q.wantsSwitch s then
          let s := s.waitFor s.plan.publishAt q.req.planLead
          let q := fixSwitch p q s
          publishAgain q { s with plan := { s.plan with pendingPlan := some q } }
        else s
      | none, none => s)

/-- R152: 3,600 s of self-test under a provisional plan are complete: the history is learned and the FINAL plan is made. -/
def execFinal (s : State) : Out :=
  .next (match s.plan.active with
    | some p =>
      if s.tamzarServes && p.provisional && !s.boot.learned then
        let left := 3600 - s.plan.activeSecs
        let s := s.advanceTo (s.now + left * 500000000)
        let s := { s with plan := { s.plan with activeSecs := max 3600 s.plan.activeSecs }, boot := { s.boot with learned := true } }
        forcePlan 2 (rewriteHealth s)
      else s
    | none => s)

/-- R274: all channels have been in the normal regime for 60 s; the COOL re-plan starts. -/
def execCool (s : State) : Out :=
  .next (match s.plan.coolAt with
    | some t =>
      if s.tamzarServes && s.plan.derated && !s.mem.chan.any (·.hot) then
        let s := s.waitFor t (60 * 10 ^ 9)
        forcePlan 7 { s with plan := { s.plan with derated := false, coolAt := none } }
      else s
    | none => s)

/-- A write of GEN_PLAN_CNT_CLR. -/
def clearUncorrelated (value : W32) (s : State) : State :=
  if value.getLsbD 0 then { s with plan := { s.plan with uncorrelated := 0 } } else s

/-- R155: GEN_PLAN_CNT_CLR clears GEN_PLAN_UNCORRELATED. -/
def execGenPlanCntClr (value : W32) (s : State) : Out :=
  .next (overBus (clearUncorrelated value) s)

/-! ### PLAN_PUBLISH (R317, R376) -/

/-- The pages of a version that have come, in page order, when all have. -/
def pagesDone (v : W64) (n : Nat) (ps : List PlanPage) : Option (List Byte) :=
  let mine := (List.range n).map fun i => ps.find? fun p => p.version = v && p.page = i && p.npage = n
  if mine.all (·.isSome) then some (mine.map fun p => match p with | some p => p.data | none => []).flatten else none

/-- A system state image is taken (R317). -/
def takeState (bs : List Byte) (s : State) : State :=
  let (standby, bs) := rdNum 2 bs
  let (vs, bs) := rdList (fun bs =>
    (({ index := fieldAt 0 2 bs, birth := BitVec.ofNat 64 (fieldAt 2 8 bs) } : Voter), bs.drop 10)) bs
  let (has, bs) := rdNum 1 bs
  let s := { s with mesh := { s.mesh with voters := vs, standbyCaller := standby = s.mesh.index.toNat } }
  if has = 1 then { s with plan := { s.plan with request := some (rdRequest bs).1 } } else s

/-- The switch sample of a pending plan comes with its table published again (R154). -/
def fillSwitch (v : W64) (n : Nat) (s : State) : State :=
  let fill (q : Plan) : Plan := if q.version = v && q.switchSample.isNone then { q with switchSample := some n } else q
  { s with plan := { s.plan with pendingPlan := s.plan.pendingPlan.map fill, follower := s.plan.follower.map fill } }

/-- A plan image is taken: a joiner adopts its index, the lead role, the members and the route table follow, and the plan of this device is
made, journaled and pending (R154, R376). A plan that is already held gets its switch sample. An image whose member table does not name this
device is not for it. -/
def takeImage (x : Image0) (s : State) : State :=
  match x.members.find? (·.birth = s.birth) with
  | none => s
  | some m =>
    let known := (x.members.filter fun o => o.index ≠ m.index).map fun o =>
      (s.mesh.system.find? (·.index = o.index)).getD ({ index := o.index, device := joinerBody o, arrivedAt := s.now } : SysRec)
    let s := { s with
      kcp := if s.boot.system = 1 then { s.kcp with sys := {} } else s.kcp
      mesh := { s.mesh with
        index := BitVec.ofNat 10 m.index, system := known, routes := x.meshRoutes, lead := leadOf x.members m.segment = some m.index
        voters := if s.mesh.voters.isEmpty then votersOf (leaseHolder s.callerLease) 0x3FF x.members else s.mesh.voters } }
    let s := followRole s
    let me := m.index
    let t : Tiling := { slices := x.slices, chans := x.chans, tiles := x.tiles }
    let start := if x.start ≥ 2 ^ 48 then none else some x.start
    let sw := if x.switch_ ≥ 2 ^ 48 - 1 then none else some x.switch_
    if (s.plan.active.toList ++ s.plan.pendingPlan.toList ++ s.plan.follower.toList).any (·.version = x.version) then
      match sw with | some n => fillSwitch x.version n s | none => s
    else
    let (q, reason) := match x.tile with
      | none => (idlePlan x.version x.req t, 0)
      | some tile =>
        computePlan { deviceInput x.req x.version me t tile (x.routes.filter (·.device = me)) [] true with
                        req := { x.req with start := start } } s
    if reason ≠ 0 then refusePlan q reason .refused s
    else
      let q := { q with routes := q.routes ++ x.routes.filter (·.device ≠ me), requested := q.cause = 1 }
      let q := withSwitch (withDigest q s) s
      let q := if sw.isSome then { q with switchSample := sw } else q
      let s := { s with plan := { s.plan with serial := BitVec.ofNat 32 q.serial } }
      publish q none s

/-- PLAN_PUBLISH: a page is kept; the last one completes the image, whose CRC-64 is verified. -/
def planPublishRun (c : Ctx) (s : State) : State × Answer :=
  let v := BitVec.ofNat 64 (fieldAt 0 8 c.par)
  let page := fieldAt 8 2 c.par
  let n := fieldAt 10 2 c.par
  if n = 0 then (s, ansField 42)
  else if page ≥ n then (s, ansField 40)
  else
    let pg : PlanPage := { version := v, page := page, npage := n, data := c.par.drop 16 }
    let rest := s.plan.pages.filter fun p => p.version = v && p.npage = n && p.page ≠ page
    let s := { s with plan := { s.plan with pages := rest ++ [pg] } }
    match pagesDone v n s.plan.pages with
    | none => (s, ansOk)
    | some whole =>
      let kind := fieldAt 8 1 whole
      let body := whole.drop 8
      let s := { s with plan := { s.plan with pages := [] } }
      -- the image ends at the end of its last page but for its zero padding
      let good := (List.range 4).any fun z => fieldAt 0 8 whole = crc64 (body.take (body.length - z))
      if !good then (s, ansOk)
      else if kind = 1 then
        let s := { s with plan := { s.plan with
          sysState := (List.range n).map fun i =>
            { version := v, page := i, npage := n, data := (whole.drop (4048 * i)).take 4048 } } }
        (takeState (body.drop 1) s, ansOk)
      else (takeImage (rdImage (body.drop 1)) s, ansOk)

/-- The page completes a plan image in which an entry does not match its complement: a fault, and the image is not used
(R7). -/
def imageUnpaired (c : Ctx) (s : State) : Bool :=
  let v := BitVec.ofNat 64 (fieldAt 0 8 c.par)
  let n := fieldAt 10 2 c.par
  let pg : PlanPage := { version := v, page := fieldAt 8 2 c.par, npage := n, data := c.par.drop 16 }
  match pagesDone v n (pg :: s.plan.pages) with
  | none => false
  | some whole => fieldAt 8 1 whole ≠ 1 && !(rdImage (whole.drop 9)).paired

/-- PLAN_PUBLISH. -/
def opPlanPublish : OpDef :=
  { code := 0x0205, xo := true, form := fun p => decide (16 ≤ p.length ∧ p.length ≤ 4064), res0 := firstRes0 [(12, 4)]
    fault := imageUnpaired, run := planPublishRun }

/-- R376. -/
def execPlanPublish (k : KcpIn) (s : State) : Out := .next (kcpCommand opPlanPublish k s)

end Sys2Proof.Machine
end

