-- ==== Sys2Proof/Machine/Survey.lean ====
section
/-! DEFINITION. Identity and survey (R323, R342 to R346): the IDENT result, the survey records, SURVEY_GET, the groundskeeper's
snapshot, and survey frames. -/

namespace Sys2Proof.Machine
open Sys2Proof

/-! ### Identity (R342, R343) -/

/-- Bytes 0 and 2 to 11 of an entry as fused (R342). -/
def DieId.fused (d : DieId) : List Byte := [d.die] ++ fit 6 d.lot ++ [d.wafer, d.x, d.y, 0]

/-- CHECK as fused: the CRC-32C, or one that does not match. -/
def DieId.check (d : DieId) : Nat := if d.checkOk then crc32c d.fused else crc32c d.fused ^^^ 1

/-- The 16 bytes of an identity entry (R342): FUSE_BAD is set when CHECK does not match. -/
def DieId.bytes (d : DieId) : List Byte :=
  [d.die, if d.checkOk then 0 else 1] ++ fit 6 d.lot ++ [d.wafer, d.x, d.y, 0] ++ le4 d.check

/-- ROLE of IDENT: [0] caller, [1] standby caller, [2] lead. -/
def State.roleByte (s : State) : Nat := bitOf s.mesh.caller + 2 * bitOf s.mesh.standbyCaller + 4 * bitOf s.mesh.lead

/-- PART: the part number of R1, zero-filled to 16 bytes. -/
def partName : List Byte :=
  [0x41, 0x44, 0x56, 0x2D, 0x44, 0x58, 0x34, 0x4B, 0x31, 0x2D, 0x46, 0, 0, 0, 0, 0]

/-- The result of IDENT. RUNNING_IMAGE is the image of the core that holds, or last held, the lease. -/
def identResult (s : State) : List Byte :=
  partName ++ le2 0xB0 ++ le8 s.birth.toNat ++ (s.fuses.dies.map DieId.bytes).flatten ++
  le4 s.flash.imageA.version.toNat ++ le4 s.flash.imageB.version.toNat ++ le 1 (bitOf (s.running s.leaseCore)) ++
  le 1 s.roleByte ++ le2 s.srcIndex ++ le 1 s.mesh.segment ++ zeros 1

/-- IDENT. -/
def opIdent : OpDef := { code := 0x0002, g := true, form := formLen 0, run := fun _ s => (s, ansOk (identResult s)) }

/-- R323, R241. -/
def execIdent (k : KcpIn) (s : State) : Out := .next (kcpCommand opIdent k s)

/-! ### Survey records (R344) -/

/-- Code of a core state (R311). -/
def coreCode : CoreState → Nat
  | .off => 0 | .boot => 1 | .selftest => 2 | .standby => 3 | .active => 4 | .failed => 5

/-- Hops between two devices over up mesh lanes, as the surveys show them. -/
def State.hops (s : State) (a b : Nat) : Option Nat :=
  ((spread s 1024 [b] [(b, 0)] 1).find? fun (e : Nat × Nat) => e.1 = a).map (·.2)

/-- The mesh breaks R258: some device is farther from its lead, a lead from the caller or the standby caller, or two devices
from each other, than the rule allows. Only the caller of a joined system reports it. -/
def State.meshRule (s : State) : Bool :=
  let ms := s.members
  let far (a b n : Nat) : Bool := a != b && (match s.hops a b with | some h => decide (n < h) | none => true)
  let standby := s.mesh.standbyIndex
  s.tiles && (
    ms.any (fun m => match leadOf ms m.segment with | some l => far m.index l 4 | none => false) ||
    (leadsOf ms).any (fun l => far l.index s.mesh.index.toNat 4 || (standby != 0x3FF && far l.index standby 4)) ||
    ms.any (fun a => ms.any fun b => far a.index b.index 8))

/-- Bits set in the low `n` bits of a number. -/
def popCount (n v : Nat) : Nat := ((List.range n).filter fun i => v.testBit i).length

/-- The almanac tail is frozen: the mirror or a DRAM span (GK_STATUS.FROZEN). -/
def State.frozen (s : State) : Bool := s.gk.mirrorFrozen || s.gk.dramFrozen

/-- FLAGS of a DEVICE record. -/
def State.deviceFlags (s : State) : Nat :=
  bitOf (match s.plan.active with | some p => p.provisional | none => false) + 2 * bitOf s.mesh.partitioned +
  4 * bitOf s.time.synced + 8 * bitOf s.gk.thermalTrip + 16 * bitOf s.frozen + 32 * bitOf s.meshRule +
  64 * bitOf (s.fuses.dies.any fun d => !d.checkOk) + 128 * bitOf (s.cells.marginExhausted != 0)

/-- INPUT_POWER: the sum over the five rails, in 0.1 W. -/
def State.inputPower (s : State) : Nat := (s.gk.rails.map fun r => r.1 * r.2).sum / 10000

/-- Cells that are active (XA_STATUS): healthy, not retired, in a stripe that runs, and no spare of the spare map. -/
def State.activeCells (s : State) : Nat := s.candidates.length

/-- Beds whose spare can still take a cell's place. -/
def State.sparesLeft (s : State) : Nat := ((List.range 80).filter fun g => (s.spareOf g).isSome).length

/-- The body of the DEVICE record. -/
def deviceBody (s : State) : List Byte :=
  le8 s.birth.toNat ++ le2 s.srcIndex ++ le 1 s.mesh.segment ++ le 1 s.roleByte ++ le8 s.planVersion ++
  le2 s.plan.mapGen.toNat ++ le 1 (coreCode s.sup.core0) ++ le 1 (coreCode s.sup.core1) ++ le4 s.deviceFlags ++
  (s.gk.temps.map (leInt 2 ·)).flatten ++ le2 s.inputPower ++ le2 s.activeCells ++ le 1 s.sparesLeft ++
  le 1 (popCount 10 s.cells.stripeLost.toNat) ++ le 1 s.lostLanes.length ++ zeros 1 ++
  le2 (s.mem.chan.zipIdx.map fun (c, i) => bitOf c.hot * 2 ^ i).sum ++ zeros 12

/-- The body of the STRIPE record of a stripe. -/
def stripeBody (i : Nat) (s : State) : List Byte :=
  let bit (w : BitVec 10) : Nat := bitOf (w.getLsbD i)
  le 1 (bit s.cells.powered + 2 * bit s.cells.stripeLost + 4 * bit s.cells.sparePhaseIn + 8 * bit s.cells.stewardFault +
    16 * bit s.cells.marginExhausted) ++ le 1 (s.cells.margin.getD i 0) ++ opMarginGet.stripeBytes i s ++
  le 1 (s.cells.phaseFaults.getD i 0) ++ zeros 5

/-- The body of the CELL record of a cell. -/
def cellBody (c : Nat) (s : State) : List Byte :=
  let x : CellStat := (s.cells.cellStats.find? (·.cell = c)).getD { cell := c }
  let role := if s.cells.retired.contains c then 2 else if s.spareOf (bedOf c) = some c then 1 else 0
  let deal := match s.plan.active with | some p => (p.cellMap.findIdx? (· = c)).getD 0xFFFF | none => 0xFFFF
  le 1 role ++ le2 deal ++ zeros 1 ++ le4 x.sat.toNat ++ le4 x.ecc.toNat ++ le4 x.shadowDone.toNat ++
  le4 x.shadowMismatch.toNat ++ le4 x.faults.toNat ++ le4 x.irrWait.toNat ++ leInt 2 x.slack ++
  le 1 (s.xa.rowsSpared.filter (·.1 = c)).length ++ zeros 1

/-- The body of the STREAM record of a slot. -/
def streamBody (i : Nat) (s : State) : List Byte :=
  match (s.ingest.streams.filter (·.lane = i / 8))[i % 8]? with
  | none => zeros 40
  | some x =>
    le4 x.source.toNat ++ le4 x.e.toNat ++ le8 x.accepted.toNat ++ le4 x.seqGap.toNat ++ le4 x.seqBehind.toNat ++
    le4 x.late.toNat ++ le4 x.duplicate.toNat ++ le4 x.badHeader.toNat ++
    le 1 (bitOf (s.ingest.quiet.contains { lane := x.lane, source := x.source })) ++ zeros 3

/-- The body of the TIME record. -/
def timeBodyRecord (s : State) : List Byte :=
  let m : PtpId := s.time.ptpMaster.getD { clock := 0, port := 0 }
  le 1 (timeStateCode s.time.state) ++ le 1 s.time.source ++ le2 s.time.utcOffset.toNat ++ le 1 (bitOf s.time.utcValid) ++
  zeros 3 ++ le8 m.clock.toNat ++ le2 m.port.toNat ++ zeros 2 ++ le4 s.time.rate.toNat ++ time10 s.time.lastErr ++ zeros 6

/-- The body of the SYSTEM record of an index: empty on a device that is not the caller, and where no device is known. -/
def systemBody (i : Nat) (s : State) : List Byte :=
  if !s.mesh.caller then []
  else if i = s.mesh.index.toNat then
    le8 s.birth.toNat ++ le 1 s.roleByte ++ le 1 s.deviceFlags ++ le 1 s.mesh.segment ++ [0] ++ le4 0 ++ le8 s.planVersion
  else match s.mesh.system.find? (·.index = i) with
    | none => []
    | some r =>
      slice 0 8 r.device ++ slice 11 1 r.device ++ slice 24 1 r.device ++ slice 10 1 r.device ++
      le 1 ((s.hops i s.mesh.index.toNat).getD 0xFF) ++ le4 (min ((s.now - r.arrivedAt) / 500000) (2 ^ 32 - 1)) ++
      slice 12 8 r.device

/-- The body of the GK record. -/
def gkBody (s : State) : List Byte :=
  (s.gk.rails.map fun r => le2 r.1 ++ le2 r.2).flatten ++ (s.gk.temps.map (leInt 2 ·)).flatten ++ le8 s.now ++ zeros 6

/-- A survey record: header and body. -/
def surveyRecord (kind index : Nat) (body : List Byte) : List Byte :=
  le2 kind ++ le2 index ++ le2 body.length ++ zeros 2 ++ body

/-- Number of indexes of a KIND; none for a KIND that does not exist. -/
def surveyIndexes : Nat → Option Nat
  | 1 => some 1 | 2 => some 7 | 3 => some 10 | 4 => some 1360 | 5 => some 128 | 6 => some 1024 | 7 => some 16
  | 8 => some 1 | 9 => some 1024 | 10 => some 1 | _ => none

/-- The current record of a KIND and index. -/
def surveyOf (kind i : Nat) (s : State) : List Byte :=
  surveyRecord kind i (match kind with
    | 1 => deviceBody s
    | 2 => (s.fuses.dies.getD i {}).bytes
    | 3 => stripeBody i s
    | 4 => cellBody i s
    | 5 => laneRecord i s
    | 6 => streamBody i s
    | 7 => chanRecord i s
    | 8 => timeBodyRecord s
    | 9 => systemBody i s
    | _ => gkBody s)

/-- SURVEY_GET: the records of COUNT indexes from FIRST, paged; a KIND or a range that does not exist is refused. -/
def opSurveyGet : OpDef :=
  { code := 0x0003, form := formLen 12, res0 := firstRes0 [(6, 2)]
    run := fun c s =>
      let kind := fieldAt 0 2 c.par
      let first := fieldAt 2 2 c.par
      let n := fieldAt 4 2 c.par
      match surveyIndexes kind with
      | none => (s, ansField 32)
      | some m =>
        if first ≥ m then (s, ansField 34)
        else if first + n > m then (s, ansField 36)
        else (s, ansOk (paged (fieldAt 8 4 c.par) ((List.range n).map fun i => surveyOf kind (first + i) s).flatten)) }

/-- R344. -/
def execSurveyGet (k : KcpIn) (s : State) : Out := .next (kcpCommand opSurveyGet k s)

/-! ### The snapshot (R345) -/

/-- The active supervisor refreshes the groundskeeper's copy of the DEVICE record every 10 ms (R345). -/
def refreshCopy (s : State) : State :=
  if s.tamzarServes && (s.gk.surveyCopy.isEmpty || s.passed s.gk.surveyAt (10 * 10 ^ 6)) then
    { s with gk := { s.gk with surveyCopy := deviceBody s, surveyAt := s.now } }
  else s

/-- The DEVICE body of the snapshot: the last copy, with the temperatures, THERMAL_TRIP and FROZEN as they are now. -/
def snapshotDevice (s : State) : List Byte :=
  let b := fit 64 s.gk.surveyCopy
  let flags := fieldAt 24 4 b
  let flags := flags - 8 * bitOf (flags.testBit 3) - 16 * bitOf (flags.testBit 4) + 8 * bitOf s.gk.thermalTrip + 16 * bitOf s.frozen
  b.take 24 ++ le4 flags ++ (s.gk.temps.map (leInt 2 ·)).flatten ++ b.drop 42

/-- The snapshot: DEVICE, the seven DIE records, GK. -/
def snapshot (s : State) : List Byte :=
  surveyRecord 1 0 (snapshotDevice s) ++
  ((List.range 7).map fun i => surveyRecord 2 i (s.fuses.dies.getD i {}).bytes).flatten ++ surveyRecord 10 0 (gkBody s)

/-- SURVEY_SNAPSHOT. -/
def opSurveySnapshot : OpDef :=
  { code := 0x0004, g := true, form := formLen 0
    run := fun _ s =>
      let s := refreshCopy s
      (s, ansOk (snapshot s)) }

/-- R345. -/
def execSurveySnapshot (k : KcpIn) (s : State) : Out := .next (kcpCommand opSurveySnapshot k s)

/-! ### Survey frames (R346) -/

/-- The device's DEVICE record and the LANE records of its mesh lanes. -/
def ownSurvey (s : State) : List Byte :=
  surveyOf 1 0 s ++ (((List.range 128).filter fun l => s.role l = 3).map fun l => surveyOf 5 l s).flatten

/-- A SURVEY frame to a device. -/
def surveyTo (dest src : Nat) (body : List Byte) (s : State) : State :=
  let (n, s) := takeFseq 0x17 s
  meshOut { lane := 0, type := 0x17, src := src, dest := destField 1 dest, fseq := n, body := body } s

/-- The survey records of a frame: KIND, INDEX and body. Recurses on fuel. -/
def parseSurvey (fuel : Nat) (bs : List Byte) : List (Nat × Nat × List Byte) :=
  match fuel with
  | 0 => []
  | fuel + 1 =>
    if bs.length < 8 then []
    else
      let len := fieldAt 4 2 bs
      if bs.length < 8 + len then []
      else (fieldAt 0 2 bs, fieldAt 2 2 bs, slice 8 len bs) :: parseSurvey fuel (bs.drop (8 + len))

/-- The caller takes the records of a device: its SYSTEM record and the mesh route table are rebuilt. The records name their
device in the SYSTEM_INDEX of DEVICE. -/
def absorbSurvey (recs : List (Nat × Nat × List Byte)) (s : State) : State :=
  match recs.find? (·.1 = 1) with
  | none => s
  | some (_, _, dev) =>
    let i := fieldAt 8 2 dev
    if i ≥ 1023 || i = s.mesh.index.toNat then s
    else
      let lanes : List (Nat × List Byte) := (recs.filter (·.1 = 5)).map fun (_, l, b) => (l, b)
      let r : SysRec := { index := i, device := dev, lanes := lanes, arrivedAt := s.now }
      let s := { s with mesh := { s.mesh with system := s.mesh.system.filter (·.index ≠ i) ++ [r] } }
      let hops := (s.hops i s.mesh.index.toNat).getD 0xFF
      let recs := s.mesh.system.map fun (x : SysRec) => if x.index = i then { x with hops := hops } else x
      let t := routeTable s s.mesh.index.toNat (recs.map (·.index))
      let kept := s.mesh.routes.filter fun x => !t.any (·.1 = x.1)
      { s with mesh := { s.mesh with system := recs, routes := t ++ kept } }

/-- R346: every 1 s a device sends its records to the lead of its segment; the caller, and a lead for the caller, need no lead
between. A device leads its segment when no other device of it has a lower index, as the caller's plan says (R376). -/
def execSurveySend (s : State) : Out :=
  .next (if !s.tamzarServes || s.boot.system ≠ 2 then s
    else
      let s := s.waitFor s.mesh.surveySentAt (10 ^ 9)
      let s := { s with mesh := { s.mesh with surveySentAt := s.now } }
      if s.mesh.caller then s
      else
        let caller := leaseHolder s.callerLease
        let lead := (s.mesh.heard.find? fun h => h.body.lead && h.body.segment = s.mesh.segment).map (·.index)
        surveyTo (if s.mesh.lead then caller else lead.getD caller) s.mesh.index.toNat (ownSurvey s) s)

end Sys2Proof.Machine
end

