-- ==== Sys2Proof/Machine/MeshOps.lean ====
section
/-! DEFINITION. System roles (R15, R16, R163, R317 to R321, R374 to R377): the caller lease, voters and halves, claims and
handover, founding, joining and leaving, the heartbeat a device sends. -/

namespace Sys2Proof.Machine
open Sys2Proof

/-! ### The caller lease (R318, R319) -/

/-- Birth identity of a device as this one knows it. -/
def State.birthOfIndex (s : State) (i : Nat) : Nat :=
  if i = s.mesh.index.toNat then s.birth.toNat
  else match s.mesh.heard.find? (·.index = i) with
    | some h => h.birth.toNat
    | none => match s.mesh.voters.find? (·.index = i) with | some v => v.birth.toNat | none => 2 ^ 64 - 1

/-- One valid word wins over another, or is the same (R318): the higher TERM, then the holder of lower birth identity. No word
wins over none. -/
def State.leaseWins (s : State) (a b : W32) : Bool :=
  leaseHolder b = 0x3FF || callerTerm b < callerTerm a || a = b ||
    (callerTerm a = callerTerm b && decide (s.birthOfIndex (leaseHolder a) < s.birthOfIndex (leaseHolder b)))

/-- Heartbeats that have arrived within a window in ns before FRC `f`. -/
def State.heardAt (s : State) (f window : Nat) : List Heard := s.mesh.heard.filter fun h => f ≤ h.heardAt + window / 2

/-- A SYSTEM heartbeat of a device has arrived within a window in ns before FRC `f`. -/
def Heard.wideIn (h : Heard) (f window : Nat) : Bool :=
  match h.wideAt with | some t => decide (f ≤ t + window / 2) | none => false

/-- The half of a voter at FRC `f`: the voters heard within its window, itself among them (R319). -/
def State.half (s : State) (f window : Nat) : List Voter :=
  s.mesh.voters.filter fun v => v.index = s.mesh.index.toNat || s.mesh.heard.any fun h => h.wideIn f window && h.index = v.index

/-- The voter of lowest birth identity of the voter list. -/
def State.firstVoter (s : State) : Option Voter :=
  s.mesh.voters.foldl (fun (b : Option Voter) v => match b with
    | none => some v
    | some w => if v.birth < w.birth then some v else some w) none

/-- A half qualifies (R319). -/
def State.qualifies (s : State) (f window : Nat) : Bool :=
  let h := s.half f window
  let v := s.mesh.voters.length
  2 * h.length > v || (2 * h.length = v && (match s.firstVoter with | some w => h.contains w | none => false))

/-- The window a device's half is judged by (R319). -/
def State.window (s : State) : Nat := if s.mesh.caller then 150000 else 250000

/-- This device is a voter. -/
def State.isVoter (s : State) : Bool := s.mesh.voters.any (·.index = s.mesh.index.toNat)

/-! ### Heartbeats (R259) -/

/-- The lease word that a heartbeat carries: this device's claim, or the word it holds. -/
def State.leaseSent (s : State) : W32 :=
  if s.mesh.claiming.isSome then callerWord s.mesh.index.toNat (callerTerm s.callerLease + 1) else s.callerLease

/-- A core holds the supervisor lease, or it lapsed less than 200 µs ago: heartbeats carry the device's roles, and a caller lease that it
holds, only then (R312). -/
def State.rolesShown (s : State) : Bool := s.leaseHeld || !s.passed s.sup.lapsedAt 200000

/-- LEASE of a heartbeat: the word as this device holds it; its own caller lease only while its roles show (R259, R312, log 151). -/
def State.leaseShown (s : State) : W32 :=
  if s.rolesShown || leaseHolder s.leaseSent ≠ s.mesh.index.toNat then s.leaseSent else callerWord 0x3FF (callerTerm s.leaseSent)

/-- The heartbeat body of this device now. -/
def heartbeatNow (s : State) : HeartbeatBody :=
  let on := s.rolesShown
  { birth := s.birth, caller := s.mesh.caller && on, standby := s.mesh.standbyCaller && on, lead := s.mesh.lead && on,
    partitioned := s.mesh.partitioned, synced := s.time.synced, segment := s.mesh.segment,
    sup := BitVec.ofNat 2 (s.leaseCore + 2 * bitOf (s.core (1 - s.leaseCore) == .standby)), lease := s.leaseShown, leaseN := ~~~ s.leaseShown,
    reach := (s.heardAt s.now 250000).length, planVersion := BitVec.ofNat 64 s.planVersion, timeNs := nsOf s.time16, timeFrac := fracOf s.time16 }

/-- The 48 bytes of a heartbeat body. -/
def heartbeatBytes (b : HeartbeatBody) : List Byte :=
  le8 b.birth.toNat ++
  le 1 (bitOf b.caller + 2 * bitOf b.standby + 4 * bitOf b.lead + 8 * bitOf b.partitioned + 16 * bitOf b.synced) ++
  le 1 b.segment ++ le 1 b.sup.toNat ++ zeros 1 ++ le4 b.lease.toNat ++ le4 b.leaseN.toNat ++ le2 b.reach ++ zeros 2 ++
  le8 b.planVersion.toNat ++ le8 b.timeNs.toNat ++ le2 b.timeFrac.toNat ++ zeros 6

/-- The heartbeat body that bytes hold. -/
def heartbeatOf (bs : List Byte) : HeartbeatBody :=
  let r := fieldAt 8 1 bs
  { birth := BitVec.ofNat 64 (fieldAt 0 8 bs), caller := r.testBit 0, standby := r.testBit 1, lead := r.testBit 2,
    partitioned := r.testBit 3, synced := r.testBit 4, segment := fieldAt 9 1 bs, sup := BitVec.ofNat 2 (fieldAt 10 1 bs),
    lease := BitVec.ofNat 32 (fieldAt 12 4 bs), leaseN := BitVec.ofNat 32 (fieldAt 16 4 bs), reach := fieldAt 20 2 bs,
    planVersion := BitVec.ofNat 64 (fieldAt 24 8 bs), timeNs := BitVec.ofNat 64 (fieldAt 32 8 bs), timeFrac := BitVec.ofNat 16 (fieldAt 40 2 bs) }

/-- Send a heartbeat body: with SCOPE SYSTEM from the caller, the standby caller, a lead and a joiner, else with SCOPE SEGMENT
(R259, R376). -/
def sendHeartbeat (b : HeartbeatBody) (s : State) : State :=
  let wide := s.mesh.caller || s.mesh.standbyCaller || s.mesh.lead || s.boot.system = 1
  let (n, s) := takeFseq 0x11 s
  meshOut { lane := 0, type := 0x11, src := s.srcIndex, dest := if wide then destField 3 0 else destField 2 s.mesh.segment, fseq := n,
            body := heartbeatBytes b } s

/-- R259: every 50 µs every device sends its heartbeat; a founder only listens (R375). -/
def execHeartbeatSend (s : State) : Out :=
  .next (if !s.laneRuns || s.mesh.founding then s
    else
      let s := s.waitFor s.mesh.hbAt 50000
      let s := { s with mesh := { s.mesh with hbAt := s.now } }
      sendHeartbeat (heartbeatNow s) s)

/-! ### Becoming and ceasing to be caller (R318 to R321) -/

/-- The partition has ended: the re-plan whose follower waited is made again, with its follower (R163, log 132). -/
def resumeFollower (s : State) : State :=
  match s.plan.followerWaits with
  | some c => forcePlan c { s with plan := { s.plan with followerWaits := none } }
  | none => s

/-- The device carries the caller lease from now on: it appoints as standby caller the voter of its half of lowest birth
identity other than itself, and sends the system state (R317, R320). -/
def becomeCaller (word : W32) (s : State) : State :=
  let me := s.mesh.index.toNat
  let s := { s with mesh := { s.mesh with
    caller := true, carrying := true, standbyCaller := false, partitioned := false, lease := word, leaseN := ~~~ word, leaseAt := s.now,
    claiming := none, backoff := none, standbyIndex := chooseStandby me (s.half s.now 250000) } }
  publishState (followRole s)

/-- The device no longer carries the caller lease. -/
def stopCarrying (s : State) : State := followRole { s with mesh := { s.mesh with caller := false, carrying := false } }

/-- R319: the caller's half no longer qualifies in its 150 µs window; it stops carrying the lease at the first moment at which
that is so (log 16). -/
def execCallerHalfLost (s : State) : Out :=
  .next (if !s.mesh.caller || s.boot.system ≠ 2 || !s.tamzarServes then s
    else
      let ends := (s.mesh.heard.filterMap fun h => h.wideAt.map (· + 75001)).filter (s.now ≤ ·)
      match (sortNat (s.now :: ends)).find? fun f => !s.qualifies f 150000 with
      | some f =>
        let s := s.advanceTo f
        stopCarrying { s with mesh := { s.mesh with leaseAt := s.now } }
      | none => s)

/-- Rank of this voter by ascending birth identity among the voters of its half (R320). -/
def State.voterRank (s : State) : Nat := ((s.half s.now 250000).filter fun v => v.birth < s.birth).length

/-- R321: 250 µs after the last heartbeat that carried it, the held lease lapses: the device reports PARTITIONED, and a voter's
backoff starts (R320). -/
def execCallerLeaseLapse (s : State) : Out :=
  .next (if s.mesh.caller || s.boot.system = 0 || s.mesh.partitioned || leaseHolder s.callerLease = 0x3FF || !s.laneRuns then s
    else
      let s := s.waitFor s.mesh.leaseAt 250000
      let word := s.callerLease
      let seen := s.mesh.partitionSeen
      let wait := if s.mesh.standbyCaller then 0 else 10000 * (s.voterRank + 1)
      let s := { s with mesh := { s.mesh with
        partitioned := true, partitionSeen := true, lease := callerWord 0x3FF (callerTerm word), leaseN := ~~~ callerWord 0x3FF (callerTerm word)
        backoff := if s.isVoter then some (s.now + wait) else none } }
      let s := journalLease s.srcTamzar 5 word.toNat 0 s
      freezeOn 9 (if seen then s else raiseEvent 10 s))

/-- R320: the backoff has ended; a voter whose half qualifies claims the caller role with TERM + 1. -/
def execCallerClaim (s : State) : Out :=
  .next (match s.mesh.backoff with
    | some t =>
      if !s.mesh.partitioned || s.mesh.claiming.isSome || !s.tamzarServes then s
      else
        let s := s.advanceTo t
        if s.qualifies s.now 250000 then
          let s := { s with mesh := { s.mesh with claiming := some s.now } }
          sendHeartbeat (heartbeatNow s) { s with mesh := { s.mesh with hbAt := s.now } }
        else s
    | none => s)

/-- R320: 50 µs after its first claiming heartbeat the claimant becomes caller; a lease that wins would have ended the claim. -/
def execCallerClaimWin (s : State) : Out :=
  .next (match s.mesh.claiming with
    | some t =>
      if !s.tamzarServes then s
      else
        let s := s.waitFor t 50000
        let word := s.leaseSent
        let was := s.mesh.partitioned
        let s := journalLease s.srcTamzar 4 word.toNat 0 (s.bump .supCallerClaim)
        let s := if was then journalLease s.srcTamzar 6 word.toNat 0 s else s
        resumeFollower (becomeCaller word s)
    | none => s)

/-- CALLER_HANDOVER (R320): one heartbeat names the standby caller with TERM + 1, and this device stops carrying the lease. It
needs a standby caller that is healthy: one heard within 250 µs. -/
def opCallerHandover : OpDef :=
  { code := 0x0908, sys := true, form := formLen 0
    run := fun _ s =>
      let toward := s.mesh.standbyIndex
      if s.boot.system ≠ 2 || toward = 0x3FF || !(s.heardAt s.now 250000).any (·.index = toward) then (s, ansRefuse .noSpare)
      else
        let word := callerWord toward (callerTerm s.callerLease + 1)
        let s := sendHeartbeat { heartbeatNow s with lease := word, leaseN := ~~~ word } s
        let s := { s with mesh := { s.mesh with lease := word, leaseN := ~~~ word, leaseAt := s.now, hbAt := s.now, standbyIndex := 0x3FF } }
        (stopCarrying s, ansOk) }

/-- R320. -/
def execCallerHandover (k : KcpIn) (s : State) : Out := .next (kcpCommand opCallerHandover k s)

/-- The caller declares a device lost, and a SYSTEM re-plan gives its tile away (R163, R321). -/
def declareLost (i : Nat) (s : State) : State :=
  if s.mesh.lost.contains i then s
  else
    let s := { s with mesh := { s.mesh with lost := s.mesh.lost ++ [i] } }
    forcePlan 8 (journalLease s.srcTamzar 7 s.callerLease.toNat i s)

/-- R163: a device has been unreachable for 10 s: no heartbeat and no survey of it has come. The caller declares it lost. A device that
reports a root fault (R21) or leaves (R377) is lost when its next heartbeat shows that it is no longer the member: the manual gives no frame
for that report (DEDUCED, log 115). -/
def execDeviceLost (index : BitVec 10) (s : State) : Out :=
  .next (let i := index.toNat
    match s.mesh.system.find? (·.index = i) with
    | none => s
    | some r =>
      if !s.tiles || !s.tamzarServes || s.mesh.partitioned || s.mesh.lost.contains i || i = s.mesh.index.toNat then s
      else
        let last := match s.mesh.heard.find? (·.index = i) with | some h => max h.heardAt r.arrivedAt | none => r.arrivedAt
        declareLost i (s.waitFor last (10 * 10 ^ 9)))

/-! ### Founding, joining, leaving (R374 to R377) -/

/-- The device waits for a caller: it has no index, no lease and no role (R376). -/
def startJoining (s : State) : State :=
  followRole { s with
    boot := { s.boot with system := 1 }
    mesh := { s.mesh with
      caller := false, carrying := false, standbyCaller := false, lead := false, voters := [], lease := callerWord 0x3FF 0, leaseN := ~~~ callerWord 0x3FF 0, leaseAt := s.now
      claiming := none, backoff := none, standbyIndex := 0x3FF, heard := [], system := [], routes := [], lost := [], unknown := []
      joinAt := s.now, founding := false, foundedAt := none, leaveAt := none } }

/-- SYSTEM_JOIN (R374). -/
def opSystemJoin : OpDef :=
  { code := 0x0206, never := true, form := formLen 4, res0 := firstRes0 [(2, 2)]
    run := fun c s =>
      let mode := fieldAt 0 1 c.par
      let seg := fieldAt 1 1 c.par
      if mode > 1 then (s, ansField 32)
      else if seg > 31 then (s, ansField 33)
      else if s.plan.active.isSome then (s, ansBusy s.planCode)
      else if s.boot.system ≠ 0 then (s, ansBusy s.boot.system)
      else if !(List.range 8).all (fun l => (s.lane l).fj) then (s, ansField 32)
      else
        let s := startJoining { s with mesh := { s.mesh with segment := seg } }
        ({ s with mesh := { s.mesh with founding := mode = 0 } }, ansAccepted) }

/-- R374. -/
def execSystemJoin (k : KcpIn) (s : State) : Out := .next (kcpCommand opSystemJoin k s)

/-- R375: the founder has listened for 1 ms and heard no caller: it is the caller of a new system, with system index 0, TERM 1
and V = 1, and leads its segment. -/
def execFoundListenEnd (s : State) : Out :=
  .next (if !s.mesh.founding || !s.tamzarServes then s
    else
      let s := s.waitFor s.mesh.joinAt (10 ^ 6)
      raiseEvent 4 <| followRole { s with
        boot := { s.boot with system := 2 }
        mesh := { s.mesh with
          founding := false, index := 0, caller := true, carrying := true, lead := true, lease := callerWord 0 1, leaseN := ~~~ callerWord 0 1, leaseAt := s.now
          voters := [{ index := 0, birth := s.birth }], foundedAt := some s.now } })

/-- R376: a joiner with no index after 10 s returns to a system of one. A joiner that has adopted an index has the plan whose
switch point makes it a member. -/
def execJoinTimeout (s : State) : Out :=
  .next (if s.boot.system ≠ 1 || s.mesh.founding || s.plan.pendingPlan.isSome || !s.tamzarServes then s
    else raiseEvent 4 (systemOfOne (s.waitFor s.mesh.joinAt (10 * 10 ^ 9))))

/-- SYSTEM_LEAVE takes effect from sweep `k`: at that boundary, or at once while no plan is active. -/
def leaveFrom (k : Nat) (s : State) : State :=
  if s.plan.active.isNone then leaveSystem s else { s with mesh := { s.mesh with leaveAt := some k } }

/-- A caller with other members may not leave (R377). -/
def State.mayNotLeave (s : State) : Bool := s.boot.system = 2 && s.mesh.caller && decide (1 < s.members.length)

/-- SYSTEM_LEAVE (R377). -/
def opSystemLeave : OpDef :=
  { code := 0x0207, cue := some .sweep, form := formLen 0
    run := fun _ s => if s.mayNotLeave then (s, ansBusy s.boot.system) else (leaveFrom s.nextSweep s, ansAccepted)
    accept := fun _ _ s => if s.mayNotLeave then (s, ansBusy s.boot.system) else (s, ansAccepted)
    atPoint := fun _ s => leaveFrom (s.xa.startedSweep.getD 0) s }

/-- R377. -/
def execSystemLeave (k : KcpIn) (s : State) : Out := .next (kcpCommand opSystemLeave k s)

end Sys2Proof.Machine
end

