-- ==== Sys2Proof/Machine/Boot.lean ====
section
/-! DEFINITION. Reset, bring-up, clocks and references, rails and temperatures (R19 to R22, R279, R286, R365 to R371, R386 to
R393). -/

namespace Sys2Proof.Machine
open Sys2Proof

/-! ### Restarts (R21, R386, R387) -/

/-- The dies in reset: every field as at reset but what survives a restart (log 2): fuses, flash, pins and straps, the always-on
mirror with its freeze and the record numbers, ROOT_UNLOCK_SEEN, RAIL_DIP_SEEN, the root PLL in use, the thermal trip, and what
has left the device (log 6). -/
def restart (s : State) : State :=
  let r := State.reset
  let clk := { r.clk with
    held := true, porst := s.clk.porst, outOfOrder := s.clk.outOfOrder, primaryTried := s.clk.primaryTried,
    twinActive := s.clk.twinActive, rootUnlockSeen := s.clk.rootUnlockSeen, railDipSeen := s.clk.railDipSeen,
    pcieRefAux := s.clk.pcieRefAux }
  let boot := { r.boot with
    thermalHold := s.boot.thermalHold, smbAddr := s.boot.smbAddr, aoRestarted := s.boot.aoRestarted }
  let pcie := { r.pcie with perst := s.pcie.perst, vectors := s.pcie.vectors, dmaOut := s.pcie.dmaOut }
  let gk := { r.gk with
    thermalTrip := s.gk.thermalTrip, thermtripN := s.gk.thermtripN, freezeCause := s.gk.freezeCause,
    mirrorFrozen := s.gk.mirrorFrozen }
  let alm := { r.alm with rn := s.alm.rn, mirror := s.alm.mirror, frozenSpan := s.alm.frozenSpan }
  { r with
    clk := clk, boot := boot, pcie := pcie, gk := gk, alm := alm, fuses := s.fuses, flash := s.flash,
    lanes := { r.lanes with sent := s.lanes.sent }, mesh := { r.mesh with tx := s.mesh.tx }, jtag := s.jtag,
    freeCount := s.freeCount, pending := s.pending }

/-- Every lane that is not OFF becomes quiet. -/
def quietAll (s : State) : State := quietLanes ((List.range 128).filter fun l => (s.lane l).state != .off) s

/-- R386, R391: PORST_N is released. With every rail in range bring-up starts at step CLOCKS, and the straps are sampled; after
a ramp out of order the dies stay in reset until the next release. -/
def execPorstRelease (railsOk : Bool) (pcieRefsel : Bool) (smbAddr : BitVec 3) (s : State) : Out :=
  .next (if !s.clk.porst then s
    else if railsOk then
      let clk := { s.clk with porst := false, held := false, outOfOrder := false, pcieRefAux := pcieRefsel }
      { s with clk := clk, boot := { s.boot with step := 1, smbAddr := smbAddr } }
    else { s with clk := { s.clk with porst := false, held := true, outOfOrder := true } })

/-- R386: PORST_N low holds every die in reset, as at power-down. -/
def execPorstAssert (s : State) : Out :=
  .next (if s.clk.porst then s
    else
      let s := restart s
      { s with clk := { s.clk with porst := true, outOfOrder := false } })

/-! ### Step CLOCKS (R21, R369) -/

/-- Step GROUNDSKEEPER ends: both cores load, the stripes are powered, the device is a system of one, and the PCI Express link
comes up once PCIE_PERST_N is released (R311, R369, log 29). -/
def enterTamzar (s : State) : State :=
  let s := (s.setCore 0 .boot).setCore 1 .boot
  let cells := { s.cells with powered := BitVec.ofNat 10 0x3FF, spareMap := s.fuses.spares
                              spareMapN := compl s.fuses.spares }
  { s with boot := { s.boot with step := 3 }, cells := cells, mesh := { s.mesh with caller := true, lead := true },
           pcie := { s.pcie with up := !s.pcie.perst } }

/-- Step GROUNDSKEEPER: fuses are read; a die whose identity entry fails its check is journaled as a FAULT (R342, log 28). -/
def readFuses (s : State) : State :=
  s.fuses.dies.foldl (fun s d => if d.checkOk then s else journalFault 3 blkGk 31 (0x3800 / 4) d.die.toNat 0 s) s

/-- R369: the root PLL in use locks: the FRC starts, and the groundskeeper comes up. After a thermal trip bring-up holds there
until every sensor reads below 90 °C (R393). -/
def execRootPllLock (s : State) : Out :=
  .next (if s.clk.held || s.boot.step ≠ 1 then s
    else
      let clk := { s.clk with rootLock := true, refPresent := true, auxrefPresent := true, pciePllLock := true }
      let s := { s with clk := clk, time := { s.time with frcOn := true }, boot := { s.boot with step := 2 } }
      let s := readFuses s
      if s.boot.thermalHold then s else enterTamzar s)

/-- R21: at power-up the primary has not locked within 2 ms: the twin is used. -/
def execPrimaryLockTimeout (s : State) : Out :=
  .next (if s.clk.held || s.boot.step ≠ 1 || s.clk.twinActive then s
    else { s with clk := { s.clk with twinActive := true, primaryTried := true } })

/-! ### Step DRAM and step PLAN (R279, R287, R367 to R370) -/

/-- Remap entries of a channel from the health record, without those that hard repair has freed (R287). -/
def remapsOf (h : Health) (repaired : List (Nat × Nat)) (ch : Nat) : List Remap :=
  (h.dramRemap.filter fun e => e.1 / 2 ^ 20 = ch && !(repaired.contains (ch, e.1 % 2 ^ 20))).map fun e =>
    let row := e.1 % 2 ^ 20
    { row := row, spare := e.2, complement := ~~~ BitVec.ofNat 64 (row + 2 ^ 32 * e.2) }

/-- First spare row not used yet in each bank (R286). -/
def spareNextOf (rs : List Remap) : List (Nat × Nat) :=
  (List.range 16).filterMap fun b =>
    match (rs.filter fun r => bankOf r.row = b).map fun r => r.spare / 16 - 0xFE00 + 1 with
    | [] => none
    | n :: ns => some (b, ns.foldl max n)

/-- A hard repair frees its entry (R287, R333). -/
def hardRepaired (h : Health) (s : State) (e : Nat × Nat) : State :=
  let (ch, row) := e
  if ch < 16 && h.dramRemap.any (·.1 = ch * 2 ^ 20 + row) then
    let addr := rowBase ch row
    let s := s.onChan ch fun c => { c with lastRepair := 2, lastRepairAddr := BitVec.ofNat 64 addr }
    journalSpare s.srcTamzar 5 ch 0 addr s
  else s

/-- The health record is applied (R151, R367): spares, retired cells and rows, Loam and DRAM remaps, lost stripes, phases and
lanes, margin steps, the saved request and SELFTEST_SECONDS. -/
def applyHealth (h : Health) (repaired : List (Nat × Nat)) (s : State) : State :=
  let groups := (h.loamRemap.map (·.1)).foldl (fun (w : BitVec 16) g => w ||| BitVec.ofNat 16 (2 ^ g)) 0
  let cells := { s.cells with
    spareMap := h.spareMap, spareMapN := h.spareMapN, retired := h.retired, loamRemap := h.loamRemap
    loamRemapN := h.loamRemap.map remapCompl, loamSpareUsed := groups,
    stripeLost := h.lostStripes, powered := s.cells.powered &&& ~~~ h.lostStripes, sparePhaseIn := h.phases,
    margin := h.margin }
  let chan := s.mem.chan.zipIdx.map fun (c, i) =>
    { c with remaps := remapsOf h repaired i, spareNext := spareNextOf (remapsOf h [] i) }
  let lane := s.lanes.lane.zipIdx.map fun (x, i) => { x with lost := h.lostLanes.contains i }
  let s := { s with
    boot := { s.boot with history := true, learned := h.learned }, cells := cells, mem := { s.mem with chan := chan },
    lanes := { s.lanes with lane := lane }, xa := { s.xa with rowsSpared := h.rowsSpared },
    plan := { s.plan with request := h.request, serial := h.planSerial, activeSecs := h.seconds } }
  repaired.foldl (hardRepaired h) s

/-- A lane from its four bytes of the board block: MODE, PHY, POLARITY, TX_PRESET (R249, R368). A lane whose bytes R249 does not
give stays OFF (log 29). -/
def boardLane (b : Nat × Nat × Nat × Nat) (x : Lane) : Lane :=
  let (mode, phy, pol, preset) := b
  if mode < 2 && phy < 4 && pol < 4 && 1 ≤ preset && preset ≤ 3 then
    { x with fj := mode = 1, phy := phy, polarity := BitVec.ofNat 2 pol, txPreset := preset, state := .train }
  else x

/-- The board block is applied at step LANES: lanes start training from it, and its TIME_SOURCE items are taken up to the first
ID 0 (R368, R369). A block whose CRC-32C fails leaves the defaults and is journaled as a FAULT. -/
def applyBoard (s : State) : State :=
  match s.flash.board with
  | none => journalFault s.srcTamzar blkGen 30 (0x04 / 4) 0 0 s
  | some b =>
    let lane := s.lanes.lane.zipIdx.map fun (x, i) =>
      match b.lanes[i]? with | some c => { boardLane c x with outAt := s.now } | none => x
    let s := { s with lanes := { s.lanes with lane := lane } }
    match parseItems b.timeItems.length 0 b.timeItems with
    | (some items, _) =>
      match timeItems s (items.takeWhile (·.1 ≠ 0)) s.time with
      | .inl t => { s with time := t }
      | .inr _ => s
    | _ => s

/-- Step PLAN, at once followed by step LANES (R369): the health record is read, with AUTOSTART the saved request is planned, and
every hedge PLL starts from off on the reference that LANE_REF_SEL selects (R19). -/
def enterLanes (repaired : List (Nat × Nat)) (s : State) : State :=
  let s := match s.healthNewest with | some h => applyHealth h repaired s | none => s
  let auto := match s.flash.board with | some b => b.autostart | none => false
  let clk := { s.clk with hedgePllOn := BitVec.allOnes 16, hedgeRefAux := if s.clk.laneRefSel then BitVec.allOnes 16 else 0 }
  let s := { s with boot := { s.boot with step := 6, lanesAt := s.now }, clk := clk }
  let s := applyBoard s
  if auto then
    match s.plan.request with
    | some r => (startRequest (r.withWidth) s).1
    | none => s
  else s

/-- R279, R287, R370: training, repair and initialisation end. A channel that fails sets TRAIN_FAIL, and the DX4 stays at step DRAM;
otherwise memory holds zeros and Tamzar takes packets. -/
def execDramTrainingDone (eyes : List Eyes) (repaired : List (Nat × Nat)) (s : State) : Out :=
  .next (if s.clk.held || s.boot.step ≠ 4 || !s.leaseHeld || s.boot.trainFail then s
    else
      let s := trainChannels (BitVec.allOnes 16) eyes s
      let failed := s.failedChans (BitVec.allOnes 16)
      if failed = 0 then
        enterLanes repaired { s with mem := { s.mem with dram := [], poison := [] } }
      else
        let s := { s with boot := { s.boot with trainFail := true }, mem := { s.mem with trainFail := true } }
        raiseEvent 8 (journalFault s.srcTamzar blkMc 5 (0x2044 / 4) failed.toNat 0 s))

/-! ### Steps LANES and TIME (R369) -/

/-- R369: every lane configured other than OFF has reached LOCK, or 2 s have passed. -/
def execLanesStepEnd (s : State) : Out :=
  .next (if s.clk.held || s.boot.step ≠ 6 then s
    else
      let all := s.lanes.lane.all fun x => x.state == .off || x.state == .lock
      let s := if all then s else s.waitFor s.boot.lanesAt (2 * 10 ^ 9)
      { s with boot := { s.boot with step := 7, timeAt := s.now } })

/-- R369: the time unit is in LOCK, or 30 s have passed. -/
def execTimeStepEnd (s : State) : Out :=
  .next (if s.clk.held || s.boot.step ≠ 7 then s
    else
      let s := if s.time.state == .lock then s else s.waitFor s.boot.timeAt (30 * 10 ^ 9)
      { s with boot := { s.boot with step := 8 } })

/-! ### References and PLLs (R19 to R22) -/

/-- A W1C bit of GEN_CLK_STATUS is set and journaled as an EVENT (R20, R22, R361). -/
def clockEvent (bit arg : Nat) (s : State) : State := raiseEvent 5 (journalEvent 3 blkGen bit (0x08 / 4) arg 0 s)

/-- R20: REFCLK has had no edges for 200 ns: the root PLL and the hedge PLLs that take REFCLK hold over; every clock runs on. The PCI
Express PLL holds over too where it takes REFCLK, as R22 has it do on AUXREFCLK (DEDUCED, log 114). -/
def execRefLoss (s : State) : Out :=
  .next (if !s.clk.rootLock || !s.clk.refPresent then s
    else
      let clk := { s.clk with
        refPresent := false, holdover := true, refLostSeen := true,
        hedgeHold := s.clk.hedgeHold ||| (s.clk.hedgePllOn &&& ~~~ s.clk.hedgeRefAux),
        pcieHold := s.clk.pcieHold || !s.clk.pcieRefAux }
      clockEvent 4 0 { s with clk := clk })

/-- R20: REFCLK has been present again for 1 ms: the root PLL relocks without a phase step, and HOLDOVER is cleared. -/
def execRefRelock (s : State) : Out :=
  .next (if !s.clk.rootLock || s.clk.refPresent then s
    else
      let clk := { s.clk with
        refPresent := true, holdover := false, hedgeHold := s.clk.hedgeHold &&& s.clk.hedgeRefAux,
        pcieHold := s.clk.pcieHold && s.clk.pcieRefAux }
      { s with clk := clk })

/-- R22: AUXREFCLK has had no edges for 200 ns: the PLLs that take it hold over. -/
def execAuxrefLoss (s : State) : Out :=
  .next (if !s.clk.rootLock || !s.clk.auxrefPresent then s
    else
      let takers := s.clk.hedgePllOn &&& s.clk.hedgeRefAux
      let s := { s with clk := { s.clk with auxrefPresent := false } }
      if takers = 0 && !s.clk.pcieRefAux then s
      else
        let clk := { s.clk with
          auxrefLostSeen := true, hedgeHold := s.clk.hedgeHold ||| takers, pcieHold := s.clk.pcieHold || s.clk.pcieRefAux }
        clockEvent 7 takers.toNat { s with clk := clk })

/-- R22: AUXREFCLK has been present again for 1 ms: its PLLs relock without a phase step. -/
def execAuxrefRelock (s : State) : Out :=
  .next (if !s.clk.rootLock || s.clk.auxrefPresent then s
    else
      let clk := { s.clk with
        auxrefPresent := true, hedgeHold := s.clk.hedgeHold &&& ~~~ s.clk.hedgeRefAux,
        pcieHold := s.clk.pcieHold && !s.clk.pcieRefAux }
      { s with clk := clk })

/-- The reference a PLL takes is present. -/
def State.refHere (s : State) (aux : Bool) : Bool := if aux then s.clk.auxrefPresent else s.clk.refPresent

/-- R22: a hedge PLL that loses lock with its reference present restarts from off, sampling LANE_REF_SEL again (R19, log 91), and its lanes
retrain; the PCI Express PLL (`none`) restarts and its link retrains, both done in the next TCLK period (log 143). -/
def execPllUnlock (hedge : Option (Fin 16)) (s : State) : Out :=
  .next (match hedge with
    | none =>
      if s.clk.pciePllLock && s.refHere s.clk.pcieRefAux then
        journalEvent 3 blkGen 24 (0x08 / 4) 0 0 { s with
          clk := { s.clk with pciePllLock := false, pcieRestart := true }, pcie := { s.pcie with up := false, retraining := s.pcie.up } }
      else s
    | some h =>
      let bit : BitVec 16 := BitVec.ofNat 16 (2 ^ h.val)
      if s.clk.hedgePllLock.getLsbD h && s.refHere (s.clk.hedgeRefAux.getLsbD h) then
        let clk := { s.clk with
          hedgePllLock := s.clk.hedgePllLock &&& ~~~ bit,
          hedgeRefAux := if s.clk.laneRefSel then s.clk.hedgeRefAux ||| bit else s.clk.hedgeRefAux &&& ~~~ bit }
        let s := { s with clk := clk }
        let ls := (List.range 8).map (8 * h.val + ·)
        let s := ls.foldl (fun s l => if (s.lane l).state == .off then s else leaveLock l .train s) s
        journalEvent 3 blkGen (8 + h.val) (0x08 / 4) h.val 0 s
      else s)

/-- R19: a hedge PLL that has started from off locks. -/
def execHedgePllLock (hedge : Fin 16) (s : State) : Out :=
  .next (if s.clk.hedgePllOn.getLsbD hedge && s.refHere (s.clk.hedgeRefAux.getLsbD hedge) then
    { s with clk := { s.clk with hedgePllLock := s.clk.hedgePllLock ||| BitVec.ofNat 16 (2 ^ hedge.val) } } else s)

/-! ### Root faults and rails (R21, R387) -/

/-- R21: a root fault. The lanes become quiet, the mirror freezes, and the DX4 restarts on the twin root PLL, which stays in use. -/
def execRootFault (s : State) : Out :=
  .next (if s.clk.held || !s.clk.rootLock then s
    else
      let s := restart (freezeOn 0 (quietAll s))
      let clk := { s.clk with held := false, rootUnlockSeen := true, twinActive := true, primaryTried := true }
      raiseEvent 5 { s with clk := clk, boot := { s.boot with step := 1 } })

/-- R387: a rail dip runs the same sequence, and the dies stay in reset until the rails are back. -/
def execRailDip (s : State) : Out :=
  .next (if s.clk.held then s
    else
      let s := restart (freezeOn 0 (quietAll s))
      raiseEvent 5 { s with clk := { s.clk with railDipSeen := true } })

/-- R387: the rails have been back in range for 1 ms after a rail dip: restart from step CLOCKS on the root PLL in use before. -/
def execRailDipRecovery (s : State) : Out :=
  .next (if s.clk.held && !s.clk.porst && !s.clk.outOfOrder then
    { s with clk := { s.clk with held := false }, boot := { s.boot with step := 1 } } else s)

/-- R387: VDD_IO below 1.62 V resets the whole DX4, and the mirror is lost. -/
def execVddIoLoss (s : State) : Out :=
  let r := State.reset
  .next { r with
    fuses := s.fuses, flash := s.flash, clk := { r.clk with porst := s.clk.porst, outOfOrder := !s.clk.porst }
    boot := { r.boot with aoRestarted := true }
    pcie := { r.pcie with perst := s.pcie.perst, vectors := s.pcie.vectors, dmaOut := s.pcie.dmaOut }
    lanes := { r.lanes with sent := s.lanes.sent }, mesh := { r.mesh with tx := s.mesh.tx }
    freeCount := s.freeCount, pending := s.pending }

/-! ### Temperatures (R392, R393) -/

/-- The hottest reading of a die, or the one before when it has none. -/
def hottest (die : Nat) (old : Int) (rs : List (Fin 7 × Int)) : Int :=
  match (rs.filter fun r => r.1.val = die).map (·.2) with
  | [] => old
  | t :: ts => ts.foldl max t

/-- A die's crossings of 95 °C and 90 °C: the first of 95 °C after a fall below 90 °C is journaled (R392). -/
def heatDie (t : Int) (d : Nat) (s : State) : State :=
  if t < 900 then { s with gk := { s.gk with hot95 := setAt d (fun _ => false) s.gk.hot95 } }
  else if t ≥ 950 && !(s.gk.hot95.getD d false) then
    journalEvent 3 blkGk 30 (0x3800 / 4) d t.toNat { s with gk := { s.gk with hot95 := setAt d (fun _ => true) s.gk.hot95 } }
  else s

/-- The groundskeeper reads the voltage and current of the five rails with its other sensors: free values (log 41). -/
def readRails (s : State) : State :=
  let (n, s) := takeFree s
  { s with gk := { s.gk with rails := (List.range 5).map fun i =>
      let w := (Config.reading n i).toNat
      (w % 65536, w / 65536) } }

/-- R392, R393: the groundskeeper reads every sensor, in 0.1 °C. A reading of 110 °C or more trips; after a trip, bring-up goes on
once every sensor is below 90 °C. -/
def execTempSensorRead (readings : List (Fin 7 × Int)) (s : State) : Out :=
  .next (if !s.gkServes then s
    else
      let s := readRails s
      let temps := s.gk.temps.zipIdx.map fun (t, d) => hottest d t readings
      let s := { s with gk := { s.gk with temps := temps } }
      let s := temps.zipIdx.foldl (fun s (t, d) => heatDie t d s) s
      if temps.any (1100 ≤ ·) then (if s.gk.stopped && s.gk.mode = 2 && s.gk.thermalTrip then s else thermalTrip s)
      else if s.boot.thermalHold && s.boot.step = 2 && temps.all (· < 900) then
        enterTamzar { s with boot := { s.boot with thermalHold := false } }
      else s)

end Sys2Proof.Machine
end

