-- ==== Sys2Proof/Machine/Operands.lean ====
section
/-! DEFINITION. The BAR0 register map (R359): which offsets exist, which are always on, and which are RW, RWC, W1C or WO. -/

namespace Sys2Proof.Machine
open Sys2Proof

/-- Registers served by the always-on domain, without the Trellis (R359, AO). -/
def aoOffset (o : Nat) : Bool :=
  decide (o ≤ 0x14 ∨ (0x1C ≤ o ∧ o ≤ 0x24) ∨ (0x10D8 ≤ o ∧ o ≤ 0x10E8) ∨ (0x1400 ≤ o ∧ o ≤ 0x1464) ∨
    (0x3800 ≤ o ∧ o ≤ 0x3808) ∨ (0xE000 ≤ o ∧ o ≤ 0xE3FF) ∨ o = 0xE800 ∨ o = 0xE804)

/-- The ring and the place in its block of a ring register (R359). -/
def ringOffset (o : Nat) : Option (RingId × Nat) :=
  if 0x1000 ≤ o ∧ o < 0x1100 then
    let r : RingId := match (o - 0x1000) / 0x40 with | 0 => .urg | 1 => .nrm | 2 => .blk | _ => .gkr
    let i := o % 0x40
    if decide (i ≤ 0x28) && (r != .gkr || decide (0x18 ≤ i)) then some (r, i) else none
  else none

/-- The clear registers and the counters they clear (R58, R84, R108, R137, R191, R217, R243, R270, R296, R329, R354, R378). -/
def clearRegs : List (Nat × Nat × Nat) :=
  [(0x1C, 0x20, 0x24), (0x64, 0x68, 0x70), (0x90, 0x94, 0xA4), (0x1100, 0x1104, 0x1130), (0x1434, 0x1438, 0x1464),
   (0x1808, 0x180C, 0x185C), (0x1888, 0x18E0, 0x191C), (0x2008, 0x200C, 0x2038), (0x204C, 0x2050, 0x2078),
   (0x2408, 0x240C, 0x2418), (0x2808, 0x280C, 0x2844), (0x2C04, 0x2C08, 0x2C28), (0x2E14, 0x2E18, 0x2E30),
   (0x300C, 0x3030, 0x3064), (0x3420, 0x3424, 0x343C), (0x3604, 0x3608, 0x360C)]

/-- The RWC register, its value word (R216). -/
def jumpOffset : Nat := 0x1428

/-- The RW and RWC registers that PARAM_GET and PARAM_SET name (R242), in ascending order; the MSI-X table is not among them
(R360). -/
def paramOffsets : List Nat :=
  [0x000C, 0x0014, 0x0018, 0x0088, 0x008C] ++
  ([0x1000, 0x1040, 0x1080].map fun b => (List.range 8).map fun i => b + 4 * i).flatten ++
  [0x10D8, 0x10DC, 0x1428, 0x1800, 0x2404, 0x3068, 0x3404, 0x3804]

/-- An entry of the MSI-X table (R359). -/
def msixOffset (o : Nat) : Option Nat := if 0xE000 ≤ o ∧ o ≤ 0xE3FF then some ((o - 0xE000) / 4) else none

end Sys2Proof.Machine
end

