-- ==== Sys2Proof/Machine/Flags.lean ====
section
/-! DEFINITION. The status registers that no family file forms: one word each, from the state (R22, R57, R229, R259, R270, R296,
R310, R318, R339, R354, R359, R361). -/

namespace Sys2Proof.Machine
open Sys2Proof

/-- GEN_ID. -/
def genId : W32 := 0x00B0D4A0

/-- GEN_BOOT. -/
def genBoot (s : State) : W32 :=
  let b := s.boot
  BitVec.ofNat 32 (b.step + 16 * bitOf b.history + 32 * bitOf b.learned + 64 * bitOf b.bootFail + 256 * bitOf b.image0 +
    512 * bitOf b.image1 + 1024 * b.fwUpdate + 4096 * b.system)

/-- GEN_CLK_STATUS (R22). -/
def genClkStatus (s : State) : W32 :=
  let c := s.clk
  BitVec.ofNat 32 (bitOf c.rootLock + 2 * bitOf c.refPresent + 4 * bitOf c.holdover + 8 * bitOf c.twinActive +
    16 * bitOf c.refLostSeen + 32 * bitOf c.rootUnlockSeen + 64 * bitOf c.railDipSeen + 128 * bitOf c.auxrefLostSeen +
    256 * c.hedgePllLock.toNat + 2 ^ 24 * bitOf c.pciePllLock + 2 ^ 25 * bitOf c.auxrefPresent)

/-- GEN_PLAN_STATUS. -/
def genPlanStatus (s : State) : W32 :=
  let has (f : Plan → Bool) : Nat := match s.plan.active with | some p => bitOf (f p) | none => 0
  BitVec.ofNat 32 (s.planState + 4 * has Plan.provisional + 8 * has Plan.interim + 16 * bitOf s.plan.refused +
    32 * (s.plan.reason % 256) + 2 ^ 13 * has (fun p => !p.shed.isEmpty) + 2 ^ 14 * bitOf s.plan.computing.isSome +
    2 ^ 16 * s.plan.mapGen.toNat)

/-- KCP_r_CFG. -/
def ringCfgWord (x : Ring) : W32 :=
  BitVec.ofNat 32 (x.cmdLog2 + 256 * x.rplLog2 + 2 ^ 16 * x.vector + 2 ^ 22 * bitOf x.window)

/-- KCP_r_STATUS. -/
def ringStatus (owed : Nat) (x : Ring) : W32 :=
  BitVec.ofNat 32 (bitOf (x.enable && !x.halted) + 2 * bitOf x.halted + 4 * x.haltCause + 16 * bitOf x.cfgIgnored +
    32 * bitOf x.stall + 64 * bitOf x.pendingCfg.isSome + 2 ^ 16 * min 65535 owed)

/-- A register of a ring's block. -/
def ringWord (r : RingId) (i : Nat) (s : State) : W32 :=
  let x := s.ring r
  let lo (a : W64) : W32 := BitVec.ofNat 32 a.toNat
  let hi (a : W64) : W32 := BitVec.ofNat 32 (a.toNat / 2 ^ 32)
  match i with
  | 0x00 => lo x.cmdBase | 0x04 => hi x.cmdBase | 0x08 => lo x.rplBase | 0x0C => hi x.rplBase
  | 0x10 => lo x.wb | 0x14 => hi x.wb | 0x18 => ringCfgWord x | 0x1C => BitVec.ofNat 32 (bitOf x.enable)
  | 0x20 => ringStatus (s.owedOn r) x | 0x24 => x.cons | _ => (s.series (ringPath r)).h

/-- TM_CUE_STATUS. -/
def cueStatus (s : State) : W32 := BitVec.ofNat 32 (s.cueFill + 1024 * bitOf s.cues.fullSeen)

/-- LN_STATUS. -/
def lnStatus (s : State) : W32 :=
  let l := s.lanes
  BitVec.ofNat 32 (bitOf l.lockLossSeen + 2 * bitOf l.lostSeen + 4 * bitOf l.degradedSeen + 8 * bitOf l.beamDropSeen +
    16 * bitOf l.noDestSeen + 256 * min s.upLanes.length 8)

/-- The five groups of lane words from LN_LOCK_0 on. -/
def laneGroup (g : Nat) (x : Lane) : Bool :=
  match g with | 0 => x.state == .lock | 1 => x.lost | 2 => x.txDoze | 3 => x.rxDoze | _ => x.txQuiet

/-- MC_EVENT. -/
def mcEvent (s : State) : W32 :=
  let m := s.mem
  BitVec.ofNat 32 (bitOf m.ueSeen + 2 * bitOf m.remapSeen + 4 * bitOf m.noSpareSeen + 8 * bitOf m.overtempSeen +
    16 * bitOf m.hotSeen + 32 * bitOf m.trainFail)

/-- MC_SCRUB_STATUS: the channel that is furthest behind gives the position. -/
def mcScrubStatus (s : State) : W32 :=
  BitVec.ofNat 32 ((s.mem.chan.map (·.scrubUnit)).foldl min (2 ^ 27 - 1) / 2 ^ 19 + 256 * s.mem.scrubPasses.toNat)

/-- TL_STATUS. -/
def tlStatus (s : State) : W32 :=
  BitVec.ofNat 32 (((List.range 8).map fun m => bitOf (s.tl.reels.any fun r => r.waiting.any (·.master = m)) * 2 ^ m).sum + 256 * bitOf s.tl.abortedSeen + 512 * bitOf s.tl.deniedSeen +
    1024 * bitOf s.tl.bridgeErrSeen)

/-- SUP_STATUS. -/
def supStatus (s : State) : W32 :=
  BitVec.ofNat 32 (coreCode s.sup.core0 + 8 * coreCode s.sup.core1 + 64 * s.leaseCore + 128 * bitOf s.leaseHeld +
    256 * bitOf s.sup.preferredRetired + 512 * bitOf s.sup.failoverSeen + 1024 * bitOf s.sup.noHolderSeen +
    2 ^ 16 * s.cells.stewardFault.toNat)

/-- The caller lease word that the device holds valid: HOLDER 0x3FF when none is (R318). -/
def State.callerLeaseValid (s : State) : W32 :=
  if s.boot.system = 0 || s.mesh.caller || !s.passed s.mesh.leaseAt 250000 then s.callerLease
  else callerWord 0x3FF (callerTerm s.callerLease)

/-- SUP_SYS_STATUS. -/
def supSysStatus (s : State) : W32 :=
  let m := s.mesh
  BitVec.ofNat 32 (bitOf m.caller + 2 * bitOf m.standbyCaller + 4 * bitOf m.lead + 8 * bitOf m.partitioned +
    16 * bitOf m.partitionSeen + 256 * m.voters.length + 2 ^ 16 * (s.half s.now s.window).length)

/-- GK_STATUS. -/
def gkStatus (s : State) : W32 :=
  BitVec.ofNat 32 (bitOf s.gk.stopped + 2 * s.gk.mode + 8 * bitOf s.gk.thermalTrip + 16 * bitOf s.frozen)

/-- GK_FREEZE_STATUS. -/
def gkFreezeStatus (s : State) : W32 :=
  BitVec.ofNat 32 (bitOf s.gk.dramFrozen + 2 * bitOf s.gk.mirrorFrozen + 2 ^ 16 * s.gk.freezeCause.toNat)

end Sys2Proof.Machine
end

