-- ==== Sys2Proof/Machine/Regs.lean ====
section
/-! DEFINITION. Register accesses: reads and writes of the BAR0 map, the bridges, RWC pairs, PARAM_GET, PARAM_SET and the SMBus
register window (R6, R242, R295, R359, R360, R363). -/

namespace Sys2Proof.Machine
open Sys2Proof

/-! ### Reads -/

/-- Low and high word of a 64-bit value. -/
def loWord (n : Nat) : W32 := BitVec.ofNat 32 n
def hiWord (n : Nat) : W32 := BitVec.ofNat 32 (n / 2 ^ 32)

/-- The latch of a path (R194). -/
def State.latch (s : State) : BusPath → TimeLatch
  | .bar0 => s.time.nowLatch | .smbus => s.time.nowLatchSmb

/-- The registers that are neither counters, clear registers, ring registers nor runs of equal words (R359). -/
def plainRegs (path : BusPath) : List (Nat × (State → W32)) :=
  [(0x0000, fun _ => genId), (0x0004, genBoot), (0x0008, genClkStatus), (0x000C, fun s => BitVec.ofNat 32 (bitOf s.clk.laneRefSel)),
   (0x0010, fun s => s.pcie.event.zeroExtend 32), (0x0014, fun s => s.pcie.eventEn.zeroExtend 32),
   (0x0018, fun s => s.pcie.aperture.zeroExtend 32)] ++
  [(0x0040, genPlanStatus), (0x0044, fun s => loWord s.planVersion), (0x0048, fun s => hiWord s.planVersion),
   (0x004C, fun s => s.plan.uncorrelated), (0x0060, loamStatus), (0x0080, fun s => loWord s.alm.rn.toNat),
   (0x0084, fun s => hiWord s.alm.rn.toNat), (0x0088, fun s => loWord s.rpl.cons.toNat),
   (0x008C, fun s => hiWord s.rpl.cons.toNat)] ++
  [(0x1400, tmStatus), (0x1404, fun s => loWord (nsOf s.time16).toNat), (0x1408, fun s => (s.latch path).mid),
   (0x140C, fun s => (s.latch path).frac), (0x1410, fun s => (s.latch path).frcLo), (0x1414, fun s => (s.latch path).frcHi),
   (0x1418, fun s => loWord s.time.syncFrc.toNat), (0x141C, fun s => hiWord s.time.syncFrc.toNat)] ++
  [(0x1420, fun s => s.time.rate), (0x1424, fun s => s.time.rateN), (0x1428, fun s => s.time.jumpThr),
   (0x142C, fun s => ~~~ s.time.jumpThr), (0x1430, cueStatus)] ++
  [(0x1800, fun s => s.ingest.cfg), (0x1804, seedbedStatus), (0x1880, State.hedgeRoles), (0x1884, lnStatus), (0x2000, rmwStatus),
   (0x2004, fun s => s.rmw.pace.zeroExtend 32), (0x2040, mcStatus), (0x2044, mcEvent), (0x2048, mcScrubStatus),
   (0x2400, tlStatus), (0x2404, fun s => s.tl.weight), (0x2800, xaStatus), (0x2804, fun s => s.xa.dwellCount)] ++
  [(0x2C00, beamStatus), (0x2E00, riddleStatus), (0x2E04, fun s => s.sieveWord 0 Sieve.settling),
   (0x2E08, fun s => s.sieveWord 32 Sieve.settling), (0x2E0C, fun s => s.sieveWord 0 (·.cfg.syncEn)),
   (0x2E10, fun s => s.sieveWord 32 (·.cfg.syncEn)), (0x3000, cfStatus), (0x3004, tdcStatus),
   (0x3008, fun s => BitVec.ofNat 32 s.cf.missed.length), (0x3068, fun s => s.cf.edgeCfg.zeroExtend 32)] ++
  [(0x3400, supStatus), (0x3404, fun s => s.sup.cfg.zeroExtend 32), (0x3408, fun s => s.sup.lease),
   (0x340C, fun s => s.sup.leaseN), (0x3410, supSysStatus), (0x3418, State.callerLeaseValid),
   (0x341C, fun s => ~~~ s.callerLeaseValid), (0x3600, stripeStatus)] ++
  [(0x3800, gkStatus), (0x3804, fun s => s.gk.freezeCfg.zeroExtend 32), (0x3808, gkFreezeStatus)]

/-- A bit word over 32 items. -/
def wordOf (f : Nat → Bool) : W32 := BitVec.ofNat 32 ((List.range 32).map fun i => bitOf (f i) * 2 ^ i).sum

/-- The MSI-X pending bit array (R359): vectors held pending. -/
def pbaWord (h : Nat) (s : State) : W32 := wordOf fun i => s.pcie.heldVectors.contains (32 * h + i)

/-- A register as it reads; none at an unmapped offset (R359). WO registers read zero. -/
def readReg (path : BusPath) (o : Nat) (s : State) : Option W32 :=
  match (plainRegs path).find? (·.1 = o) with
  | some (_, f) => some (f s)
  | none =>
    match Ctr.offsets.findIdx? (· = o) with
    | some i => some (s.ctr.words.getD i 0)
    | none =>
      if o = 0x50 || clearRegs.any (·.1 = o) then some 0
      else
        match ringOffset o, msixOffset o with
        | some (r, i), _ => some (ringWord r i s)
        | none, some i => some (s.pcie.msixTable.getD i 0)
        | none, none =>
          if 0x1890 ≤ o ∧ o < 0x18E0 then
            let g := (o - 0x1890) / 16
            let k := (o - 0x1890) / 4 % 4
            some (wordOf fun i => match s.lanes.lane[32 * k + i]? with | some x => laneGroup g x | none => false)
          else if 0x3010 ≤ o ∧ o < 0x3030 then some (regionStatus (s.region ((o - 0x3010) / 4)))
          else if o = 0xE800 ∨ o = 0xE804 then some (pbaWord ((o - 0xE800) / 4) s)
          else none

/-! ### Writes -/

/-- A ring configuration register while ENABLE is 0; a field outside its range keeps its value, and bits below an alignment are
dropped (KCP_r_CFG, R229). -/
def writeRingReg (r : RingId) (i : Nat) (v : W32) (s : State) : State :=
  let x := s.ring r
  let lo (a : W64) (mask : Nat) : W64 := BitVec.ofNat 64 (a.toNat / 2 ^ 32 * 2 ^ 32 + v.toNat / mask * mask)
  let hi (a : W64) : W64 := BitVec.ofNat 64 (v.toNat * 2 ^ 32 + a.toNat % 2 ^ 32)
  let put (y : Ring) : State :=
    if x.enable then s.setRing r { x with cfgIgnored := true } else s.setRing r y
  match i with
  | 0x00 => put { x with cmdBase := lo x.cmdBase 4096 }
  | 0x04 => put { x with cmdBase := hi x.cmdBase }
  | 0x08 => put { x with rplBase := lo x.rplBase 4096 }
  | 0x0C => put { x with rplBase := hi x.rplBase }
  | 0x10 => put { x with wb := lo x.wb 64 }
  | 0x14 => put { x with wb := hi x.wb }
  | 0x18 =>
    let n := v.toNat
    let vec := n / 2 ^ 16 % 64
    if r == .gkr then put { x with vector := vec }
    else
      let cl := n % 32
      let rl := n / 256 % 32
      let win := v.getLsbD 22
      let clOk := decide (13 ≤ cl) && decide (cl ≤ 20) && (!win || cl == 16)
      put { x with
        cmdLog2 := if clOk then cl else x.cmdLog2, rplLog2 := if 13 ≤ rl ∧ rl ≤ 20 then rl else x.rplLog2
        vector := vec, window := win }
  | 0x1C =>
    let s := if v.getLsbD 1 then writeSeqReset r s else s
    writeEnable r (v.getLsbD 0) s
  | 0x20 => if v.getLsbD 4 then s.setRing r { x with cfgIgnored := false } else s
  | _ => s

/-- The W1C registers: what a written word clears. -/
def clearSeen (o : Nat) (v : W32) (s : State) : Option State :=
  let c (i : Nat) (b : Bool) : Bool := b && !v.getLsbD i
  match o with
  | 0x0008 =>
    let k := s.clk
    some { s with clk := { k with refLostSeen := c 4 k.refLostSeen, rootUnlockSeen := c 5 k.rootUnlockSeen,
                                  railDipSeen := c 6 k.railDipSeen, auxrefLostSeen := c 7 k.auxrefLostSeen } }
  | 0x0010 => some (writeEventClear v s)
  | 0x0040 => some { s with plan := { s.plan with refused := c 4 s.plan.refused } }
  | 0x0060 => some { s with cells := { s.cells with loamNoSpareSeen := c 16 s.cells.loamNoSpareSeen } }
  | 0x1400 =>
    let t := s.time
    some { s with time := { t with jumpRefusedSeen := c 8 t.jumpRefusedSeen, steppedSeen := c 9 t.steppedSeen,
                                   syncEdgeSeen := c 10 t.syncEdgeSeen } }
  | 0x1430 => some { s with cues := { s.cues with fullSeen := c 10 s.cues.fullSeen } }
  | 0x1804 => some { s with ingest := { s.ingest with ingestBehind := c 10 s.ingest.ingestBehind } }
  | 0x1884 =>
    let l := s.lanes
    some { s with lanes := { l with lockLossSeen := c 0 l.lockLossSeen, lostSeen := c 1 l.lostSeen,
                                    degradedSeen := c 2 l.degradedSeen, beamDropSeen := c 3 l.beamDropSeen,
                                    noDestSeen := c 4 l.noDestSeen } }
  | 0x2000 => some { s with rmw := { s.rmw with commitLate := c 3 s.rmw.commitLate, sumLostSeen := c 4 s.rmw.sumLostSeen } }
  | 0x2044 =>
    let m := s.mem
    some { s with mem := { m with ueSeen := c 0 m.ueSeen, remapSeen := c 1 m.remapSeen, noSpareSeen := c 2 m.noSpareSeen,
                                  overtempSeen := c 3 m.overtempSeen, hotSeen := c 4 m.hotSeen } }
  | 0x2400 =>
    let t := s.tl
    some { s with tl := { t with abortedSeen := c 8 t.abortedSeen, deniedSeen := c 9 t.deniedSeen,
                                 bridgeErrSeen := c 10 t.bridgeErrSeen } }
  | 0x2E00 => some { s with riddle := { s.riddle with syncSeen := c 1 s.riddle.syncSeen } }
  | 0x3000 => some { s with cf := { s.cf with lostFrozenSeen := c 3 s.cf.lostFrozenSeen } }
  | 0x3400 => some { s with sup := { s.sup with failoverSeen := c 9 s.sup.failoverSeen, noHolderSeen := c 10 s.sup.noHolderSeen } }
  | 0x3410 => some { s with mesh := { s.mesh with partitionSeen := c 4 s.mesh.partitionSeen } }
  | 0x3800 =>
    let trip := c 3 s.gk.thermalTrip
    some { s with gk := { s.gk with thermalTrip := trip, thermtripN := s.gk.thermtripN || !trip } }
  | _ => none

/-- The RW registers outside the rings and the MSI-X table. -/
def writeRw (o : Nat) (v : W32) (s : State) : Option State :=
  match o with
  | 0x000C => some { s with clk := { s.clk with laneRefSel := v.getLsbD 0 } }
  | 0x0014 => some (writeEventEn v s)
  | 0x0018 => some (writeAperture v s)
  | 0x0088 => some { s with rpl := { s.rpl with cons := BitVec.ofNat 64 (s.rpl.consHi.toNat * 2 ^ 32 + v.toNat) } }
  | 0x008C => some { s with rpl := { s.rpl with consHi := v } }
  | 0x1800 => some { s with ingest := { s.ingest with cfg := v &&& 0x7FFFF } }
  | 0x2404 => some { s with tl := { s.tl with weight := v } }
  | 0x3068 => some (writeEdgeCfg v s)
  | 0x3404 => some (writeSupCfg v s)
  | 0x3804 => some { s with gk := { s.gk with freezeCfg := BitVec.ofNat 11 v.toNat &&& 0x7FC ||| 3 } }
  | _ => none

/-- The pending holder of a path (R6). -/
def State.holder (s : State) : BusPath → Option (BitVec 16 × W32)
  | .bar0 => s.rwc.bar0 | .smbus => s.rwc.smbus

/-- Replace the pending holder of a path. -/
def State.setHolder (s : State) (path : BusPath) (h : Option (BitVec 16 × W32)) : State :=
  match path with
  | .bar0 => { s with rwc := { s.rwc with bar0 := h } }
  | .smbus => { s with rwc := { s.rwc with smbus := h } }

/-- A value takes effect in an RWC register. -/
def setRwc (o : Nat) (v : W32) (s : State) : State :=
  if o = jumpOffset then { s with time := { s.time with jumpThr := v } } else s

/-- A write to +4 of an RWC register (R6): a match makes the pending value take effect, anything else is counted; the holder is
empty after it. -/
def writeComplement (path : BusPath) (o : Nat) (v : W32) (s : State) : State :=
  let s' := s.setHolder path none
  match s.holder path with
  | some (h, x) => if h.toNat = o ∧ v = ~~~ x then setRwc o x s' else s'.bump .genRwcMismatch
  | none => s'.bump .genRwcMismatch

/-- A write of a whole word to a mapped register (R359); RO registers ignore it. -/
def writeReg (path : BusPath) (o : Nat) (v : W32) (s : State) : State :=
  if o = jumpOffset then s.setHolder path (some (BitVec.ofNat 16 o, v))
  else if o = jumpOffset + 4 then writeComplement path jumpOffset v s
  else if o = 0x50 then clearUncorrelated v s
  else
    match clearRegs.find? (·.1 = o) with
    | some (_, lo, hi) => clearOn lo hi v s
    | none =>
      match clearSeen o v s with
      | some s => s
      | none =>
        match writeRw o v s with
        | some s => s
        | none =>
          match ringOffset o, msixOffset o with
          | some (r, i), _ => writeRingReg r i v s
          | none, some i => flushVectors { s with pcie := { s.pcie with msixTable := setAt i (fun _ => v) s.pcie.msixTable } }
          | none, none => s

/-! ### The two paths and the bridges (R295, R360) -/

/-- A bridge access that is refused (R295). -/
def bridgeErr (s : State) : State := { s with tl := { s.tl with bridgeErrSeen := true } }.bump .tlBridgeErr

/-- A write of a word by a path. -/
def busWrite (path : BusPath) (o : Nat) (v : W32) (full : Bool) (s : State) : State :=
  let make (s : State) : State := writeReg path o v s
  if aoOffset o then (if s.gkServes && full then make s else s)
  else overBus (fun s => if full && (readReg path o s).isSome then make s else bridgeErr s) s

/-- A read of TM_NOW_LO latches the path's copy (R194). -/
def latchNow (path : BusPath) (s : State) : State :=
  let ns := (nsOf s.time16).toNat
  let l : TimeLatch := { mid := hiWord ns, frac := BitVec.ofNat 32 (fracOf s.time16).toNat,
                         frcLo := loWord s.now, frcHi := hiWord s.now }
  match path with
  | .bar0 => { s with time := { s.time with nowLatch := l } }
  | .smbus => { s with time := { s.time with nowLatchSmb := l } }

/-- A read of a word by a path: what it returns, and the state after it. -/
def busRead (path : BusPath) (o : Nat) (s : State) : W32 × State :=
  match readReg path o s with
  | some v =>
    if aoOffset o then (v, if o = 0x1404 then latchNow path s else s)
    else if s.busUp then (v, s)
    else (0xFFFFFFFF, overBus id s)
  | none => if s.busUp then (0, bridgeErr s) else (0xFFFFFFFF, overBus id s)

/-- R295: a write to any other register under its access type. -/
def execRegisterWrite (path : BusPath) (offset : BitVec 16) (value : W32) (strobes : BitVec 4) (s : State) : Out :=
  .next (if offset.toNat % 4 ≠ 0 then s else busWrite path offset.toNat value (strobes == 15) s)

/-- R6: a write to +0 of an RWC register; at any other offset it is the write of that register. -/
def execRwcValueWrite (path : BusPath) (offset : BitVec 16) (value : W32) (s : State) : Out :=
  .next (if offset.toNat % 4 ≠ 0 then s else busWrite path offset.toNat value true s)

/-- R6: a write to +4 of an RWC register; at any other offset it is the write of that register. -/
def execRwcComplementWrite (path : BusPath) (offset : BitVec 16) (value : W32) (s : State) : Out :=
  .next (if offset.toNat % 4 ≠ 0 then s else busWrite path offset.toNat value true s)

/-- R348: GEN_RPL_CONS; HI takes effect with the LO write. -/
def execGenRplConsWrite (hi : Bool) (value : W32) (s : State) : Out :=
  .next (busWrite .bar0 (if hi then 0x8C else 0x88) value true s)

/-- R363: SMBus code 0x02 reads or writes the register at OFFSET, which advances by 4. -/
def execSmbusRegisterAccess (write : Option W32) (pecOk : Bool) (s : State) : Out :=
  let o := s.smb.offset
  .next (if !s.gkServes then s
    else match write with
      | some v =>
        if !pecOk then smbPecFail s
        else
          let s := busWrite .smbus o.toNat v true s
          { s with smb := { s.smb with offset := o + 4 } }
      | none =>
        let (v, s) := busRead .smbus o.toNat s
        { s with smb := { s.smb with offset := o + 4, lastRead := le4 v.toNat } })

/-! ### PARAM_GET and PARAM_SET (R242) -/

/-- A firmware parameter: its ranges (0 for ROTATION_PERIOD stops rotation). -/
def firmwareRange (id : Nat) : Option (Nat × Nat) :=
  match id with
  | 0x8001 => some (1, 3600) | 0x8002 => some (0, 8760) | 0x8003 => some (1, 168) | 0x8004 => some (0, 4)
  | 0x8005 => some (1, 600) | _ => none

/-- The value of a firmware parameter. -/
def firmwareGet (id : Nat) (s : State) : Nat :=
  match id with
  | 0x8001 => s.sup.revertHold | 0x8002 => s.sup.rotationPeriod | 0x8003 => s.sup.scrubPeriod
  | 0x8004 => s.sup.refreshPostpone | _ => s.sup.selftestPeriod

/-- Set a firmware parameter. -/
def firmwareSet (id v : Nat) (s : State) : State :=
  match id with
  | 0x8001 => { s with sup := { s.sup with revertHold := v } }
  | 0x8002 => { s with sup := { s.sup with rotationPeriod := v } }
  | 0x8003 => { s with sup := { s.sup with scrubPeriod := v } }
  | 0x8004 => { s with sup := { s.sup with refreshPostpone := v } }
  | 0x8005 => { s with sup := { s.sup with selftestPeriod := v } }
  | _ => s

/-- An ID names a parameter. -/
def paramKnown (id : Nat) : Bool := (firmwareRange id).isSome || (decide (id < 0x4000) && paramOffsets.contains (4 * id))

/-- The value of a parameter. -/
def paramValue (id : Nat) (s : State) : W32 :=
  if id ≥ 0x8000 then BitVec.ofNat 32 (firmwareGet id s) else (readReg .bar0 (4 * id) s).getD 0

/-- PARAM_SET of one entry: an RWC register takes value and complement in one step (R242). -/
def paramWrite (id : Nat) (v : W32) (s : State) : State :=
  if id ≥ 0x8000 then firmwareSet id v.toNat s
  else if 4 * id = jumpOffset then setRwc jumpOffset v s
  else writeReg .bar0 (4 * id) v s

/-- Entries of `n` bytes, with their packet offsets. -/
def paramEntries (n : Nat) (p : List Byte) : List (Nat × List Byte) :=
  (List.range (p.length / n)).map fun i => (32 + n * i, slice (n * i) n p)

/-- PARAM_GET. -/
def opParamGet : OpDef :=
  { code := 0x0101
    form := fun p => decide (p.length % 4 = 0 ∧ p.length ≤ 4 * 1016)
    res0 := fun p => firstRes0 ((List.range (p.length / 4)).map fun i => (4 * i + 2, 2)) p
    run := fun c s =>
      let es := paramEntries 4 c.par
      match es.find? fun (_, e) => !paramKnown (fieldAt 0 2 e) with
      | some (o, _) => (s, ansField o)
      | none => (s, ansOk (es.map fun (_, e) => le4 (paramValue (fieldAt 0 2 e) s).toNat).flatten) }

/-- R242. -/
def execParamGet (k : KcpIn) (s : State) : Out := .next (kcpCommand opParamGet k s)

/-- What refuses an entry of PARAM_SET: FIELD names its ID, or the VALUE that is out of range. -/
def paramFault (o : Nat) (e : List Byte) : Option Answer :=
  let id := fieldAt 0 2 e
  let v := fieldAt 4 4 e
  if !paramKnown id then some (ansField o)
  else if slice 8 4 e ≠ compl (slice 4 4 e) then some (ansRefuse .badComplement)
  else match firmwareRange id with
    | some (lo, hi) => if lo ≤ v ∧ v ≤ hi then none else some (ansField (o + 4))
    | none => none

/-- The first refusal among the entries of PARAM_SET. -/
def paramRefusal (par : List Byte) : Option Answer := (paramEntries 12 par).findSome? fun (o, e) => paramFault o e

/-- All entries apply, in their order. -/
def paramApply (par : List Byte) (s : State) : State :=
  (paramEntries 12 par).foldl (fun (s : State) (x : Nat × List Byte) =>
    paramWrite (fieldAt 0 2 x.2) (BitVec.ofNat 32 (fieldAt 4 4 x.2)) s) s

/-- PARAM_SET, also as a TIME cue. -/
def opParamSet : OpDef :=
  { code := 0x0102, cue := some .time
    form := fun p => decide (p.length % 12 = 0 ∧ p.length ≤ 12 * 338)
    res0 := fun p => firstRes0 ((List.range (p.length / 12)).map fun i => (12 * i + 2, 2)) p
    run := fun c s => match paramRefusal c.par with | some a => (s, a) | none => (paramApply c.par s, ansOk)
    accept := fun c _ s => match paramRefusal c.par with | some a => (s, a) | none => (s, ansOk)
    atPoint := fun c s => paramApply c.par s }

/-- R242. -/
def execParamSet (k : KcpIn) (s : State) : Out := .next (kcpCommand opParamSet k s)

end Sys2Proof.Machine
end

