-- ==== Sys2Proof/Machine/Almanac.lean ====
section
/-! DEFINITION. The almanac: the writer's queue and drain, ALMANAC_READ, freezes and thaws, checkpoints (R330 to R341, R354). -/

namespace Sys2Proof.Machine
open Sys2Proof

/-! ### The drain (R330, R333) -/

/-- Two spans of addresses overlap. -/
def spansMeet (a n b m : Nat) : Bool := decide (a < b + m ∧ b < a + n)

/-- The oldest record of the queue is written to the ring; records it overwrites are gone. -/
def drainOne (s : State) : State :=
  match s.alm.queue with
  | [] => s
  | r :: rest =>
    let left := s.almLeft s.alm.dpos
    let pos := if left < r.size then s.almNext s.alm.dpos left else s.alm.dpos
    let s := dramStore pos r.bytes (memAccess 6 pos r.size s)
    let slot : AlmSlot := { rn := r.rn, addr := pos, len := r.size, type := r.type }
    { s with alm := { s.alm with
        queue := rest, dpos := s.almNext pos r.size
        ring := (s.alm.ring.filter fun x => !spansMeet x.addr x.len pos r.size) ++ [slot] } }

/-- Drain what the writer has had time for, 2 bytes per TCLK (1 GB/s, R333). Recurses on fuel. -/
def drainFor : Nat → State → State
  | 0, s => s
  | fuel + 1, s =>
    match s.alm.queue with
    | [] => { s with alm := { s.alm with drainAt := s.now } }
    | r :: _ =>
      let t := s.alm.drainAt + r.size / 2
      if t ≤ s.now then
        let s := drainOne s
        drainFor fuel { s with alm := { s.alm with drainAt := t } }
      else s

/-- The drain as far as the FRC has come. -/
def drainQueue (s : State) : State := if s.dramUp then drainFor (s.alm.queue.length + 1) s else s

/-- The whole queue goes to the ring (log 40). -/
def flushQueue (s : State) : State :=
  if s.dramUp then (List.range s.alm.queue.length).foldl (fun (s : State) _ => drainOne s) s else s

/-! ### Checkpoints (R337, R338; layout log 14) -/

/-- A swap (R120). -/
def beamSwapBytes (x : Swap) : List Byte :=
  le2 x.beam ++ le8 x.s0 ++ le4 x.k ++ le 1 (bitOf x.bank + 2 * bitOf x.epoch + 4 * bitOf x.deferred + 8 * bitOf x.started)

/-- A sieve's configuration and last reset sample. -/
def sieveBytes (x : Sieve) : List Byte :=
  le 1 (bitOf x.cfg.enable + 2 * bitOf x.cfg.fromSieve + 4 * bitOf x.cfg.coarseFill + 8 * bitOf x.cfg.syncEn +
    16 * bitOf x.known + 32 * bitOf x.bank) ++
  le2 x.cfg.source ++ le2 x.cfg.chan ++ le2 x.cfg.decim ++ leInt 8 x.cfg.ftw ++ le8 x.cfg.phase0 ++ le8 x.resetAt

/-- The parameters of TIME_SOURCE. -/
def sourceBytes (t : Time) : List Byte :=
  counted (t.sources.map (le 1)) ++ counted (t.ptpLanes.map (le 1)) ++ le 1 t.domain ++ counted (t.asymmetry.map (leInt 10)) ++
  le4 t.servoTau ++ le4 t.lockThr ++ le4 t.holdLimit ++ le 1 (bitOf t.segAlign)

/-- An era of integrations. -/
def eraBytes (e : Era) : List Byte :=
  le4 (e.start.getD (2 ^ 32 - 1)) ++ le4 e.cfg.len ++ le 1 e.cfg.width ++ le 1 e.cfg.shiftAuto ++ le 1 e.cfg.shiftCross

/-- What a plan's recomputation needs of the version before it: shape, slices, tiles, routes and shed channels (R347). -/
def planBasis (p : Plan) (s : State) : List Byte :=
  le 1 (shapeCode p.shape) ++ le 1 p.slice ++ le 1 p.slices ++ le 1 (bitOf s.plan.derated + 2 * bitOf (s.boot.system = 2)) ++
  le2 s.mesh.index.toNat ++
  counted (p.sliceChans.map fun cs => counted (cs.map le2)) ++ counted (p.tiles.map tilePair) ++
  counted (p.routes.map routePair) ++ counted (p.shed.map le2)

/-- The state block of BEGIN at sweep `k`. -/
def checkpointBlock (k : Nat) (p : Plan) (s : State) : List Byte :=
  let h := match s.healthNewest with | some h => healthBytes h | none => []
  let t := s.time
  let beams := (List.range 256).filterMap fun b => if s.beams.next.desc.any (·.1 = b) then some (b, s.beams.next.beam b) else none
  le4 k ++ le4 0 ++ requestBytes p.req ++ planBasis p s ++ le4 h.length ++ h ++ le8 p.version.toNat ++
  le8 (match s.plan.pendingPlan with | some q => q.version.toNat | none => 0) ++
  withCompl (fit 16 (le 13 t.offset.toNat)) ++ withCompl (le4 t.rate.toNat) ++ le8 t.frc.toNat ++ le 1 (bitOf t.epochSet) ++ time10 t.epochTime ++
  le4 t.pDen ++ le8 t.pNum ++ sourceBytes t ++ counted (s.cues.entries.map CueEntry.bytes) ++
  counted (s.rmw.eras.map eraBytes) ++ counted (beams.map fun (b, d) => le2 b ++ d.bytes) ++
  counted (s.beams.next.freqs.map fun (c, f) => le2 c ++ leInt 8 f) ++ counted (s.beams.swaps.map beamSwapBytes) ++
  (s.riddle.sieves.map sieveBytes).flatten ++ s.cells.spareMap ++ s.cells.spareMapN ++ le2 s.plan.mapGen.toNat ++
  (paramOffsets.map fun o => le4 ((readReg .bar0 o s).getD 0).toNat).flatten ++ (s.pcie.msixTable.map fun w => le4 w.toNat).flatten ++
  ([Path.urg, .gkr, .mesh].map fun q => le 1 (bitOf (s.series q).started) ++ le4 (s.series q).h.toNat).flatten ++ identResult s

/-- A bank of a sieve's coefficients. -/
def bankBytes (b : SieveBank) : List Byte :=
  le2 b.len ++ leInt 4 b.coarseGain ++ le 1 b.oshift ++ zeros 1 ++ ((List.range 256).map fun i => leInt 4 (b.taps.getD i 0)).flatten

/-- The tables that follow BEGIN: delays, direct weights, gains, coefficients. -/
def checkpointTables (p : Plan) (s : State) : List Byte :=
  let t := s.beams.next
  let n := p.inputs
  (([false, true].map fun e => (List.range 256).map fun b => (List.range 4096).map fun i =>
    let (c0, c1, c2) := t.delay e b i
    leInt 4 c0 ++ leInt 4 c1 ++ leInt 4 c2).flatten.flatten.flatten) ++
  (([false, true].map fun e => (List.range 256).map fun b => (List.range 4096).map fun i =>
    let (re, im) := t.directWeight e b i
    leInt 1 re ++ leInt 1 im).flatten.flatten.flatten) ++
  (((List.range p.layout.length).map fun c => (List.range n).map fun i =>
    s.dramRead (p.gainAddr false c i) 4 ++ s.dramRead (p.gainAddr true c i) 4).flatten.flatten) ++
  (s.riddle.sieves.map fun x => bankBytes x.bankA ++ bankBytes x.bankB).flatten

/-- A record of TYPE CHECKPOINT as Tamzar writes it. -/
def checkpointRecord (flags : BitVec 8) (body : List Byte) (s : State) : AlmRec :=
  { rn := 0, frc := s.time.frc, type := 0x60, src := BitVec.ofNat 8 s.srcTamzar, flags := flags, body := body }

/-- The bodies of a checkpoint: the block and the tables in pieces of the 8,191 units that LEN holds (R331, R337). -/
def checkpointBodies (k : Nat) (p : Plan) (s : State) : List (BitVec 8 × List Byte) :=
  let all := padTo 8 (checkpointBlock k p s) ++ checkpointTables p s
  match chunksOf (all.length + 1) 65528 all with
  | [] => []
  | b :: bs => (0, b) :: bs.map fun b => (2, padTo 8 b)

/-- Records of the checkpoint enter the queue while there is room; END follows the last of them, with the first sweep of which no
dwell has begun weight computation (R337, R338). Recurses on fuel. -/
def feedCheckpoint : Nat → State → State
  | 0, s => s
  | fuel + 1, s =>
    match s.alm.ckptLeft, s.alm.ckptCrc with
    | (f, b) :: rest, _ =>
      let r := checkpointRecord f b s
      if s.queueRoom r then
        let s := acceptRecord r s
        feedCheckpoint fuel { s with alm := { s.alm with ckptLeft := rest } }
      else s
    | [], some c =>
      let r := checkpointRecord 0 (le8 c.toNat ++ le8 (s.beams.weightEnd / max 1 s.planT)) s
      if s.queueRoom r then
        let s := acceptRecord r s
        { s with alm := { s.alm with ckptCrc := none } }.bump .genAlmCheckpoints
      else s
    | [], none => s

/-- A checkpoint is being written. -/
def State.ckptBusy (s : State) : Bool := !s.alm.ckptLeft.isEmpty || s.alm.ckptCrc.isSome

/-- Continue the checkpoint that is being written; a wait that follows progress is counted (R333). -/
def continueCheckpoint (s : State) : State :=
  if s.ckptBusy && s.alm.waiting.isEmpty then
    let s' := feedCheckpoint (s.alm.ckptLeft.length + 1) s
    if s'.ckptBusy && s'.alm.rn ≠ s.alm.rn then s'.bump .genAlmQueueFull else s'
  else s

/-- The dwell that has just started is the first of its sweep (R337). -/
def State.sweepStart (s : State) : Option (Plan × Nat) :=
  match s.plan.active, s.xa.computing with
  | some p, some d => if d.ver = p.version && d.chan = p.order.headD 0 then some (p, d.sweep) else none
  | _, _ => none

/-- A checkpoint is due: the first one at once, then after 30 s or 256 MiB of records (R337). -/
def State.ckptDue (s : State) : Bool :=
  s.alm.ckptSweep.isNone || s.passed s.alm.ckptAt (30 * 10 ^ 9) || decide (2 ^ 28 ≤ s.alm.ckptBytes)

/-- R337: a checkpoint begins at the first boundary of a sweep. -/
def execCheckpointBegin (s : State) : Out :=
  .next (if !s.tamzarServes || s.ckptBusy || !s.ckptDue then s
    else match s.sweepStart with
      | none => s
      | some (p, k) =>
        if s.alm.ckptSweep = some k then s
        else
          let bodies := checkpointBodies k p s
          let crc := crc64 (bodies.map (·.2)).flatten
          continueCheckpoint { s with alm := { s.alm with
            ckptSweep := some k, ckptAt := s.now, ckptBytes := 0, ckptLeft := bodies, ckptCrc := some (BitVec.ofNat 64 crc) } })

/-! ### Waiting records (R333) -/

/-- The oldest waiting record enters the queue when there is room. -/
def acceptWaiting (s : State) : State :=
  match s.alm.waiting with
  | [] => s
  | r :: rest =>
    if almBytes s.alm.queue + r.size ≤ 2 ^ 20 then acceptRecord r { s with alm := { s.alm with waiting := rest } } else s

/-- Bytes that the drain must write before `need` bytes are free: whole records. -/
def drainPrefix (need : Nat) : List AlmRec → Nat
  | [] => 0
  | r :: rs => if need = 0 then 0 else r.size + drainPrefix (need - r.size) rs

/-- R333: room comes as the queue drains; the oldest waiting record, or the next one of a checkpoint, enters the queue. -/
def execAlmanacRecord (s : State) : Out :=
  let wants := match s.alm.waiting, s.alm.ckptLeft with
    | r :: _, _ => r.size
    | [], (_, b) :: _ => 56 + b.length
    | [], [] => if s.alm.ckptCrc.isSome then 72 else 0
  .next (if s.clk.held || wants = 0 then s
    else
      let need := almBytes s.alm.queue + wants - 2 ^ 20
      let s := if s.dramUp then s.advanceTo (s.alm.drainAt + (drainPrefix need s.alm.queue + 1) / 2) else s
      let s := drainQueue s
      if s.alm.waiting.isEmpty then continueCheckpoint s else continueCheckpoint (acceptWaiting s))

/-! ### ALMANAC_READ (R341) -/

/-- A record that the device holds: whether it is a PAD, and its bytes. DRAM is read first, then the mirror, then the queue. -/
def State.heldRecord (s : State) (rn : Nat) : Option (Bool × List Byte) :=
  match s.alm.ring.find? (·.rn.toNat = rn) with
  | some x => some (x.type == 0xFF, s.dramRead x.addr x.len)
  | none =>
    match (s.alm.mirror ++ s.alm.queue).find? (·.rn.toNat = rn) with
    | some r => some (r.type == 0xFF, r.bytes)
    | none => none

/-- Records from a number on: at most `count`, at most `len` bytes, without PAD records, up to the first that is not held.
Recurses on fuel. -/
def State.readFrom (s : State) : Nat → Nat → Nat → Nat → List Byte
  | 0, _, _, _ => []
  | fuel + 1, rn, count, len =>
    if count = 0 then []
    else match s.heldRecord rn with
      | none => []
      | some (true, _) => s.readFrom fuel (rn + 1) count len
      | some (false, bs) =>
        if bs.length ≤ len then bs ++ s.readFrom fuel (rn + 1) (count - 1) (len - bs.length) else []

/-- ALMANAC_READ: Bulk only, never relayed, answers ACCEPTED with the length that is written. -/
def opAlmanacRead : OpDef :=
  { code := 0x0A01, bo := true, never := true, form := formLen 32, res0 := firstRes0 [(12, 4)]
    run := needTrained fun c s =>
      let first := fieldAt 0 8 c.par
      if (s.heldRecord first).isNone then (s, ansField 32)
      else
        let fuel := s.alm.ring.length + s.alm.mirror.length + s.alm.queue.length
        let data := s.readFrom fuel first (fieldAt 8 4 c.par) (fieldAt 24 8 c.par)
        (startTransfer { seq := c.k.seq, kind := .almanac, addr := BitVec.ofNat 64 (fieldAt 16 8 c.par), data := data,
                         len := data.length } s,
         ansAccepted (le8 data.length)) }

/-- R341. -/
def execAlmanacRead (k : KcpIn) (s : State) : Out := .next (kcpCommand opAlmanacRead k s)

/-! ### Freezes (R339, R340) -/

/-- The span in force: the DRAM span when one is frozen, else the mirror's. -/
def State.spanInForce (s : State) : List Byte :=
  let x := match s.alm.dramSpan with | some x => x | none => s.alm.frozenSpan.getD (0, 0)
  le8 x.1.toNat ++ le8 x.2.toNat

/-- A command's packet as its opcode sees it. -/
def freezeCtx (k : KcpIn) : Ctx := { path := k.path, code := 0x0A02, k := k, par := [] }

/-- Every ALMANAC_FREEZE that waits is answered with the span in force. -/
def answerFreezes (s : State) : State :=
  let ks := s.alm.freezeReplies
  let s := { s with alm := { s.alm with freezeReplies := [] }, kcp := { s.kcp with executing := false } }
  ks.foldl (fun (s : State) (x : KcpIn × Bool) =>
    commitReply (freezeCtx x.1) (ansOk s.spanInForce) (2 * bitOf x.2) (oweLess x.1.path s)) s

/-- ALMANAC_FREEZE: its reply waits until the writer has acknowledged, or 1 ms has passed. -/
def almanacFreezeRun (c : Ctx) (s : State) : State × Answer :=
  let s := freezeStart 0xFFFF s
  if s.alm.freezeAsked && !s.passed s.alm.freezeAt 1000000 then
    let s := match pathRing c.path with
      | some r => s.setRing r { s.ring r with owed := (s.ring r).owed + 1 }
      | none => s
    ({ s with alm := { s.alm with freezeReplies := s.alm.freezeReplies ++ [(c.k, false)] }, kcp := { s.kcp with executing := true } },
     { owed := true })
  else (s, ansOk s.spanInForce)

/-- ALMANAC_FREEZE: also on the groundskeeper's paths. -/
def opAlmanacFreeze : OpDef := { code := 0x0A02, g := true, form := formLen 0, run := needTrained almanacFreezeRun }

/-- R339. -/
def execAlmanacFreeze (k : KcpIn) (s : State) : Out := .next (kcpCommand opAlmanacFreeze k s)

/-- R339: no acknowledgement within 1 ms; the mirror's span is returned. -/
def execFreezeAckTimeout (s : State) : Out :=
  .next (if s.alm.freezeAsked && !s.alm.freezeReplies.isEmpty then answerFreezes (s.waitFor s.alm.freezeAt 1000000) else s)

/-- The newest whole records of the ring that end at its newest and reach back at most 768 MiB. -/
def State.newestSpan (s : State) : List AlmSlot :=
  s.alm.ring.filter fun x => decide (s.alm.dpos ≠ x.addr ∧ (s.alm.dpos + almSize - x.addr) % almSize ≤ 768 * 2 ^ 20)

/-- CAUSE of a freeze in force: 0xFFFF when a command waits for it, else the lowest cause seen. -/
def State.freezeReason (s : State) : Nat :=
  if !s.alm.freezeReplies.isEmpty then 0xFFFF
  else ((List.range 11).find? s.gk.freezeCause.getLsbD).getD 0xFFFF

/-- A FREEZE record (R333). -/
def journalFreeze (kind where_ cause src : Nat) (span : List Byte) (s : State) : State :=
  record 0x70 src (le 1 kind ++ le 1 where_ ++ le2 cause ++ zeros 4 ++ span) s

/-- R339: the writer acknowledges: the newest 768 MiB freeze, and it goes on in the other 256 MiB. -/
def execFreezeAcknowledge (s : State) : Out :=
  .next (if !s.alm.freezeAsked || !s.dramUp then s
    else
      let s := flushQueue s
      let span := s.newestSpan
      let first := match span.head? with | some x => x.rn | none => s.alm.rn
      let last := match span.getLast? with | some x => x.rn | none => s.alm.rn
      let cause := s.freezeReason
      let s := { s with
        gk := { s.gk with dramFrozen := true }
        alm := { s.alm with freezeAsked := false, dramSpan := some (first, last), ownRing := some s.alm.dpos, wpos := s.alm.dpos } }
      answerFreezes (journalFreeze 0 1 cause s.srcTamzar s.spanInForce s))

/-- ALMANAC_THAW: both parts are released and the writer returns to the whole ring (R340). -/
def almanacThawRun (_ : Ctx) (s : State) : State × Answer :=
  if !s.frozen then (s, ansOk)
  else
    let s := answerFreezes s
    let s := flushQueue s
    let span := s.spanInForce
    let where_ := bitOf s.gk.dramFrozen + 2 * bitOf s.gk.mirrorFrozen
    let s := { s with
      gk := { s.gk with dramFrozen := false, mirrorFrozen := false, freezeCause := 0 }
      alm := { s.alm with freezeAsked := false, dramSpan := none, frozenSpan := none, ownRing := none } }
    (journalFreeze 1 where_ 0xFFFF s.srcTamzar span s, ansOk)

/-- ALMANAC_THAW. -/
def opAlmanacThaw : OpDef := { code := 0x0A03, form := formLen 0, run := needTrained almanacThawRun }

/-- R340. -/
def execAlmanacThaw (k : KcpIn) (s : State) : Out := .next (kcpCommand opAlmanacThaw k s)

/-- R354: GEN_ALM_CNT_CLR. -/
def execGenAlmCntClr (value : W32) (s : State) : Out := .next (overBus (clearOn 0x94 0xA4 value) s)

end Sys2Proof.Machine
end

