-- ==== Sys2Proof/Machine/Replay.lean ====
section
/-! DEFINITION. Replay (R332, R338, R347 to R353): the journal image, the recorded plan and tables, input, one dwell, the result
ring, the progress record. -/

namespace Sys2Proof.Machine
open Sys2Proof

/-! ### The DRAM of a replay (R348) -/

def imageBase : Nat := 2 ^ 30
def inputBase : Nat := 2 * 2 ^ 30
def inputSize : Nat := 30 * 2 ^ 30
def resultBase : Nat := 32 * 2 ^ 30
def resultSize : Nat := 16 * 2 ^ 30
def replayBase : Nat := 48 * 2 ^ 30
def replaySize : Nat := 79 * 2 ^ 30

/-! ### The journal image (R331, R332) -/

/-- A record's header at an address: none at a header of zeros, else whether its complement matches. -/
def State.headerAt (s : State) (a : Nat) : Option Bool :=
  let h := s.dramRead a 48
  if h.all (· == 0) then none else some (h.drop 24 == compl (h.take 24))

/-- The records of the image from an address, and how many are bad: a header whose complement fails is passed over to the next
8-byte boundary where one matches. Recurses on fuel. -/
def State.imageFrom (s : State) : Nat → Nat → Bool → List AlmRec × Nat
  | 0, _, _ => ([], 0)
  | fuel + 1, a, lost =>
    if a + 56 > imageBase + 2 ^ 30 then ([], 0)
    else match s.headerAt a with
      | none => ([], 0)
      | some false =>
        let (rs, n) := s.imageFrom fuel (a + 8) true
        (rs, n + bitOf (!lost))
      | some true =>
        let h := s.dramRead a 24
        let len := 8 * fieldAt 18 2 h
        let (rs, n) := s.imageFrom fuel (a + 56 + len) false
        let all := s.dramRead a (48 + len)
        if crc32c all = s.dramNum (a + 48 + len) 4 then
          let r : AlmRec := { rn := BitVec.ofNat 64 (fieldAt 0 8 h), frc := BitVec.ofNat 64 (fieldAt 8 8 h),
                              type := BitVec.ofNat 16 (fieldAt 16 2 h), src := BitVec.ofNat 8 (fieldAt 20 1 h),
                              flags := BitVec.ofNat 8 (fieldAt 21 1 h), body := all.drop 48 }
          (r :: rs, n)
        else (rs, n + 1)

/-- The image: its good records and the number of bad ones. -/
def State.image_ (s : State) : List AlmRec × Nat := s.imageFrom (2 ^ 27) imageBase false

/-- A checkpoint found in the image: RN of BEGIN, the bodies, the CRC-64 and k_c of END (R337, R338). -/
structure Ckpt where
  begin_ : Nat
  bodies : List Byte
  crc : Nat
  kc : Nat
  deriving DecidableEq, Repr

/-- The complete checkpoints, in order; `open_` is the one whose END has not come. -/
def checkpoints : List AlmRec → Option Ckpt → List Ckpt
  | [], _ => []
  | r :: rs, open_ =>
    if r.type ≠ 0x60 then checkpoints rs open_
    else if r.flags.getLsbD 1 then checkpoints rs (open_.map fun c => { c with bodies := c.bodies ++ r.body })
    else match open_, decide (r.body.length ≤ 16) with
      | some c, true => { c with crc := fieldAt 0 8 r.body, kc := fieldAt 8 8 r.body } :: checkpoints rs none
      | _, _ => checkpoints rs (some { begin_ := r.rn.toNat, bodies := r.body, crc := 0, kc := 0 })

/-! ### Reading a checkpoint (layout log 14) -/

/-- The health record of log 13. -/
def rdHealth (bs : List Byte) : Health :=
  let h : Health := { serial := BitVec.ofNat 32 (fieldAt 0 4 bs), learned := fieldAt 8 4 bs = 1, seconds := fieldAt 12 4 bs,
                      spareMap := slice 16 80 bs, spareMapN := slice 96 80 bs }
  let (retired, bs) := rdList (rdNum 2) (bs.drop 176)
  let (rows, bs) := rdList (fun bs => ((fieldAt 0 2 bs, decide (fieldAt 2 1 bs = 1), fieldAt 3 1 bs), bs.drop 4)) bs
  let (loam, bs) := rdList (rdPaired fun bs => ((fieldAt 0 1 bs, fieldAt 1 1 bs), bs.drop 2)) bs
  let (dram, bs) := rdList (rdPaired fun bs => ((fieldAt 0 4 bs, fieldAt 4 4 bs), bs.drop 8)) bs
  let (lost, bs) := rdNum 2 bs
  let (phases, bs) := rdNum 2 bs
  let (lanes, bs) := rdList (rdNum 1) bs
  let (margin, bs) := rdList (rdNum 1) bs
  let (has, bs) := rdNum 1 bs
  let (req, bs) := if has = 1 then (let (r, bs) := rdRequest bs; (some r, bs)) else (none, bs)
  { h with
    retired := retired, rowsSpared := rows, loamRemap := pairedOnly loam, dramRemap := pairedOnly dram
    lostStripes := BitVec.ofNat 10 lost, phases := BitVec.ofNat 10 phases, lostLanes := lanes, margin := margin, request := req
    planSerial := BitVec.ofNat 32 (fieldAt 0 4 bs) }

/-- What a recorded plan is recomputed from (R347). -/
structure PlanBasis where
  req : Request := {}
  health : Health := {}
  version : W64 := 0
  shape : Shape := .triangle
  slice : Nat := 0
  slices : Nat := 1
  derated : Bool := false
  inSystem : Bool := false
  device : Nat := 0
  chans : List (List Nat) := []
  tiles : List Tile := []
  routes : List Route := []
  shed : List Nat := []
  deriving DecidableEq, Repr

/-- The state block as replay uses it. -/
structure Block where
  sweep : Nat := 0
  basis : PlanBasis := {}
  epoch : Option (Int × Nat × Nat) := none
  eras : List Era := []
  descs : List (Nat × BeamDesc) := []
  freqs : List (Nat × Int) := []
  swaps : List Swap := []
  sieves : List Sieve := []
  deriving DecidableEq, Repr

/-- A beam descriptor from its 256 bytes. -/
def rdDesc (bs : List Byte) : BeamDesc :=
  let g (o n : Nat) : Nat := fieldAt o n bs
  { mode := (match g 0 1 with | 0 => .off | 1 => .poly | _ => .direct), wide := g 1 1 = 1, bshift := g 2 1, egress := g 3 1 = 1
    minValid := g 4 2, bank := g 6 1 = 1, epoch := g 7 1 = 1, tref0 := BitVec.ofNat 64 (g 8 8), tref1 := BitVec.ofNat 64 (g 16 8)
    chans := slice 24 232 bs }

/-- A swap. -/
def rdSwap (bs : List Byte) : Swap :=
  let f := BitVec.ofNat 8 (fieldAt 14 1 bs)
  { beam := fieldAt 0 2 bs, s0 := fieldAt 2 8 bs, k := fieldAt 10 4 bs, bank := f.getLsbD 0, epoch := f.getLsbD 1
    deferred := f.getLsbD 2, started := f.getLsbD 3 }

/-- A sieve's configuration and last reset sample. -/
def rdSieve (bs : List Byte) : Sieve :=
  let f := BitVec.ofNat 8 (fieldAt 0 1 bs)
  { cfg := { enable := f.getLsbD 0, fromSieve := f.getLsbD 1, coarseFill := f.getLsbD 2, syncEn := f.getLsbD 3
             source := fieldAt 1 2 bs, chan := fieldAt 3 2 bs, decim := fieldAt 5 2 bs, ftw := intAt 7 8 bs, phase0 := fieldAt 15 8 bs }
    known := f.getLsbD 4, bank := f.getLsbD 5, resetAt := fieldAt 23 8 bs }

/-- Bytes of a sieve in the block. -/
def sieveSize : Nat := 31

/-- The state block, and its length rounded up to 8. -/
def rdBlock (all : List Byte) : Block × Nat :=
  let bs := all
  let k := fieldAt 0 4 bs
  let (req, bs) := rdRequest (bs.drop 8)
  let f := BitVec.ofNat 8 (fieldAt 3 1 bs)
  let b : PlanBasis := { req := req, shape := shapeOf (fieldAt 0 1 bs), slice := fieldAt 1 1 bs, slices := fieldAt 2 1 bs,
                         derated := f.getLsbD 0, inSystem := f.getLsbD 1, device := fieldAt 4 2 bs }
  let (chans, bs) := rdList (rdList (rdNum 2)) (bs.drop 6)
  let (tiles, bs) := rdList (rdPaired rdTile) bs
  let (routes, bs) := rdList (rdPaired rdRoute) bs
  let (shed, bs) := rdList (rdNum 2) bs
  let (hl, bs) := rdNum 4 bs
  let h := rdHealth (bs.take hl)
  let (ver, bs) := rdNum 8 (bs.drop hl)
  -- pending version, OFFSET, RATE, FRC
  let bs := bs.drop 56
  let (set, bs) := rdNum 1 bs
  let epoch := (timeAt 0 bs, fieldAt 14 8 bs, fieldAt 10 4 bs)
  let (_, bs) := rdList (rdNum 1) (bs.drop 22)
  let (_, bs) := rdList (rdNum 1) bs
  let (_, bs) := rdList (rdNum 10) (bs.drop 1)
  let (_, bs) := rdList (rdNum 32) (bs.drop 13)
  let (eras, bs) := rdList (fun bs =>
    let e : Era := { start := if fieldAt 0 4 bs = 2 ^ 32 - 1 then none else some (fieldAt 0 4 bs),
                     cfg := { len := fieldAt 4 4 bs, width := fieldAt 8 1 bs, shiftAuto := fieldAt 9 1 bs, shiftCross := fieldAt 10 1 bs } }
    (e, bs.drop 11)) bs
  let (descs, bs) := rdList (fun bs => ((fieldAt 0 2 bs, rdDesc (slice 2 256 bs)), bs.drop 258)) bs
  let (freqs, bs) := rdList (fun bs => ((fieldAt 0 2 bs, intAt 2 8 bs), bs.drop 10)) bs
  let (swaps, bs) := rdList (fun bs => (rdSwap (slice 0 15 bs), bs.drop 15)) bs
  let sieves := (List.range 64).map fun i => rdSieve (slice (sieveSize * i) sieveSize bs)
  let rest := sieveSize * 64 + 160 + 2 + 4 * paramOffsets.length + 1024 + 15 + 152
  let used := all.length - bs.length + rest
  ({ sweep := k
     basis := { b with health := h, version := BitVec.ofNat 64 ver, chans := chans, tiles := pairedOnly tiles,
                              routes := pairedOnly routes, shed := shed }
     epoch := if set = 1 then some epoch else none, eras := eras, descs := descs, freqs := freqs, swaps := swaps, sieves := sieves },
   (used + 7) / 8 * 8)

/-- A bank of coefficients. -/
def rdBank (bs : List Byte) : SieveBank :=
  { len := fieldAt 0 2 bs, coarseGain := intAt 2 4 bs, oshift := fieldAt 6 1 bs
    taps := (List.range 256).map fun i => intAt (8 + 4 * i) 4 bs }

/-- The beam tables and the coefficient banks that follow the block; zero entries are not listed. -/
def rdTables (b : Block) (C inputs : Nat) (bs : List Byte) :
    BeamTables × List GainEntry × List (SieveBank × SieveBank) :=
  let delays := ((List.range (2 * 256 * 4096)).map fun i =>
    let o := 12 * i
    { epoch := decide (2 ^ 20 ≤ i), beam := i / 4096 % 256, input := i % 4096, c0 := intAt o 4 bs, c1 := intAt (o + 4) 4 bs,
      c2 := intAt (o + 8) 4 bs : DelayEntry }).filter fun e => e.c0 ≠ 0 || e.c1 ≠ 0 || e.c2 ≠ 0
  let bs := bs.drop (24 * 2 ^ 20)
  let direct := ((List.range (2 * 256 * 4096)).map fun i =>
    { bank := decide (2 ^ 20 ≤ i), beam := i / 4096 % 256, input := i % 4096, re := intAt (2 * i) 1 bs,
      im := intAt (2 * i + 1) 1 bs : DirectEntry }).filter fun e => e.re ≠ 0 || e.im ≠ 0
  let bs := bs.drop (4 * 2 ^ 20)
  let gains := (((List.range (C * inputs)).map fun i => [false, true].map fun k =>
    let o := 8 * i + 4 * bitOf k
    { bank := k, chan := i / inputs, input := i % inputs, re := intAt o 2 bs, im := intAt (o + 2) 2 bs : GainEntry }).flatten).filter
      fun e => e.re ≠ 0 || e.im ≠ 0
  let bs := bs.drop (8 * C * inputs)
  let banks := (List.range 64).map fun i => (rdBank (bs.drop (2064 * i)), rdBank (bs.drop (2064 * i + 1032)))
  ({ desc := b.descs, freqs := b.freqs, delays := delays, direct := direct }, gains, banks)

/-! ### The recorded plan (R347) -/

/-- The device as the health record describes it. -/
def healthState (b : PlanBasis) (sieves : List Sieve) (s : State) : State :=
  let h := b.health
  let cells := { s.cells with
    spareMap := h.spareMap, spareMapN := h.spareMapN, retired := h.retired, stripeLost := h.lostStripes, powered := BitVec.ofNat 10 0x3FF, stripeTest := [] }
  let lanes := s.lanes.lane.zipIdx.map fun (x, l) => { x with lost := h.lostLanes.contains l }
  { s with
    cells := cells, xa := { s.xa with faulted := [] }, lanes := { s.lanes with lane := lanes }
    riddle := { s.riddle with sieves := sieves }, plan := { s.plan with derated := b.derated } }

/-- The PLAN record of a version holds another digest (R333, R347). -/
def digestDiffers (rs : List AlmRec) (p : Plan) : Bool :=
  rs.any fun r => r.type = 0x10 && fieldAt 0 8 r.body = p.version.toNat && fieldAt 8 8 r.body ≠ p.digest.toNat

/-- A plan recomputed; none when a check fails or its digest differs (R347). -/
def recomputePlan (rs : List AlmRec) (b : PlanBasis) (sieves : List Sieve) (s : State) : Option Plan :=
  let x : PlanIn :=
    { req := { b.req with start := none }, version := b.version, device := b.device, shape := b.shape, slices := b.slices,
      slice := b.slice, tiles := b.tiles, sliceChans := b.chans, kept := b.routes.filter (·.device = b.device), keptShed := b.shed,
      mayShed := !b.shed.isEmpty, mesh := b.inSystem }
  let (q, reason) := computePlan x (healthState b sieves s)
  let q := { q with routes := q.routes ++ b.routes.filter fun (x : Route) => x.device ≠ b.device }
  let q := { q with digest := digestOf q b.device }
  if reason ≠ 0 || digestDiffers rs q then none else some q

/-- The replay state of a plan lies from 0x0C_0000_0000 on, and its records leave on one lane (R348). -/
def replayPlan (p : Plan) : Plan :=
  { p with
    roles := 2
    regions := (p.regions.filter fun r => 1 ≤ r.kind && r.kind ≤ 4).map fun r => { r with base := r.base - 2 ^ 30 + replayBase } }

/-- Bytes of replay state that a request needs: backing store, sums, counts and heap (R85, R147, R348). -/
def replayNeed (b : PlanBasis) : Nat :=
  let C := b.req.channels.length
  let P := pairsOf b.shape b.req.blocks.length
  2 ^ 28 + C * P * ((if b.req.long then 16384 else 8192) + 4) + C * heapOf b.req.heapMib C P (32 * b.req.blocks.length)

/-! ### Recorded commands (R338) -/

/-- Commands whose effect replay applies: integrations, beams, riddle, and the epoch mapping. -/
def replayCodes : List Nat := [0x0301, 0x0302, 0x0303, 0x0401, 0x0402, 0x0403, 0x0404, 0x0405, 0x0411, 0x0412, 0x0413, 0x0414, 0x0605]

/-- The packet that a RECEIVE record holds, with its buffer from the CONT records that follow. -/
def rdReceive (r : AlmRec) (rest : List AlmRec) : BitVec 16 × KcpIn :=
  let cont := (rest.filter (·.type = 1)).takeWhile (·.flags.getLsbD 1)
  let path : Path := match fieldAt 1 1 r.body with | 0 => .urg | 1 => .nrm | 2 => .blk | 3 => .gkr | 4 => .smbus | _ => .mesh
  kParse path (cont.map (·.body)).flatten (r.body.drop 8)

/-- The reply in the COMMIT record of a series and number: status and result (R221, R333). -/
def commitOf (series seq : Nat) (rs : List AlmRec) : Option (Nat × List Byte) :=
  (rs.find? fun r => r.type = 2 && fieldAt 0 1 r.body = series && fieldAt 4 4 r.body = seq).map fun r =>
    let rep := r.body.drop 8
    (fieldAt 2 2 rep, slice 32 (fieldAt 16 2 rep) rep)

/-- The sweep after that of the last DIGEST before a record: where a command without a sample in its reply acts. -/
def orderSweep (before : List AlmRec) : Nat :=
  match (before.filter (·.type = 0x20)).getLast? with | some r => fieldAt 4 4 r.body + 1 | none => 0

/-- The sample from which a command acts: its point, the sample that its reply states, or the order of the journal. -/
def actsAt (code : Nat) (execAt : Bool) (result : List Byte) (before : List AlmRec) (T : Nat) : Nat :=
  let order := orderSweep before * T
  if code = 0x0405 then fieldAt (if execAt then 12 else 0) 8 result
  else if execAt then fieldAt 0 8 result
  else if code = 0x0401 || code = 0x0402 || code = 0x0403 || code = 0x0404 || code = 0x0413 || code = 0x0414 then fieldAt 0 8 result
  else if (code = 0x0411 || code = 0x0301) && 8 ≤ result.length && fieldAt 0 8 result ≠ 2 ^ 64 - 1 then
    (if code = 0x0411 then fieldAt 0 8 result else order)
  else order

/-- Numbers of cues that did not run (CUE_RUN outcomes 2 to 4) or were cancelled. -/
def deadCues (rs : List AlmRec) : List Nat :=
  rs.filterMap fun r =>
    if r.type = 3 && 2 ≤ fieldAt 7 1 r.body then some (fieldAt 0 4 r.body)
    else if r.type = 1 && !r.flags.getLsbD 1 then
      let k := rdReceive r []
      let ok := match commitOf (fieldAt 0 1 r.body) k.2.seq.toNat rs with | some (st, _) => decide (st < 0x8000) | none => false
      if ok && (k.1.toNat = 0x0606 || k.1.toNat = 0x0611) then some (fieldAt 0 4 k.2.params) else none
    else none

/-- The recorded commands after BEGIN, in their order, with the sample from which each acts. -/
def recordedCmds (rs : List AlmRec) (begin_ T : Nat) : List AlmRec → List AlmRec → List (Nat × BitVec 16 × KcpIn)
  | _, [] => []
  | before, r :: rest =>
    let more := recordedCmds rs begin_ T (before ++ [r]) rest
    if r.type ≠ 1 || r.flags.getLsbD 1 || r.rn.toNat ≤ begin_ then more
    else
      let (code, k) := rdReceive r rest
      match replayCodes.contains code.toNat, commitOf (fieldAt 0 1 r.body) k.seq.toNat rest with
      | true, some (st, result) =>
        if 0x8000 ≤ st || (kExecAt k && (deadCues rs).contains k.seq.toNat) then more
        else (actsAt code.toNat (kExecAt k) result before T, code, k) :: more
      | _, _ => more

/-! ### The machine that replays -/

/-- The part of the machine that a replay uses, as a machine of its own: the recorded plan, the replay's tables and sums, one
egress lane that takes every class, and the device's DRAM. -/
def replayState (p : Plan) (s : State) : State :=
  let r := s.rpl
  let on : Dest := { enable := true }
  let z := State.reset
  let lane0 : Lane := { state := .lock, destHarvest := on, destBeam := on, destCapture := on }
  let time := match r.epoch with
    | some (t, n, d) => { z.time with epochSet := true, epochTime := t, pNum := n, pDen := d }
    | none => z.time
  { z with
    clk := { z.clk with held := false }, boot := { z.boot with step := 6 }, plan := { z.plan with active := some p }
    time := time, rmw := r.rmw, beams := r.beams, riddle := r.riddle, mem := { z.mem with dram := s.mem.dram, poison := s.mem.poison }
    mesh := { z.mesh with index := s.mesh.index }, lanes := { z.lanes with lane := setAt 0 (fun _ => lane0) z.lanes.lane }
    freeCount := s.freeCount }

/-- The next state of a meaning. -/
def runTo (o : Out) (s : State) : State := match o with | .next t => t | _ => s

/-- Records of the BEAM and HARVEST queues move to the list of records formed. -/
def takeQueues (x : State × List (List Byte)) : State × List (List Byte) :=
  let (m, out) := x
  ({ m with lanes := { m.lanes with qBeam := [], qHarvest := [] } }, out ++ (m.lanes.qBeam ++ m.lanes.qHarvest).map (·.data))

/-- The context of a recorded packet. -/
def cmdCtx (code : BitVec 16) (k : KcpIn) : Ctx :=
  let buf := decide (k.path = .blk)
  { path := k.path, code := code, k := k, par := if buf then fit (fieldAt 8 4 (kBody k)) k.dma else kBody k, buffered := buf }

/-- A recorded command acts. -/
def applyCmd (p : Plan) (at_ : Nat) (code : BitVec 16) (k : KcpIn) (m : State) : State :=
  let c := cmdCtx code k
  let r := (at_ + p.req.T - 1) / p.req.T
  match code.toNat with
  | 0x0301 => applyInteg (integParams c.par) r m
  | 0x0302 => startInteg r m
  | 0x0303 => stopInteg r m
  | 0x0401 => (beamCfgRun p c m).1
  | 0x0402 => (gainWriteRun p c m).1
  | 0x0403 => (delayWriteRun p c m).1
  | 0x0404 => (directWriteRun p c m).1
  | 0x0405 =>
    let b := fieldAt 0 2 c.par
    let t := fieldAt 2 1 c.par
    let x : Swap := { beam := b, s0 := at_, k := fieldAt 4 4 c.par, bank := t % 2 = 1, epoch := t / 2 = 1 }
    if (x.bank, x.epoch) = m.endSet b then m else { m with beams := { m.beams with swaps := m.beams.swaps ++ [x] } }
  | 0x0411 => (riddleCfgAt p c at_ m).1
  | 0x0412 => (coefWriteRun p c m).1
  | 0x0413 => m.onSieve (fieldAt 0 1 c.par) fun x => { x with swaps := x.swaps ++ [{ at_ := at_, bank := fieldAt 1 1 c.par = 1 }] }
  | 0x0414 => (riddleSyncAt c at_ m).1
  | 0x0605 => { m with time := { m.time with
      epochSet := true, epochTime := timeAt 0 c.par, pDen := fieldAt 12 4 c.par, pNum := fieldAt 16 8 c.par } }
  | _ => m

/-- A command acts in a dwell: its sample lies in it or before it; tables and integrations act at sweep starts only. -/
def cmdDue (p : Plan) (d : Dwell) (x : Nat × BitVec 16 × KcpIn) : Bool :=
  let first := d.sweep * p.req.T
  let c := x.2.1.toNat
  if c = 0x0405 || c = 0x0411 || c = 0x0413 || c = 0x0414 then decide (x.1 < first + p.req.T) else decide (x.1 ≤ first)

/-! ### One dwell (R351) -/

/-- Form the beams and sieves of a dwell, group by group. -/
def replayForm (p : Plan) (d : Dwell) (m : State) : State × List (List Byte) :=
  let m := { m with beams := { m.beams with idle := {}, weightEnd := 0 } }
  let m := startForming p d 0 m
  let x := (List.range (p.req.T / 1024)).foldl (fun (x : State × List (List Byte)) _ =>
    let m := formGroup p d x.1
    let m := (List.range 64).foldl (fun (m : State) i =>
      (List.range (m.sieve i).ready.length).foldl (fun (m : State) _ => runTo (execSieveOutput (Fin.ofNat 64 i) m) m) m) m
    takeQueues (m, x.2)) (m, [])
  takeQueues (endForming p d x.1, x.2)

/-- A pass, chunk after chunk, until its dwell has committed. Recurses on fuel. -/
def replayPass : Nat → State × List (List Byte) → State × List (List Byte)
  | 0, x => x
  | fuel + 1, (m, out) =>
    match m.rmw.pass with
    | none => (m, out)
    | some ps =>
      match ps.flight with
      | k :: _ =>
        let x := takeQueues (runTo (execChunkReadDone k.pos [] m) m, out)
        replayPass fuel (takeQueues (runTo (execChunkCommit k.pos x.1) x.1, x.2))
      | [] => replayPass fuel (takeQueues (runTo (execDwellCommit m) m, out))

/-- Correlate a dwell: its staging half, and the pass that adds it. -/
def replayCorrelate (p : Plan) (d : Dwell) (pkts : List SlotPkt) (m : State) : Option Staged × State × List (List Byte) :=
  let m := fixStart d.sweep m
  let x := stageDwell p d pkts 0 (m.counted d)
  let m := { m with xa := { m.xa with staging := [x] } }
  let m := drainCells p d (fun _ => true) (m.setDrainBank (arraySums p pkts []))
  let m := m.onStaged d fun x => { x with drained := true }
  let staged := m.staged d
  let (m, out) := takeQueues (runTo (execRmwPassStart m) m, [])
  let (m, out) := if m.rmw.pass.isSome then replayPass (2 * p.P + 4) (m, out) else (m, out)
  (staged, { m with xa := { m.xa with staging := [] } }, out)

/-- Flush passes over every channel, for the integrations that the window holds whole. -/
def replayFlush (p : Plan) (stop : Nat) (m : State) : State × List (List Byte) :=
  let m := { m with rmw := { m.rmw with running := false, stopAt := some stop, flushLeft := List.range p.C, flushPlan := some p, flush := {} } }
  (List.range (p.C * (p.P + 2))).foldl (fun (x : State × List (List Byte)) _ =>
    if x.1.rmw.flushLeft.isEmpty then x else takeQueues (runTo (execFlushPass [] x.1) x.1, x.2)) (m, [])

/-- A harvest record that the replay gives out: of an integration wholly within the window, of block pairs in B × B (R347,
R349). Other records pass. -/
def replayKeeps (p : Plan) (eras : List Era) (first last : Nat) (blocks : List Nat) (r : List Byte) : Bool :=
  let t := fieldAt 0 1 r
  if t < 0x31 || t > 0x35 then true
  else
    let k := fieldAt 20 6 r / p.req.T
    let whole := decide (first ≤ k) && decide (nextInteg eras k ≤ last + 1)
    let mine (b : Nat) : Bool := match p.blocks.findIdx? (· = b) with | some i => blocks.contains i | none => false
    whole && (!(t = 0x31 || t = 0x33) || (mine (fieldAt 34 2 r) && mine (fieldAt 36 2 r)))

/-! ### The result ring (R348) -/

/-- Write bytes into the result ring at its producer offset. -/
def resultWrite (bs : List Byte) (s : State) : State :=
  let o := s.rpl.resultProd.toNat % resultSize
  let s := memAccess 5 (resultBase + o) (min bs.length (resultSize - o)) s
  let s := dramStore (resultBase + o) (bs.take (resultSize - o)) s
  let s := if bs.length ≤ resultSize - o then s else dramStore resultBase (bs.drop (resultSize - o)) s
  { s with rpl := { s.rpl with resultProd := s.rpl.resultProd + BitVec.ofNat 64 bs.length } }

/-- Records formed go into the ring in order, each after its length, while none would pass GEN_RPL_CONS. Recurses on the list. -/
def resultFill : List (List Byte) → State → State
  | [], s => { s with rpl := { s.rpl with outbox := [] } }
  | r :: rs, s =>
    if (s.rpl.resultProd - s.rpl.cons).toNat + 4 + r.length ≤ resultSize then resultFill rs (resultWrite (le4 r.length ++ r) s)
    else { s with rpl := { s.rpl with outbox := r :: rs } }

/-! ### Input (R349) -/

/-- The records of the input area from an address: data records of block RAW. Recurses on fuel. -/
def State.rawFrom (s : State) : Nat → Nat → List (List Byte)
  | 0, _ => []
  | fuel + 1, a =>
    if a ≥ inputBase + inputSize then []
    else match s.dramNum a 1 with
      | 0x52 => s.rawFrom fuel (a + 128)
      | 0x53 => s.rawFrom fuel (a + 64)
      | 0x51 =>
        let n := 64 + s.dramNum (a + 22) 2 * 32 * (if (s.dramNum (a + 2) 1).testBit 2 then 2 else 1)
        s.dramRead a n :: s.rawFrom fuel (a + n)
      | _ => []

/-- The packets of a dwell from RAW records: a packet whose every sample some record covers; its mask is that of the record. -/
def rawPackets (p : Plan) (d : Dwell) (rs : List (List Byte)) : List SlotPkt :=
  let w := p.req.wide
  let per := if w then 128 else 256
  let size := if w then 64 else 32
  let first := d.sweep * p.req.T
  let mine := rs.filter fun r => fieldAt 6 2 r = p.sysChan d.chan && fieldAt 12 1 r % 16 = 0
  ((List.range p.blocks.length).map fun b =>
    let rb := mine.filter fun r => fieldAt 13 1 r = b
    (List.range (p.req.T / per)).filterMap fun h =>
      let cover (t : Nat) : Option (List Byte) := rb.find? fun r => decide (fieldAt 16 6 r ≤ t ∧ t < fieldAt 16 6 r + fieldAt 22 2 r)
      let ts := (List.range per).map fun t => first + per * h + t
      if ts.all fun t => (cover t).isSome then
        let data := (ts.map fun t => match cover t with
          | some r => slice (64 + size * (t - fieldAt 16 6 r)) size r
          | none => []).flatten
        let sub := per * h / 256
        let mask := match cover (first + per * h) with
          | some r => fieldAt (32 + 4 * (sub - (fieldAt 16 6 r - first) / 256)) 4 r
          | none => 0
        let k : SlotPkt := { block := b, sub := sub, half := if w then h % 2 else 0, mask := BitVec.ofNat 32 mask, data := data }
        some k
      else none).flatten

/-- The packets of a dwell from units. -/
def unitPackets (p : Plan) (d : Dwell) (us : List ReplayUnit) : List SlotPkt :=
  us.filterMap fun u =>
    match p.blocks.findIdx? (· = u.block) with
    | some b =>
      if u.chan = p.sysChan d.chan && u.epoch.toNat = d.sweep % 2 ^ 32 then
        let k : SlotPkt := { block := b, sub := u.sub, half := if u.second then 1 else 0, mask := u.mask, data := u.data }
        some k
      else none
    | none => none

/-- Packets that a whole block of a dwell has. -/
def Plan.blockPackets (p : Plan) : Nat := if p.req.wide then 2 * p.U else p.U

/-- The blocks of which every packet has come. -/
def wholeBlocks (p : Plan) (pkts : List SlotPkt) : List Nat :=
  (List.range p.blocks.length).filter fun b => decide (p.blockPackets ≤ (pkts.filter (·.block = b)).length)

/-- The blocks of which some packet has come. -/
def someBlocks (p : Plan) (pkts : List SlotPkt) : List Nat := (List.range p.blocks.length).filter fun b => pkts.any (·.block = b)

/-- A unit of 8,208 bytes. -/
def unitOfBytes (bs : List Byte) : ReplayUnit :=
  let f := BitVec.ofNat 16 (fieldAt 10 2 bs)
  { chan := fieldAt 0 2 bs, block := fieldAt 2 2 bs, epoch := BitVec.ofNat 32 (fieldAt 4 4 bs), sub := fieldAt 8 2 bs
    wide := f.getLsbD 0, second := f.getLsbD 1, mask := BitVec.ofNat 32 (fieldAt 12 4 bs), data := slice 16 8192 bs }

/-! ### The course of a replay -/

/-- A replay runs. -/
def State.replaying (s : State) : Bool := decide (1 ≤ s.rpl.state ∧ s.rpl.state ≤ 4)

/-- STATE changes. -/
def setReplay (st reason : Nat) (s : State) : State := { s with rpl := { s.rpl with state := st, reason := reason } }

/-- The replay ends: done, stopped or failed (R350). -/
def endReplay (st reason : Nat) (s : State) : State := raiseEvent 2 (setReplay st reason s)

/-- The newest checkpoint for a window, with its block. -/
def windowCkpt (rs : List AlmRec) (first : Nat) : Option (Ckpt × Block × Nat) :=
  (((checkpoints rs none).map fun c => (c, rdBlock c.bodies)).filter fun x => decide (x.1.kc * x.2.1.basis.req.T ≤ first)).getLast?

/-- The gains of a replay's backing store are zero before the checkpoint's are written. -/
def clearGains (p : Plan) (s : State) : State :=
  [false, true].foldl (fun (s : State) k =>
    (List.range p.C).foldl (fun (s : State) c => dramStore (p.gainAddr k c 0) (zeros (4 * p.inputs)) s) s) s

/-- Load: the checkpoint's CRC, the plan, the tables, the recorded commands (R338, R347). -/
def loadReplay (s : State) : State :=
  let (rs, bad) := s.image_
  let s := { s with rpl := { s.rpl with badRecords := BitVec.ofNat 32 bad } }
  match windowCkpt rs s.rpl.nextSample with
  | none => endReplay 7 2 s
  | some (c, b, used) =>
    if crc64 c.bodies ≠ c.crc then endReplay 7 2 s
    else
      match recomputePlan rs b.basis b.sieves s with
      | none => endReplay 7 1 s
      | some p =>
        let p := replayPlan p
        let T := p.req.T
        let first := s.rpl.nextSample / T
        let (tab, gains, banks) := rdTables b p.C p.inputs (c.bodies.drop used)
        let s := gains.foldl (fun (s : State) g => dramStore (p.gainAddr g.bank g.chan g.input) (leInt 2 g.re ++ leInt 2 g.im) s)
          (clearGains p s)
        let sieves := (b.sieves.zip banks).map fun (x, y) =>
          { x with bankA := y.1, bankB := y.2, n := (first * T - x.resetAt) }
        let rmw : Rmw := { running := !b.eras.isEmpty, eras := b.eras, desc := List.replicate p.C { start := some first } }
        { s with rpl := { s.rpl with
            state := 2, plan := some p, ckptSweep := c.kc, epoch := b.epoch, firstSweep := first, sweep := first, chanPos := 0
            nextSample := first * T, beams := { tab := tab, next := tab, swaps := b.swaps }, riddle := { sieves := sieves }, rmw := rmw
            cmds := recordedCmds rs c.begin_ T [] rs } }

/-- The request of a recorded version: that of its PLAN_SUBMIT, over the request before it (R138, R347). -/
def recordedRequest (rs : List AlmRec) (v : Nat) (before : Request) : Request :=
  let hit := rs.findSome? fun (r : AlmRec) =>
    if r.type = 1 && !r.flags.getLsbD 1 then
      let rest := rs.dropWhile fun (x : AlmRec) => x.rn.toNat ≤ r.rn.toNat
      let (code, k) := rdReceive r rest
      if code = 0x0201 then
        match commitOf (fieldAt 0 1 r.body) k.seq.toNat rest with
        | some (st, result) =>
          if st < 0x8000 && fieldAt (if kExecAt k then 12 else 0) 8 result = v then some (cmdCtx code k) else none
        | none => none
      else none
    else none
  match hit with
  | none => before
  | some c =>
    match parseItems c.par.length 32 c.par with
    | (none, _) => before
    | (some items, _) => match planItems items { before with start := none, dryRun := false } with
      | .inl r => r.withWidth
      | .inr _ => before

/-- A recorded plan takes over: recomputed from its request, the HEALTH record before it and the version it replaces (R347). -/
def switchReplay (rs : List AlmRec) (v : Nat) (p : Plan) (s : State) : Option Plan :=
  let rec_ := rs.find? fun r => r.type = 0x10 && fieldAt 0 8 r.body = v
  let upTo := match rec_ with | some r => rs.takeWhile fun (x : AlmRec) => x.rn.toNat < r.rn.toNat | none => rs
  match (upTo.filter (·.type = 0x11)).getLast? with
  | none => none
  | some h =>
    let b : PlanBasis :=
      { req := recordedRequest rs v p.req, health := rdHealth h.body, version := BitVec.ofNat 64 v, shape := p.shape, slice := p.slice,
        slices := p.slices, derated := decide (p.cfBudget < p.req.captureRate), inSystem := !p.tiles.isEmpty,
        device := s.mesh.index.toNat, chans := p.sliceChans, tiles := p.tiles, routes := p.routes, shed := p.shed }
    (recomputePlan rs b s.rpl.riddle.sieves s).map replayPlan

/-- The version that a dwell runs under: a PLAN record that switches at its first sample, or one whose SERIAL its DIGEST names. -/
def versionAt (rs : List AlmRec) (p : Plan) (d : Dwell) : Nat :=
  let first := d.sweep * p.req.T
  let tag := (rs.find? fun r => r.type = 0x20 && fieldAt 0 2 r.body = p.sysChan d.chan && fieldAt 4 4 r.body = d.sweep % 2 ^ 32).map
    fun r => fieldAt 8 4 r.body
  match rs.find? fun r => r.type = 0x10 && fieldAt 16 1 r.body = 1 && fieldAt 20 8 r.body = first && first ≠ 0 with
  | some r => if d.chan = p.order.headD 0 then fieldAt 0 8 r.body else p.version.toNat
  | none =>
    match tag with
    | some t =>
      if t = p.serial then p.version.toNat
      else match rs.find? fun r => r.type = 0x10 && fieldAt 16 1 r.body = 1 && fieldAt 0 4 r.body = t with
        | some r => fieldAt 0 8 r.body
        | none => p.version.toNat
    | none => p.version.toNat

/-- The dwell after one: the next channel, or the first of the next sweep. -/
def advanceReplay (p : Plan) (s : State) : State :=
  let pos := s.rpl.chanPos + 1
  let s := if pos < p.order.length then { s with rpl := { s.rpl with chanPos := pos } }
    else { s with rpl := { s.rpl with chanPos := 0, sweep := s.rpl.sweep + 1 } }
  { s with rpl := { s.rpl with nextSample := s.rpl.sweep * p.req.T } }

/-- A mismatch: its entry, its record and its count (R351, R352). -/
def replayMismatch (kind block : Nat) (p : Plan) (d : Dwell) (rn : Nat) (s : State) : State :=
  let e := le2 (p.sysChan d.chan) ++ le 1 kind ++ le 1 block ++ le4 d.sweep ++ le8 rn
  let s := record 0x80 2 e (s.bump .genRplMismatch)
  { s with rpl := { s.rpl with
      mismatches := s.rpl.mismatches + 1, first16 := if s.rpl.first16.length < 16 then s.rpl.first16 ++ [e] else s.rpl.first16 } }

/-- What a sub-run changes comes back: tables, sums, DRAM, free values; its records join those formed. -/
def takeBack (x : State × List (List Byte)) (s : State) : State :=
  let (m, out) := x
  let epoch := if m.time.epochSet then some (m.time.epochTime, m.time.pNum, m.time.pDen) else none
  let s := s.bumpBy .mcMergeWrite (m.count .mcMergeWrite).toNat
  { s with
    rpl := { s.rpl with rmw := m.rmw, beams := m.beams, riddle := m.riddle, epoch := epoch, outbox := s.rpl.outbox ++ out }
    mem := { s.mem with dram := m.mem.dram, poison := m.mem.poison }, freeCount := m.freeCount }

/-- The end of the window, or of a plan: the harvests of the integrations that end there. -/
def flushReplay (p : Plan) (stop : Nat) (s : State) : State :=
  let (m, out) := replayFlush p stop (replayState p s)
  takeBack (m, out.filter (replayKeeps p s.rpl.rmw.eras s.rpl.firstSweep (stop - 1) s.rpl.blocks)) s

/-- Compute a dwell whose packets are present, and compare it (R351). -/
def computeReplay (rs : List AlmRec) (p : Plan) (d : Dwell) (pkts : List SlotPkt) (dig : AlmRec) (uncorr : Bool) (s : State) : State :=
  let blocks := s.rpl.blocks
  let all := decide (blocks.length = p.blocks.length)
  let s := blocks.foldl (fun (s : State) b =>
    if blockDigest p.req.wide pkts p.U b = fieldAt (16 + 8 * b) 8 dig.body then s else replayMismatch 1 b p d dig.rn.toNat s) s
  let due := s.rpl.cmds.filter (cmdDue p d)
  let s := { s with rpl := { s.rpl with cmds := s.rpl.cmds.filter fun x => !cmdDue p d x } }
  let m := replayState p s
  let m := due.foldl (fun (m : State) x => applyCmd p x.1 x.2.1 x.2.2 m) m
  let m := m.setSlot 0 { state := .computing, dwell := some d, pkts := pkts }
  let (m, out) := if all then replayForm p d m else (m, [])
  let (staged, m, harvest) := if uncorr then (none, m, []) else replayCorrelate p d pkts m
  let last := s.rpl.lastSample / p.req.T
  let s := takeBack (m, out ++ harvest.filter (replayKeeps p m.rmw.eras s.rpl.firstSweep last blocks)) s
  let com := rs.find? fun r => r.type = 0x21 && fieldAt 0 2 r.body = p.sysChan d.chan && fieldAt 4 4 r.body = d.sweep % 2 ^ 32
  let s := match com, staged with
    | none, _ => if uncorr then s else replayMismatch 3 0xFF p d dig.rn.toNat s
    | some r, some x => if all && x.digest ≠ fieldAt 24 8 r.body then replayMismatch 2 0xFF p d r.rn.toNat s else s
    | some _, none => s
  { s with rpl := { s.rpl with dwellsDone := s.rpl.dwellsDone + 1 } }

/-- The next dwell of the window under the recorded plan. -/
def replayNext (rs : List AlmRec) (p : Plan) (s : State) : State :=
  let last := s.rpl.lastSample / p.req.T
  if s.rpl.sweep > last then endReplay 5 0 (flushReplay p (last + 1) s)
  else
    let d : Dwell := { ver := p.version, chan := p.order.getD s.rpl.chanPos 0, sweep := s.rpl.sweep }
    let is (r : AlmRec) : Bool := fieldAt 0 2 r.body = p.sysChan d.chan && fieldAt 4 4 r.body = d.sweep % 2 ^ 32
    let absent := rs.find? fun r => r.type = 0x22 && is r
    let uncorr := match absent with | some r => decide (fieldAt 2 1 r.body = 1) | none => false
    match rs.find? fun r => r.type = 0x20 && is r with
    | none => advanceReplay p { s with rpl := { s.rpl with dwellsAbsent := s.rpl.dwellsAbsent + 1 } }
    | some dig =>
      let pkts := if s.rpl.input then unitPackets p d s.rpl.units else rawPackets p d (s.rawFrom (2 ^ 29) inputBase)
      let here := someBlocks p pkts
      let started := !s.rpl.blocks.isEmpty
      let need := if started then s.rpl.blocks else here
      let whole := wholeBlocks p pkts
      if !need.isEmpty && need.all whole.contains then
        let s := { s with rpl := { s.rpl with
          blocks := need, state := 2
          units := s.rpl.units.filter fun u => !(u.chan = p.sysChan d.chan && u.epoch.toNat = d.sweep % 2 ^ 32) } }
        let pkts := pkts.filter fun k => need.contains k.block
        advanceReplay p (computeReplay rs p d pkts dig uncorr s)
      else if s.rpl.input && s.rpl.units.any fun u => !(u.chan = p.sysChan d.chan && u.epoch.toNat = d.sweep % 2 ^ 32) then
        endReplay 7 3 s
      else setReplay 3 0 s

/-- R351: one dwell of the replay, once its input and room for its results are there. -/
def execReplayDwell (s : State) : Out :=
  .next (if !s.replaying || !s.tamzarServes then s
    else
      let s := if s.rpl.state = 1 then loadReplay s else s
      match s.replaying, s.rpl.plan with
      | true, some p =>
        let s := resultFill s.rpl.outbox s
        if !s.rpl.outbox.isEmpty then setReplay 4 0 s
        else
          let (rs, _) := s.image_
          let d : Dwell := { ver := p.version, chan := p.order.getD s.rpl.chanPos 0, sweep := s.rpl.sweep }
          let v := versionAt rs p d
          let s :=
            if v = p.version.toNat then replayNext rs p s
            else match switchReplay rs v p s with
              | none => endReplay 7 1 s
              | some q =>
                let s := if q.hasLayout then flushReplay p s.rpl.sweep s else s
                let k := s.rpl.sweep * p.req.T / q.req.T
                let rmw := if q.hasLayout then (startIntegrations q (some k) q.integCfg (replayState q s)).rmw else s.rpl.rmw
                replayNext rs q { s with rpl := { s.rpl with plan := some q, rmw := rmw, sweep := k } }
          let s := resultFill s.rpl.outbox s
          if s.replaying && !s.rpl.outbox.isEmpty then setReplay 4 0 s else s
      | _, _ => s)

/-! ### The commands (R349, R350, R352) -/

/-- REPLAY_START's checks and start. -/
def replayStartRun (c : Ctx) (s : State) : State × Answer :=
  let first := fieldAt 0 8 c.par
  let last := fieldAt 8 8 c.par
  if s.plan.active.isSome then (s, ansBusy s.planCode)
  else if s.replaying then (s, ansBusy s.rpl.state)
  else if last < first then (s, ansField 40)
  else if fieldAt 16 1 c.par > 1 then (s, ansField 48)
  else
    let (rs, bad) := s.image_
    match windowCkpt rs first with
    | none => (s, ansField 32)
    | some (_, b, _) =>
      let T := b.basis.req.T
      if !(rs.any fun r => r.type = 0x20 && decide (last / T ≤ fieldAt 4 4 r.body)) then (s, ansField 40)
      else if replaySize < replayNeed b.basis then (s, ansField 32)
      else
        let r : Rpl := { state := 1, badRecords := BitVec.ofNat 32 bad, nextSample := first, lastSample := last,
                         input := fieldAt 16 1 c.par = 1 }
        ({ s with rpl := r }, ansAccepted)

/-- REPLAY_START: never relayed, answers ACCEPTED. -/
def opReplayStart : OpDef :=
  { code := 0x0A04, never := true, form := formLen 24, res0 := firstRes0 [(17, 7)], run := needTrained replayStartRun }

/-- R350. -/
def execReplayStart (k : KcpIn) (s : State) : Out := .next (kcpCommand opReplayStart k s)

/-- REPLAY_INPUT: whole units join the input ring when there is space (R349). -/
def replayInputRun (c : Ctx) (s : State) : State × Answer :=
  let len := fieldAt 8 8 c.par
  if !s.replaying || !s.rpl.input then (s, ansBusy s.rpl.state)
  else if len % 8208 ≠ 0 then (s, ansField 40)
  else if (s.rpl.units.length * 8208 + len) > inputSize then (s, ansBusy s.rpl.state)
  else
    let us := (List.range (len / 8208)).map fun i => unitOfBytes (slice (8208 * i) 8208 c.k.dma)
    let s := startTransfer { seq := c.k.seq, kind := .replayInput, addr := BitVec.ofNat 64 (fieldAt 0 8 c.par), len := len } s
    ({ s with rpl := { s.rpl with units := s.rpl.units ++ us } }, ansAccepted)

/-- REPLAY_INPUT: Bulk only, never relayed, answers ACCEPTED. -/
def opReplayInput : OpDef := { code := 0x0A05, bo := true, never := true, form := formLen 16, run := needTrained replayInputRun }

/-- R349. -/
def execReplayInput (k : KcpIn) (s : State) : Out := .next (kcpCommand opReplayInput k s)

/-- The progress record (R352). -/
def progressRecord (r : Rpl) : List Byte :=
  le 1 r.state ++ le 1 (if r.state = 7 then r.reason else 0) ++ zeros 2 ++ le4 r.badRecords.toNat ++ le8 r.ckptSweep ++
  le8 r.nextSample ++ le4 r.dwellsDone.toNat ++ le4 r.dwellsAbsent.toNat ++ le4 r.mismatches.toNat ++ zeros 4 ++
  le8 r.resultProd.toNat ++ fit 256 r.first16.flatten

/-- REPLAY_STATUS_GET. -/
def opReplayStatusGet : OpDef :=
  { code := 0x0A06, form := formLen 0
    run := needTrained fun _ s => (s, ansOk (progressRecord s.rpl)) }

/-- R352. -/
def execReplayStatusGet (k : KcpIn) (s : State) : Out := .next (kcpCommand opReplayStatusGet k s)

/-- REPLAY_STOP: never relayed; the result ring keeps what it holds. -/
def opReplayStop : OpDef :=
  { code := 0x0A07, never := true, form := formLen 0
    run := needTrained fun _ s => (if s.replaying then endReplay 6 0 s else s, ansOk) }

/-- R350. -/
def execReplayStop (k : KcpIn) (s : State) : Out := .next (kcpCommand opReplayStop k s)

end Sys2Proof.Machine
end

