-- ==== Sys2Proof/Machine/OpTable.lean ====
section
/-! DEFINITION. The opcode table (R241): what each code of a packet that is taken from a ring's bytes, from the mesh or from the
cue table stands for. -/

namespace Sys2Proof.Machine
open Sys2Proof

/-- Codes 0x0000 to 0x00FF (R241). -/
def opsGeneral : List OpDef :=
  [opEcho, opIdent, opSurveyGet, opSurveySnapshot, opRingCfg, opSafeStop]

/-- Codes 0x0100 to 0x01FF (R241). -/
def opsParams : List OpDef :=
  [opParamGet, opParamSet]

/-- Codes 0x0200 to 0x02FF (R241). -/
def opsPlans : List OpDef :=
  [opPlanSubmit, opPlanGet, opPlanTableGet, opBaselineGet, opPlanPublish, opSystemJoin, opSystemLeave]

/-- Codes 0x0300 to 0x03FF (R241). -/
def opsIntegrations : List OpDef :=
  [opIntegCfg, opIntegStart, opIntegStop, opIntegStatusGet]

/-- Codes 0x0400 to 0x04FF (R241). -/
def opsBeams : List OpDef :=
  [opBeamCfg, opBeamGainWrite, opBeamDelayWrite, opBeamDirectWrite, opBeamSwap, opBeamGet, opRiddleCfg,
   opRiddleCoefWrite, opRiddleSwap, opRiddleSync]

/-- Codes 0x0500 to 0x05FF (R241). -/
def opsCapture : List OpDef :=
  [opCaptureCfg, opCaptureArm, opCaptureDisarm, opCaptureTrigger, opCaptureResize, opCaptureDrain, opCaptureRelease,
   opCaptureMissedGet, opCaptureStatusGet]

/-- Codes 0x0600 to 0x06FF (R241). -/
def opsTime : List OpDef :=
  [opTimeRead, opTimeSource, opTimeMeasure, opTimeStep, opTimeEpochSet, opCueCancel, opCueListGet, opConfirm,
   opCancel]

/-- Codes 0x0700 to 0x07FF (R241). -/
def opsLanes : List OpDef :=
  [opLaneCfg, opLaneStatusGet, opLaneDoze, opLaneWake, opLaneQuiet]

/-- Codes 0x0800 to 0x08FF (R241). -/
def opsMemory : List OpDef :=
  [opMemRead, opMemWrite, opMemStatusGet, opMemRepair, opMemTrain]

/-- Codes 0x0900 to 0x09FF (R241). -/
def opsSpares : List OpDef :=
  [opSpareMapGet, opGraft, opStripePower, opSupervisorHandover, opSupervisorReset, opFwImageWrite, opFwUpdate,
   opCallerHandover]

/-- Codes 0x0A00 to 0x0AFF (R241). -/
def opsAlmanac : List OpDef :=
  [opAlmanacRead, opAlmanacFreeze, opAlmanacThaw, opReplayStart, opReplayInput, opReplayStatusGet, opReplayStop]

/-- Codes 0x0B00 to 0x0BFF (R241). -/
def opsMargin : List OpDef :=
  [opMarginGet, opMarginSet, opMarginMode]

/-- Every opcode of R241. -/
def allOps : List OpDef :=
  opsGeneral ++ opsParams ++ opsPlans ++ opsIntegrations ++ opsBeams ++ opsCapture ++
  opsTime ++ opsLanes ++ opsMemory ++ opsSpares ++ opsAlmanac ++ opsMargin

/-- The opcode of a code; none for a code the table does not hold, which step 5 of R230 refuses. -/
def opOf (code : BitVec 16) : Option OpDef := allOps.find? fun (op : OpDef) => op.code = code

/-- A packet of a ring's bytes or of the mesh arrives. -/
def packetArrives (p : BitVec 16 × KcpIn) (s : State) : State := kcpArrive p.1 (opOf p.1) p.2 s

end Sys2Proof.Machine
end

