-- ==== Sys2Proof/Machine/Mesh.lean ====
section
/-! DEFINITION. Fjotranu frames on receipt (R252 to R262, R317 to R321, R346, R375, R376): the checks, forwarding, and what each
mesh frame type does at a device that takes it. -/

namespace Sys2Proof.Machine
open Sys2Proof

/-! ### Seen frames (R256, R376) -/

/-- What a flooded frame is known by: SRC, TYPE and FSEQ, and for a joiner, whose SRC is 0x3FF, its birth identity too. -/
def MeshFrame.key (f : MeshFrame) : FloodSeen :=
  { src := f.src, type := f.type, fseq := f.fseq,
    birth := if f.src = 0x3FF && f.type = 0x11 then BitVec.ofNat 64 (fieldAt 0 8 f.body) else 0 }

/-- Two entries belong to the same series: the same SRC and TYPE, and the same birth identity. -/
def FloodSeen.sameSeries (a b : FloodSeen) : Bool := a.src == b.src && a.type == b.type && a.birth == b.birth

/-- Remember a frame: of each series the last 64 FSEQ values are kept (R256). -/
def seeFrame (k : FloodSeen) (s : State) : State :=
  let mine := (s.mesh.seen.filter (FloodSeen.sameSeries k)).take 63
  let others := s.mesh.seen.filter fun x => !FloodSeen.sameSeries k x
  { s with mesh := { s.mesh with seen := k :: mine ++ others } }

/-! ### Forwarding (R256, R260) -/

/-- SCOPE of a frame. -/
def MeshFrame.scope (f : MeshFrame) : Nat := f.dest.toNat / 1024 % 4

/-- Body with a signed field of 8 bytes at `off` raised by `d`. -/
def addAt (off : Nat) (d : Int) (bs : List Byte) : List Byte :=
  let v := (BitVec.ofNat 64 (fieldAt off 8 bs)).toInt + d
  bs.take off ++ leInt 8 v ++ bs.drop (off + 8)

/-- A frame as a relay sends it on: one hop more, and for a time frame the residence time since `rx` (R256, R260). -/
def relayFrame (f : MeshFrame) (rx : Int) (s : State) : MeshFrame :=
  let stay := s.time16 - rx
  { f with
    hops := f.hops + 1
    body := match f.type with
      | 0x12 => addAt 32 stay f.body
      | 0x13 => addAt 40 stay f.body
      | _ => f.body }

/-- The frame goes on by every up mesh lane except the one it arrived on. -/
def floodFrom (f : MeshFrame) (rx : Int) (s : State) : State :=
  let ls := s.upLanes.filter (· ≠ f.lane)
  if ls.isEmpty then s else floodOn ls (relayFrame f rx s) (s.bump .lnMeshRelayed)

/-- The up mesh lane that the route table names for a destination (R256). -/
def State.routeLane (s : State) (dest : Nat) : Option Nat :=
  match s.mesh.routes.find? (·.1 = dest) with
  | some (_, l) => if s.laneUp l then some l else none
  | none => none

/-- The frame is this device's: it has an index, and DEST is it. -/
def MeshFrame.isFor (f : MeshFrame) (s : State) : Bool := s.boot.system ≠ 1 && f.dest.toNat % 1024 = s.mesh.index.toNat

/-- A mesh frame on an up mesh lane (R256): discarded with HOPS 15; taken, forwarded or both. A flooded frame that has been seen, or
that this device has sent itself, is neither. A DEVICE frame goes on by the lane of its route; with no up lane for it, it is flooded and
taken only by DEST, which takes each number once. `known` says that the frame's FSEQ is known. -/
def meshFrame (f : MeshFrame) (known : Bool) (rx : Int) (take : State → State) (s : State) : State :=
  let own := f.src = s.mesh.index.toNat && s.boot.system = 2
  let again := known && s.mesh.seen.contains f.key
  if f.hops ≥ 15 then s.bump .lnMeshHops
  else match f.scope with
    | 0 => take s
    | 1 =>
      if f.isFor s then (if own || again then s else take (if known then seeFrame f.key s else s))
      else match s.routeLane (f.dest.toNat % 1024) with
        | some l => sendOn l (relayFrame f rx s) (s.bump .lnMeshRelayed)
        | none => if own || again then s else floodFrom f rx ((if known then seeFrame f.key s else s).bump .lnMeshNoRoute)
    | sc =>
      if own || again then s
      else
        let s := floodFrom f rx (if known then seeFrame f.key s else s)
        if sc = 3 || f.dest.toNat % 32 = s.mesh.segment then take s else s

/-! ### Heartbeats (R259, R318 to R321, R375, R376) -/

/-- Two heartbeats come from the same device: the same index, or for joiners, who have none, the same birth identity. -/
def Heard.same (src : Nat) (b : HeartbeatBody) (h : Heard) : Bool :=
  h.index == src && (src != 0x3FF || h.birth == b.birth)

/-- The device is heard: its last heartbeat, and its last SYSTEM heartbeat. -/
def hear (src : Nat) (wide : Bool) (b : HeartbeatBody) (s : State) : State :=
  let before := match s.mesh.heard.find? (Heard.same src b) with | some h => h.wideAt | none => none
  let h : Heard := { index := src, birth := b.birth, heardAt := s.now, wideAt := if wide then some s.now else before, body := b }
  { s with mesh := { s.mesh with heard := s.mesh.heard.filter (fun x => !Heard.same src b x) ++ [h] } }

/-- The sender belongs to no other system: it carries the lease word of a system of one, whose TERM is 0 (R15, R318, log 115). -/
def beatAlone (b : HeartbeatBody) : Bool := b.caller && b.leaseN == ~~~ b.lease && callerTerm b.lease == 0

/-- The caller hears a member's birth identity from a device that no longer has the member's index: it has restarted after a root fault, or
has left. It is lost at once (R21, R163, R377, log 115). -/
def hearGone (src : Nat) (b : HeartbeatBody) (s : State) : State :=
  if !s.tiles || !s.tamzarServes || s.mesh.partitioned then s
  else match s.members.find? fun m => m.birth = b.birth && m.index ≠ s.mesh.index.toNat with
    | some m => if m.index = src && !beatAlone b then s else declareLost m.index s
    | none => s

/-- The caller hears a joiner (R376): an unknown birth identity enters its next SYSTEM plan. -/
def hearJoiner (b : HeartbeatBody) (s : State) : State :=
  let known := s.members.any fun m => m.birth = b.birth
  if !s.tiles || !s.tamzarServes || known || s.mesh.partitioned then s
  else
    let fresh := !s.mesh.unknown.any (·.birth = b.birth)
    let room := s.members.length < 1024 && (s.members.filter (·.segment = b.segment)).length < 32
    let u : UnknownDev := { birth := b.birth, segment := b.segment, heardAt := s.now }
    let s := { s with mesh := { s.mesh with unknown := s.mesh.unknown.filter (·.birth ≠ b.birth) ++ [u] } }
    if fresh && room then forcePlan 8 s else s

/-- A device that the caller declared lost is heard again: a SYSTEM plan restores it (R163, R321). -/
def hearLost (src : Nat) (s : State) : State :=
  if s.tiles && s.tamzarServes && s.mesh.lost.contains src then
    let s := { s with mesh := { s.mesh with lost := s.mesh.lost.filter (· ≠ src) } }
    forcePlan 8 (journalLease s.srcTamzar 8 s.callerLease.toNat src s)
  else s

/-- The device takes a lease word that wins: PARTITIONED clears, a claim or backoff ends, and a caller that the word does not name
becomes an ordinary voter. A word that names this device makes it caller (R318, R320, R321). -/
def adoptLease (w : W32) (s : State) : State :=
  let was := s.mesh.partitioned
  let s := { s with mesh := { s.mesh with lease := w, leaseN := ~~~ w, leaseAt := s.now, partitioned := false, claiming := none, backoff := none } }
  let s := if was then resumeFollower (journalLease s.srcTamzar 6 w.toNat 0 s) else s
  if leaseHolder w = s.mesh.index.toNat && s.boot.system = 2 then
    if s.mesh.caller || !s.tamzarServes then s else becomeCaller w s
  else stopCarrying s

/-- The lease word of a heartbeat (R318): it counts from its HOLDER, and from the caller that hands the role over (R320), when
LEASE_N matches; it is taken when it wins over the word held or claimed, and renewed when it is the word held. -/
def hearLease (src : Nat) (b : HeartbeatBody) (s : State) : State :=
  let w := b.lease
  let handover := src = leaseHolder s.callerLease && callerTerm s.callerLease < callerTerm w
  if b.leaseN ≠ ~~~ w || leaseHolder w = 0x3FF || !(src = leaseHolder w || handover) then s
  else if leaseHolder w = s.mesh.index.toNat && s.boot.system = 2 && s.mesh.carrying then s
  else if s.leaseWins w s.leaseSent then adoptLease w s
  else s

/-- A caller that has stopped carrying the lease carries it again once its half qualifies, while the word is still valid (R319). -/
def resumeCarrying (s : State) : State :=
  let own := leaseHolder s.callerLease = s.mesh.index.toNat
  if s.boot.system = 2 && own && !s.mesh.carrying && !s.mesh.partitioned && s.tamzarServes && s.qualifies s.now 150000 then
    followRole { s with mesh := { s.mesh with caller := true, carrying := true, leaseAt := s.now } }
  else s

/-- A founder hears a caller: while it listens it proceeds as with JOIN; within 1 s of founding, with no device joined, it becomes
a joiner of a caller that wins (R375). -/
def founderHears (b : HeartbeatBody) (s : State) : State :=
  if !b.caller || b.leaseN ≠ ~~~ b.lease then s
  else if s.mesh.founding then { s with mesh := { s.mesh with founding := false } }
  else match s.mesh.foundedAt with
    | some t =>
      if s.mesh.caller && !s.passed t (10 ^ 9) && s.mesh.system.isEmpty && b.lease ≠ s.callerLease && b.birth ≠ s.birth &&
          s.leaseWins b.lease s.callerLease then startJoining s
      else s
    | none => s

/-- A heartbeat that the device takes. A system of one takes none. -/
def takeHeartbeat (src : Nat) (wide : Bool) (b : HeartbeatBody) (s : State) : State :=
  if s.boot.system = 0 then s
  else if beatAlone b then hearGone src b s
  else
    let s := hear src wide b (hearGone src b s)
    if src = 0x3FF then hearJoiner b s
    else resumeCarrying (hearLease src b (hearLost src (founderHears b s)))

/-! ### Relayed packets and replies (R238, R262) -/

/-- The device is among those that a packet addresses. -/
def packetForMe (k : KcpIn) (s : State) : Bool :=
  match kScope k with
  | 3 => true
  | 2 => kTarget k % 32 = s.mesh.segment
  | _ => s.boot.system ≠ 1 && kTarget k = s.mesh.index.toNat

/-- A KCP frame that the device takes. In a DEVICE frame, a packet for another device, or for a segment or the system, has come to this device as
the lead of its segment, which passes it on (R262). -/
def takeKcp (f : MeshFrame) (s : State) : State :=
  if s.boot.system = 0 then s
  else
    let (code, k) := kParse .mesh [] f.body
    let onward := f.scope = 1 && kScope k ≠ 0 && (kScope k ≥ 2 || !packetForMe k s)
    let s := if onward then leadSend (kScope k) (kTarget k) f.body s else s
    if packetForMe k s then packetArrives (code, k) s else s

/-- A reply read from its bytes (R221): magic, STATUS_N, length and CRC-32C must hold. -/
def replyOf (bs : List Byte) : Option Reply :=
  let n := fieldAt 16 2 bs
  let st := BitVec.ofNat 16 (fieldAt 2 2 bs)
  let body := bs.take (32 + n)
  if fieldAt 0 2 bs = 0xCA51 && BitVec.ofNat 16 (fieldAt 4 2 bs) = ~~~ st && bs.length = 36 + n &&
      fieldAt (32 + n) 4 bs = crc32c body then
    some {
      status := st
      rflags := BitVec.ofNat 16 (fieldAt 6 2 bs)
      seq := BitVec.ofNat 32 (fieldAt 8 4 bs)
      hostTag := BitVec.ofNat 32 (fieldAt 12 4 bs)
      opcode := BitVec.ofNat 16 (fieldAt 18 2 bs)
      device := BitVec.ofNat 16 (fieldAt 20 2 bs)
      timeFrac := BitVec.ofNat 16 (fieldAt 22 2 bs)
      timeNs := BitVec.ofNat 64 (fieldAt 24 8 bs)
      result := slice 32 n bs }
  else none

/-- A KCP_REPLY frame at the caller. -/
def takeKcpReply (src : Nat) (bs : List Byte) (s : State) : State :=
  match replyOf bs with | some r => takeReply src r s | none => s

/-! ### Survey frames and triggers (R261, R346) -/

/-- A SURVEY frame: the caller takes its records, a lead forwards them to the caller. -/
def takeSurvey (bs : List Byte) (s : State) : State :=
  if !s.tamzarServes || s.boot.system ≠ 2 then s
  else if s.mesh.caller then absorbSurvey (parseSurvey bs.length bs) s
  else if s.mesh.lead then surveyTo (leaseHolder s.callerLease) s.mesh.index.toNat bs s
  else s

/-- A TRIGGER frame is judged by the regions that admit its group; kind 2, mesh (R177, R180). -/
def takeTrigger (src : Nat) (b : TrigBody) (s : State) : State :=
  if !s.dieRuns || s.boot.system ≠ 2 then s
  else
    (judgeTrig (fun _ => true)
      { sTrig := b.sTrig, fraction := b.fraction, kind := 2, line := b.group, device := src,
        time16 := (b.timeNs.toNat : Int) * 2 ^ 16 + b.timeFrac.toNat } 0 s).1

/-- The 32 bytes of a TRIGGER body (R261). -/
def trigBytes (b : TrigBody) : List Byte :=
  le 1 b.group ++ le 1 b.kind.toNat ++ zeros 2 ++ le 6 b.sTrig ++ zeros 2 ++ le4 b.fraction.toNat ++ le8 b.timeNs.toNat ++
    le2 b.timeFrac.toNat ++ zeros 6

/-- A TRIGGER body from bytes. -/
def trigOf (bs : List Byte) : TrigBody :=
  { group := fieldAt 0 1 bs % 16, kind := BitVec.ofNat 8 (fieldAt 1 1 bs), sTrig := fieldAt 4 6 bs,
    fraction := BitVec.ofNat 32 (fieldAt 12 4 bs), timeNs := BitVec.ofNat 64 (fieldAt 16 8 bs),
    timeFrac := BitVec.ofNat 16 (fieldAt 24 2 bs) }

/-! ### A frame on the wire (R252 to R254) -/

/-- A LINK body from bytes (R255). -/
def linkOf (bs : List Byte) : LinkBody :=
  { birth := BitVec.ofNat 64 (fieldAt 0 8 bs), index := BitVec.ofNat 16 (fieldAt 8 2 bs), segment := fieldAt 10 1 bs,
    lane := fieldAt 11 1 bs, role := fieldAt 12 1 bs, planVersion := BitVec.ofNat 64 (fieldAt 16 8 bs) }

/-- A time body from bytes (R260). -/
def timeOf (bs : List Byte) : TimeBody :=
  { exch := BitVec.ofNat 32 (fieldAt 0 4 bs), notSynced := (fieldAt 4 4 bs).testBit 0, t1 := timeAt 8 bs, t4 := timeAt 20 bs,
    corrReq := (BitVec.ofNat 64 (fieldAt 32 8 bs)).toInt, corrResp := (BitVec.ofNat 64 (fieldAt 40 8 bs)).toInt }

/-- The frame types of R253. -/
def frameTypes : List Nat := [0x01, 0x02, 0x10, 0x11, 0x12, 0x13, 0x14, 0x15, 0x16, 0x17, 0x18]

/-- The checks of R254 on a frame of 16 header bytes, its body and its FCRC. -/
def frameChecks (h body : List Byte) (fcrc : W32) (uncorrectable : Bool) : Bool :=
  let len := fieldAt 4 2 h
  !uncorrectable && h.length = 16 && fcrc.toNat = crc32c (h.drop 1 ++ body) && fieldAt 2 1 h = 1 && fieldAt 3 1 h < 16 &&
    fieldAt 6 2 h < 2 ^ 12 && fieldAt 8 2 h < 2 ^ 10 && 4 ≤ len && len ≤ 9184 && len % 4 = 0 && len = body.length &&
    frameTypes.contains (fieldAt 1 1 h)

/-- The number of the frame on its lane: a number that is not one more than the previous frame's adds the difference to
LN_FJ_LINK_GAP (R254). -/
def linkNumber (l n : Nat) (s : State) : State :=
  let x := s.lane l
  let seq := BitVec.ofNat 16 n
  let gap := if x.rxLinkSeen then (seq - x.rxLinkSeq - 1).toNat else 0
  (s.bumpBy .lnFjLinkGap gap).onLane l fun x => { x with rxLinkSeq := seq, rxLinkSeen := true }

/-- What a mesh frame of each TYPE does at a device that takes it; `rx` is when it was received. -/
def takeByType (f : MeshFrame) (rx : Int) (s : State) : State :=
  match f.type with
  | 0x11 => takeHeartbeat f.src (f.scope == 3) (heartbeatOf f.body) s
  | 0x12 => answerTimeReq f.src (timeOf f.body) rx s.time16 s
  | 0x13 => takeTimeResp f.src (timeOf f.body) rx s
  | 0x14 => takeTrigger f.src (trigOf f.body) s
  | 0x15 => takeKcp f s
  | 0x16 => takeKcpReply f.src f.body s
  | 0x17 => takeSurvey f.body s
  | _ => s

/-- A frame that has passed the checks, by TYPE and role (R253). A RECORD frame on an egress lane is its receiver's to take; the DX4 takes nothing from it. -/
def frameByType (l : Nat) (h body : List Byte) (rx : Int) (s : State) : State :=
  let f : MeshFrame :=
    { lane := l, type := fieldAt 1 1 h, src := fieldAt 8 2 h, dest := BitVec.ofNat 16 (fieldAt 6 2 h), hops := fieldAt 3 1 h,
      fseq := BitVec.ofNat 32 (fieldAt 12 4 h), body := body }
  match f.type with
  | 0x01 => takeSample l body true s
  | 0x02 => if s.role l = 2 then receivedOn l s else (receivedOn l s).bump .lnFjRole
  | 0x10 => takeLink l (linkOf body) s
  | 0x18 => takeDoze l (BitVec.ofNat 8 (fieldAt 0 1 body)) s
  | _ => meshGate l (meshFrame f true rx (takeByType f rx)) s

/-- R254: a Fjotranu frame is checked, then taken by TYPE or forwarded. -/
def execFjotranuFrame (lane : Fin 128) (header body : List Byte) (fcrc : W32) (uncorrectable : Bool) (rxTime : Int) (s : State) : Out :=
  .next (if !s.fjOpen lane then s
    else if !frameChecks header body fcrc uncorrectable then
      let s := if uncorrectable then
          (s.onLane lane fun x => { x with codewordsBad := x.codewordsBad + 1 }).bump .lnFecUncorr else s
      discardOn lane (s.bump .lnFjCheck)
    else frameByType lane header body rxTime (linkNumber lane (fieldAt 10 2 header) s))

/-! ### Frames that the table gives rows of their own -/

/-- R318: a heartbeat with SCOPE SYSTEM, or with SCOPE SEGMENT naming its segment. -/
def execHeartbeat (lane : Fin 128) (src : Nat) (fseq : W32) (system : Bool) (body : HeartbeatBody) (s : State) : Out :=
  let f : MeshFrame := { lane := lane, type := 0x11, src := src, dest := if system then destField 3 0 else destField 2 body.segment,
                         fseq := fseq, body := heartbeatBytes body }
  .next (meshGate lane (meshFrame f true s.time16 (takeHeartbeat src system body)) s)

/-- R261: a TRIGGER frame goes to every device. -/
def execMeshTrigger (lane : Fin 128) (src : Nat) (fseq : W32) (body : TrigBody) (s : State) : Out :=
  let f : MeshFrame := { lane := lane, type := 0x14, src := src, dest := destField 3 0, fseq := fseq, body := trigBytes body }
  .next (meshGate lane (meshFrame f true s.time16 (takeTrigger src body)) s)

/-- R262: a KCP frame. -/
def execKcpFrame (lane : Fin 128) (src : Nat) (fseq : W32) (dest : BitVec 12) (packet : List Byte) (s : State) : Out :=
  let f : MeshFrame := { lane := lane, type := 0x15, src := src, dest := dest.setWidth 16, fseq := fseq, body := packet }
  .next (meshGate lane (meshFrame f true s.time16 (takeKcp f)) s)

/-- R238: a KCP_REPLY frame to this device. -/
def execKcpReplyFrame (lane : Fin 128) (src : Nat) (reply : List Byte) (s : State) : Out :=
  .next (meshGate lane (takeKcpReply src reply) s)

/-- R346: a SURVEY frame to this device. -/
def execSurveyFrame (lane : Fin 128) (_src : Nat) (records : List Byte) (s : State) : Out :=
  .next (meshGate lane (takeSurvey records) s)

end Sys2Proof.Machine
end

