-- ==== Sys2Proof/Machine/Rings.lean ====
section
/-! DEFINITION. Taking packets from the rings and the mesh (R225 to R228), command and reply doorbells, SMBus packets (R363), and
cues at their points (R206, R213). -/

namespace Sys2Proof.Machine
open Sys2Proof

/-! ### Taking packets (R225 to R227) -/

/-- The first packet of a ring: its code, its fields and when it came. None while no whole unit waits. -/
def Ring.head (r : RingId) (x : Ring) : Option (BitVec 16 × KcpIn × Nat) :=
  if x.mem.length < 64 then none
  else
    let (t, dma) := x.dma.headD (0, [])
    let (code, k) := kParse (ringPath r) dma x.mem
    some (code, k, t)

/-- Steps 1 and 2 of R230 refuse the header, so the rest of the packet is not waited for. -/
def badHeader (k : KcpIn) : Bool := k.magicVer ≠ 0xCA51 || decide (k.plen.toNat > 4064) || k.plen.toNat % 4 ≠ 0

/-- The packet that a ring has for its executor: covered by the producer index, or refused by its header. -/
def State.offered (s : State) (r : RingId) : Option (BitVec 16 × KcpIn × Nat) :=
  let x := s.ring r
  if !s.pathServed (ringPath r) || !x.enable || x.halted then none
  else match x.head r with
    | some (code, k, t) => if badHeader k || 64 * kUnits k ≤ x.mem.length then some (code, k, t) else none
    | none => none

/-- The packet of a ring that can be taken: offered, with reply room (R227, R238). -/
def State.takable (s : State) (r : RingId) : Option (BitVec 16 × KcpIn × Nat) :=
  match s.offered r with
  | some (code, k, t) => if s.ringReady r (relayExtra k s) then some (code, k, t) else none
  | none => none

/-- Take the first packet of a ring. One that halts the ring stays where it is. -/
def takeFirst (r : RingId) (code : BitVec 16) (k : KcpIn) (s : State) : State :=
  let x := s.ring r
  let s := if badHeader k then s
    else s.setRing r { x with cons := x.cons + BitVec.ofNat 32 (kUnits k), mem := x.mem.drop (64 * kUnits k), dma := x.dma.drop 1
                              stall := false }
  kcpProcess code (opOf code) k s

/-- The oldest relayed packet is taken. -/
def takeMesh (code : BitVec 16) (k : KcpIn) (s : State) : State :=
  kcpProcess code (opOf code) k { s with kcp := { s.kcp with meshWaiting := s.kcp.meshWaiting.drop 1 } }

/-- One packet is taken in the order of R226: Urgent and relayed packets by arrival, then Normal and Bulk in turn; the groundskeeper
serves its own ring besides. None when nothing can be taken. -/
def serveOne (s : State) : Option State :=
  let mesh := if s.tamzarServes then s.kcp.meshWaiting.head? else none
  match s.takable .urg, mesh, s.takable .nrm, s.takable .blk, s.takable .gkr with
  | some (c, k, t), some (u, d, j), _, _, _ => if t ≤ u then some (takeFirst .urg c k s) else some (takeMesh d j s)
  | some (c, k, _), none, _, _, _ => some (takeFirst .urg c k s)
  | none, some (_, d, j), _, _, _ => some (takeMesh d j s)
  | none, none, some (c, k, _), some (d, j, _), _ =>
    if s.kcp.bulkNext then some (takeFirst .blk d j { s with kcp := { s.kcp with bulkNext := false } })
    else some (takeFirst .nrm c k { s with kcp := { s.kcp with bulkNext := true } })
  | none, none, some (c, k, _), none, _ => some (takeFirst .nrm c k { s with kcp := { s.kcp with bulkNext := true } })
  | none, none, none, some (d, j, _), _ => some (takeFirst .blk d j { s with kcp := { s.kcp with bulkNext := false } })
  | none, none, none, none, some (c, k, _) => some (takeFirst .gkr c k s)
  | none, none, none, none, none => none

/-- Packets are taken until none can be. Recurses on fuel. -/
def serveFor (fuel : Nat) (s : State) : State :=
  match fuel with
  | 0 => s
  | fuel + 1 => match serveOne s with | some t => serveFor fuel t | none => s

/-- A ring that has a packet and no reply room stalls; each stall counts once (R227). -/
def markStall (r : RingId) (s : State) : State :=
  let x := s.ring r
  match s.offered r with
  | some (_, k, _) =>
    if x.stall || s.ringReady r (relayExtra k s) then s else (s.setRing r { x with stall := true }).bump .kcpReplyStall
  | none => s

/-- Packets that wait, at most. -/
def State.waitingPackets (s : State) : Nat :=
  s.kcp.meshWaiting.length +
    (s.kcp.urg.mem.length + s.kcp.nrm.mem.length + s.kcp.blk.mem.length + s.kcp.gkr.mem.length) / 64

/-- Every packet that can be taken is taken, and the stalls are noted. -/
def serve (s : State) : State :=
  let s := serveFor s.waitingPackets s
  [RingId.urg, .nrm, .blk, .gkr].foldl (fun (s : State) r => markStall r s) s

/-! ### Doorbells (R225, R227, R228) -/

/-- R225: a command doorbell. `placed` are the bytes that the host has put into the units between the old index and the new one, `dma` what it
holds for the packets' buffers. A disabled or halted ring ignores it; more units than the ring has halt it (cause 3). -/
def execCommandDoorbell (ring : RingId) (index : W32) (placed : List Byte) (dma : List (List Byte)) (s : State) : Out :=
  let x := s.ring ring
  .next (if s.clk.held || !x.enable || x.halted then s
    else if (index - x.cons).toNat > x.cmdUnits then haltRing ring 3 s
    else
      let n := (index - x.prod).toNat
      serve (s.setRing ring { x with prod := index, mem := x.mem ++ fit (64 * n) placed, dma := x.dma ++ dma.map fun d => (s.now, d) }))

/-- R225, R227: the index of the reply units consumed, taken as it is written (log 24). Reply room lets waiting packets be
taken. -/
def execReplyDoorbell (ring : RingId) (index : W32) (s : State) : Out :=
  let x := { s.ring ring with rplCons := index }
  .next (if s.clk.held then s else serve (s.setRing ring { x with stall := x.stall && !(x.room ring (s.relayUnits ring)) }))

/-- R358: D0 with Bus Master Enable set: transfers resume, held writes are made and held vectors are sent. -/
def execBusMasterEnableSet (s : State) : Out :=
  .next (if s.pcie.up then serve (flushVectors { s with pcie := { s.pcie with busMaster := true, d3 := false } }) else s)

/-- R363: SMBus code 0x10. A write whose PEC fails is discarded; one that is not 36 to 100 bytes is not acknowledged. -/
def execSmbusKcpWrite (bytes : List Byte) (pecOk : Bool) (s : State) : Out :=
  .next (if !s.gkServes then s
    else if !pecOk then smbPecFail s
    else if bytes.length < 36 || bytes.length > 100 then { s with smb := { s.smb with nack := true } }
    else packetArrives (kParse .smbus [] bytes) s)

/-! ### Cues at their points (R206, R213) -/

/-- What a cue's packet says to its opcode. -/
def cueCtx (op : OpDef) (k : KcpIn) (id : Nat) : Ctx := { op.ctx k with cueId := id }

/-- A cue leaves the table or the hardware schedule. -/
def cueLeaves (e : CueEntry) (s : State) : State :=
  { s with cues := { s.cues with
      entries := s.cues.entries.filter (·.id ≠ e.id)
      hw := s.cues.hw.filter (·.id ≠ e.id)
      stepped := s.cues.stepped.filter (· ≠ e.id)
      packets := s.cues.packets.filter (·.1 ≠ e.id)
      done := s.cues.done ++ [(e.system, e.seq)] } }

/-- A cue acts. One that the opcode's rules now refuse with BAD_PARAM was made invalid by a new plan: it is journaled and does not run
(R213). -/
def runEntry (src outcome ranAt : Nat) (e : CueEntry) (s : State) : State :=
  match s.cues.packets.find? (·.1 = e.id), opOf e.opcode with
  | some (_, _, k), some op =>
    let c := cueCtx op k e.id
    if (op.accept c e.point.toNat s).2.status == .badParam then journalCue src 4 ranAt e (dropUnits e.id (cueLeaves e s))
    else op.atPoint c (journalCue src outcome ranAt e ((cueLeaves e s).bump .tmCueRun))
  | _, _ => cueLeaves e s

/-- The sweep of a cue in the hardware schedule has been reached: a dwell of it has started. -/
def State.cueReached (s : State) (e : CueEntry) : Bool := e.point.toNat / s.planT < s.nextSweep

/-- Cues in order of acceptance, which is the order of their places (R213). -/
def byAcceptance (es : List CueEntry) : List CueEntry :=
  es.foldl (fun xs e => xs.takeWhile (fun x => x.id ≤ e.id) ++ e :: xs.dropWhile (fun x => x.id ≤ e.id)) []

/-- SWEEP and SAMPLE cues of the hardware schedule up to one whose sweep has been reached: those with the same point run in order of
acceptance. -/
def State.cuesUpTo (s : State) (e : CueEntry) : List CueEntry :=
  if s.cueReached e && s.dieRuns then
    byAcceptance (s.cues.hw.filter fun x => x.point == e.point && x.cls != .time && decide (x.id ≤ e.id))
  else []

/-- When a TIME cue runs, as an FRC value: the first at which device time, under the present RATE, has reached EXEC_AT (R193, R194,
R209); at once when a step or a late acceptance has put its point in the past. -/
def State.timeCueFrc (s : State) (e : CueEntry) : Nat :=
  if e.isLocal then e.point.toNat
  else
    let d := (e.point.toNat : Int) * 2 ^ 40 - s.time40
    let perTick := 2 * 2 ^ 40 + 2 * s.time.rate.toInt
    if d ≤ 0 then s.now else s.now + ((d + perTick - 1) / perTick).toNat

/-- A TIME cue at its point (log 16): Tamzar runs it. -/
def runTimeCue (e : CueEntry) (s : State) : State :=
  if !s.tamzarServes then s
  else if !e.good then dropBroken s.srcTamzar e s
  else
    let stepped := s.cues.stepped.contains e.id
    let s := s.advanceTo (s.timeCueFrc e)
    if e.tentative then dropTentative s.srcTamzar e s
    else runEntry s.srcTamzar (bitOf stepped) s.now e s

/-- Two TIME cues have one point (R213). -/
def samePoint (a b : CueEntry) : Bool := a.cls == .time && b.cls == .time && a.point == b.point && a.isLocal == b.isLocal

/-- Cues of the hardware schedule run up to one of them (R213). -/
def runUpTo (e : CueEntry) (s : State) : State :=
  (s.cuesUpTo e).foldl (fun (s : State) e => runEntry 2 0 e.point.toNat e s) s

/-- R213: a cue runs at its point, after the cues with the same point that were accepted before it. A cue of the table whose sweep has
come passes to the hardware schedule first, and those before it as well. -/
def execCueRun (system : Bool) (seq : W32) (s : State) : Out :=
  .next (match s.cueEntry system seq with
    | some e =>
      let before := s.cues.entries.filter fun x => decide (x.id ≤ e.id) && x.point == e.point
      if e.cls == .time then (before.filter (samePoint e)).foldl (fun (s : State) x => runTimeCue x s) s
      else runUpTo e ((before.filter (·.cls != .time)).foldl (fun (s : State) x => passEntry x s) s)
    | none =>
      match s.cues.hw.find? fun e => e.seq = seq && e.system == system with
      | some e => runUpTo e s
      | none => s)

end Sys2Proof.Machine
end

