-- ==== Sys2Proof/Machine/Tick.lean ====
section
/-! DEFINITION. What happens in a TCLK period in which no command waits (log 1): the FRC and DRIFT go on, and what waits inside the DX4 for
time or for room goes on as far as it can. -/

namespace Sys2Proof.Machine
open Sys2Proof

/-- TIME cues whose point has come run in order of acceptance (R213). -/
def runDueCues (s : State) : State :=
  if !s.tamzarServes then s
  else
    (s.cues.entries.filter fun (e : CueEntry) => e.cls == .time && decide (s.timeCueFrc e ≤ s.now)).foldl
      (fun (s : State) e => runTimeCue e s) s

/-- Harvest records that waited for room in the queue (R95, R101): a chunk's records enter when they fit, and a flush pass that a
full queue has stalled goes on. -/
def retryHarvest (s : State) : State :=
  match s.rmw.pass with
  | none => if s.rmw.flush.stalled then runTo (execFlushPass [] s) s else s
  | some ps =>
    match s.planOf ps.dwell.ver with
    | some p => tryQueue p s
    | none => s

/-- The almanac's queue drains, waiting records enter it, and a checkpoint goes on (R333, R337). -/
def almanacGoesOn (s : State) : State := continueCheckpoint (acceptWaiting (drainQueue s))

/-- A PCI Express PLL that lost lock has restarted on the same reference, and its link has retrained (R22, log 143). -/
def relockPcie (s : State) : State :=
  if s.clk.pcieRestart && s.refHere s.clk.pcieRefAux then
    { s with clk := { s.clk with pcieRestart := false, pciePllLock := true }
             pcie := { s.pcie with up := s.pcie.up || s.pcie.retraining, retraining := false } }
  else s

/-- One TCLK period (log 1). -/
def tick (s : State) : State :=
  if s.clk.held then s
  else
    let s := relockPcie (s.advanceTo (s.now + 1))
    let s := if s.gk.commitWait && s.passed s.gk.stoppedAt 1000000 then endStopWait s.rmw.pass.isSome s else s
    let s := if s.dramUp then pumpPorts s else s
    let s := pumpFrames (almanacGoesOn s)
    let s := refreshCopy (runDueCues (serve s))
    if s.arraysRun then pumpDrains (retryHarvest (if s.tamzarServes then switchFirst s else s)) else s

end Sys2Proof.Machine
end

