-- ==== Sys2Proof/Machine/Dispatch.lean ====
section
/-! DEFINITION. The effect of each command: one arm for each row of the opcode table. -/

namespace Sys2Proof.Machine
open Sys2Proof

/-- The effect of a command on everything but the queue (R1 on: each arm cites its rule where its meaning is defined). -/
def exec (i : Instr) (s : State) : Host.Outcome State Fault Refusal :=
  match i with
  | .echo k => Sys2Proof.Machine.execEcho k s
  | .ident k => Sys2Proof.Machine.execIdent k s
  | .surveyGet k => Sys2Proof.Machine.execSurveyGet k s
  | .surveySnapshot k => Sys2Proof.Machine.execSurveySnapshot k s
  | .ringCfg k => Sys2Proof.Machine.execRingCfg k s
  | .ringCfgApply ring => Sys2Proof.Machine.execRingCfgApply ring s
  | .safeStop k => Sys2Proof.Machine.execSafeStop k s
  | .paramGet k => Sys2Proof.Machine.execParamGet k s
  | .paramSet k => Sys2Proof.Machine.execParamSet k s
  | .planSubmit k => Sys2Proof.Machine.execPlanSubmit k s
  | .planReady => Sys2Proof.Machine.execPlanReady s
  | .planGet k => Sys2Proof.Machine.execPlanGet k s
  | .planTableGet k => Sys2Proof.Machine.execPlanTableGet k s
  | .baselineGet k => Sys2Proof.Machine.execBaselineGet k s
  | .planPublish k => Sys2Proof.Machine.execPlanPublish k s
  | .switchSamplePublish => Sys2Proof.Machine.execSwitchSamplePublish s
  | .final => Sys2Proof.Machine.execFinal s
  | .cool => Sys2Proof.Machine.execCool s
  | .systemJoin k => Sys2Proof.Machine.execSystemJoin k s
  | .foundListenEnd => Sys2Proof.Machine.execFoundListenEnd s
  | .joinTimeout => Sys2Proof.Machine.execJoinTimeout s
  | .systemLeave k => Sys2Proof.Machine.execSystemLeave k s
  | .integCfg k => Sys2Proof.Machine.execIntegCfg k s
  | .integStart k => Sys2Proof.Machine.execIntegStart k s
  | .integStop k => Sys2Proof.Machine.execIntegStop k s
  | .integStatusGet k => Sys2Proof.Machine.execIntegStatusGet k s
  | .flushPass ue => Sys2Proof.Machine.execFlushPass ue s
  | .beamCfg k => Sys2Proof.Machine.execBeamCfg k s
  | .beamGainWrite k => Sys2Proof.Machine.execBeamGainWrite k s
  | .beamDelayWrite k => Sys2Proof.Machine.execBeamDelayWrite k s
  | .beamDirectWrite k => Sys2Proof.Machine.execBeamDirectWrite k s
  | .beamSwap k => Sys2Proof.Machine.execBeamSwap k s
  | .beamGet k => Sys2Proof.Machine.execBeamGet k s
  | .beamGroupFormed badWeights => Sys2Proof.Machine.execBeamGroupFormed badWeights s
  | .riddleCfg k => Sys2Proof.Machine.execRiddleCfg k s
  | .riddleCoefWrite k => Sys2Proof.Machine.execRiddleCoefWrite k s
  | .riddleSwap k => Sys2Proof.Machine.execRiddleSwap k s
  | .riddleSync k => Sys2Proof.Machine.execRiddleSync k s
  | .sieveOutput sieve => Sys2Proof.Machine.execSieveOutput sieve s
  | .captureCfg k => Sys2Proof.Machine.execCaptureCfg k s
  | .captureArm k => Sys2Proof.Machine.execCaptureArm k s
  | .captureDisarm k => Sys2Proof.Machine.execCaptureDisarm k s
  | .captureTrigger k => Sys2Proof.Machine.execCaptureTrigger k s
  | .captureResize k => Sys2Proof.Machine.execCaptureResize k s
  | .captureDrain k => Sys2Proof.Machine.execCaptureDrain k s
  | .captureDrainDone region sub => Sys2Proof.Machine.execCaptureDrainDone region sub s
  | .captureRelease k => Sys2Proof.Machine.execCaptureRelease k s
  | .captureMissedGet k => Sys2Proof.Machine.execCaptureMissedGet k s
  | .captureStatusGet k => Sys2Proof.Machine.execCaptureStatusGet k s
  | .timeRead k => Sys2Proof.Machine.execTimeRead k s
  | .timeSource k => Sys2Proof.Machine.execTimeSource k s
  | .timeMeasure k => Sys2Proof.Machine.execTimeMeasure k s
  | .timeStep k => Sys2Proof.Machine.execTimeStep k s
  | .timeEpochSet k => Sys2Proof.Machine.execTimeEpochSet k s
  | .cueCancel k => Sys2Proof.Machine.execCueCancel k s
  | .cueListGet k => Sys2Proof.Machine.execCueListGet k s
  | .confirm k => Sys2Proof.Machine.execConfirm k s
  | .cancel k => Sys2Proof.Machine.execCancel k s
  | .systemCueTimeout seq => Sys2Proof.Machine.execSystemCueTimeout seq s
  | .cuePassToHardware system seq => Sys2Proof.Machine.execCuePassToHardware system seq s
  | .cueRun system seq => Sys2Proof.Machine.execCueRun system seq s
  | .laneCfg k => Sys2Proof.Machine.execLaneCfg k s
  | .laneStatusGet k => Sys2Proof.Machine.execLaneStatusGet k s
  | .laneDoze k => Sys2Proof.Machine.execLaneDoze k s
  | .laneWake k => Sys2Proof.Machine.execLaneWake k s
  | .laneQuiet k => Sys2Proof.Machine.execLaneQuiet k s
  | .memRead k => Sys2Proof.Machine.execMemRead k s
  | .memWrite k => Sys2Proof.Machine.execMemWrite k s
  | .memStatusGet k => Sys2Proof.Machine.execMemStatusGet k s
  | .memRepair k => Sys2Proof.Machine.execMemRepair k s
  | .memTrain k => Sys2Proof.Machine.execMemTrain k s
  | .spareMapGet k => Sys2Proof.Machine.execSpareMapGet k s
  | .graft k => Sys2Proof.Machine.execGraft k s
  | .stripePower k => Sys2Proof.Machine.execStripePower k s
  | .stripeTestDone stripe => Sys2Proof.Machine.execStripeTestDone stripe s
  | .supervisorHandover k => Sys2Proof.Machine.execSupervisorHandover k s
  | .supervisorReset k => Sys2Proof.Machine.execSupervisorReset k s
  | .fwImageWrite k => Sys2Proof.Machine.execFwImageWrite k s
  | .fwUpdate k => Sys2Proof.Machine.execFwUpdate k s
  | .callerHandover k => Sys2Proof.Machine.execCallerHandover k s
  | .almanacRead k => Sys2Proof.Machine.execAlmanacRead k s
  | .almanacFreeze k => Sys2Proof.Machine.execAlmanacFreeze k s
  | .freezeAckTimeout => Sys2Proof.Machine.execFreezeAckTimeout s
  | .almanacThaw k => Sys2Proof.Machine.execAlmanacThaw k s
  | .replayStart k => Sys2Proof.Machine.execReplayStart k s
  | .replayInput k => Sys2Proof.Machine.execReplayInput k s
  | .replayStatusGet k => Sys2Proof.Machine.execReplayStatusGet k s
  | .replayStop k => Sys2Proof.Machine.execReplayStop k s
  | .replayDwell => Sys2Proof.Machine.execReplayDwell s
  | .marginGet k => Sys2Proof.Machine.execMarginGet k s
  | .marginSet k => Sys2Proof.Machine.execMarginSet k s
  | .marginMode k => Sys2Proof.Machine.execMarginMode k s
  | .marginHourly cellSlack stripeSlack => Sys2Proof.Machine.execMarginHourly cellSlack stripeSlack s
  | .commandDoorbell ring index placed dma => Sys2Proof.Machine.execCommandDoorbell ring index placed dma s
  | .replyDoorbell ring index => Sys2Proof.Machine.execReplyDoorbell ring index s
  | .ringEnable ring enable => Sys2Proof.Machine.execRingEnable ring enable s
  | .seqReset ring => Sys2Proof.Machine.execSeqReset ring s
  | .rwcValueWrite path offset value => Sys2Proof.Machine.execRwcValueWrite path offset value s
  | .rwcComplementWrite path offset value => Sys2Proof.Machine.execRwcComplementWrite path offset value s
  | .tmNowRead path => Sys2Proof.Machine.execTmNowRead path s
  | .genEventEnWrite value => Sys2Proof.Machine.execGenEventEnWrite value s
  | .genEventClear value sameCycle => Sys2Proof.Machine.execGenEventClear value sameCycle s
  | .supCfgWrite value => Sys2Proof.Machine.execSupCfgWrite value s
  | .genRplConsWrite hi value => Sys2Proof.Machine.execGenRplConsWrite hi value s
  | .genApertureWrite value => Sys2Proof.Machine.execGenApertureWrite value s
  | .bar4Access write offset len data strobes => Sys2Proof.Machine.execBar4Access write offset len data strobes s
  | .registerWrite path offset value strobes => Sys2Proof.Machine.execRegisterWrite path offset value strobes s
  | .bridgeTimeout path offset write => Sys2Proof.Machine.execBridgeTimeout path offset write s
  | .lnInCntClr value => Sys2Proof.Machine.execLnInCntClr value s
  | .xaCntClr value => Sys2Proof.Machine.execXaCntClr value s
  | .mcRmwCntClr value => Sys2Proof.Machine.execMcRmwCntClr value s
  | .bfCntClr value => Sys2Proof.Machine.execBfCntClr value s
  | .rdlCntClr value => Sys2Proof.Machine.execRdlCntClr value s
  | .genPlanCntClr value => Sys2Proof.Machine.execGenPlanCntClr value s
  | .cfCntClr value => Sys2Proof.Machine.execCfCntClr value s
  | .tmCntClr value => Sys2Proof.Machine.execTmCntClr value s
  | .kcpCntClr value => Sys2Proof.Machine.execKcpCntClr value s
  | .lnCntClr value => Sys2Proof.Machine.execLnCntClr value s
  | .mcCntClr value => Sys2Proof.Machine.execMcCntClr value s
  | .tlCntClr value => Sys2Proof.Machine.execTlCntClr value s
  | .supCntClr value => Sys2Proof.Machine.execSupCntClr value s
  | .pwCntClr value => Sys2Proof.Machine.execPwCntClr value s
  | .genLoamCntClr value => Sys2Proof.Machine.execGenLoamCntClr value s
  | .genAlmCntClr value => Sys2Proof.Machine.execGenAlmCntClr value s
  | .genCntClr value => Sys2Proof.Machine.execGenCntClr value s
  | .smbusSetOffset offset pecOk => Sys2Proof.Machine.execSmbusSetOffset offset pecOk s
  | .smbusRegisterAccess write pecOk => Sys2Proof.Machine.execSmbusRegisterAccess write pecOk s
  | .smbusKcpWrite bytes pecOk => Sys2Proof.Machine.execSmbusKcpWrite bytes pecOk s
  | .smbusReplyRead => Sys2Proof.Machine.execSmbusReplyRead s
  | .smbusStatusRead => Sys2Proof.Machine.execSmbusStatusRead s
  | .porstRelease railsOk pcieRefsel smbAddr => Sys2Proof.Machine.execPorstRelease railsOk pcieRefsel smbAddr s
  | .rootPllLock => Sys2Proof.Machine.execRootPllLock s
  | .coreBootDone core ok => Sys2Proof.Machine.execCoreBootDone core ok s
  | .dramTrainingDone eyes repaired => Sys2Proof.Machine.execDramTrainingDone eyes repaired s
  | .lanesStepEnd => Sys2Proof.Machine.execLanesStepEnd s
  | .timeStepEnd => Sys2Proof.Machine.execTimeStepEnd s
  | .pcieReset kind => Sys2Proof.Machine.execPcieReset kind s
  | .busMasterOff d3 => Sys2Proof.Machine.execBusMasterOff d3 s
  | .refLoss => Sys2Proof.Machine.execRefLoss s
  | .refRelock => Sys2Proof.Machine.execRefRelock s
  | .rootFault => Sys2Proof.Machine.execRootFault s
  | .auxrefLoss => Sys2Proof.Machine.execAuxrefLoss s
  | .auxrefRelock => Sys2Proof.Machine.execAuxrefRelock s
  | .pllUnlock hedge => Sys2Proof.Machine.execPllUnlock hedge s
  | .hedgePllLock hedge => Sys2Proof.Machine.execHedgePllLock hedge s
  | .railDip => Sys2Proof.Machine.execRailDip s
  | .vddIoLoss => Sys2Proof.Machine.execVddIoLoss s
  | .tempSensorRead readings => Sys2Proof.Machine.execTempSensorRead readings s
  | .syncEdge firstFrc samples => Sys2Proof.Machine.execSyncEdge firstFrc samples s
  | .trigEdge line rising firstFrc samples => Sys2Proof.Machine.execTrigEdge line rising firstFrc samples s
  | .tdcEdge rising time512 => Sys2Proof.Machine.execTdcEdge rising time512 s
  | .tdcCalibration inRange => Sys2Proof.Machine.execTdcCalibration inRange s
  | .samplePacket lane bytes frameOk => Sys2Proof.Machine.execSamplePacket lane bytes frameOk s
  | .slotCloseSuccessor => Sys2Proof.Machine.execSlotCloseSuccessor s
  | .slotCloseStall => Sys2Proof.Machine.execSlotCloseStall s
  | .slotCloseLimit => Sys2Proof.Machine.execSlotCloseLimit s
  | .dwellAbsentGrace => Sys2Proof.Machine.execDwellAbsentGrace s
  | .ethernetFrame lane bytes fcsOk => Sys2Proof.Machine.execEthernetFrame lane bytes fcsOk s
  | .arpNsRequest lane ipv6 target senderMac senderIp => Sys2Proof.Machine.execArpNsRequest lane ipv6 target senderMac senderIp s
  | .ptpAnnounce lane msg => Sys2Proof.Machine.execPtpAnnounce lane msg s
  | .ptpSync lane master domain t1 t2 correction logInterval => Sys2Proof.Machine.execPtpSync lane master domain t1 t2 correction logInterval s
  | .ptpDelayResp lane master domain t4 correction logInterval => Sys2Proof.Machine.execPtpDelayResp lane master domain t4 correction logInterval s
  | .fjotranuFrame lane header body fcrc uncorrectable rxTime => Sys2Proof.Machine.execFjotranuFrame lane header body fcrc uncorrectable rxTime s
  | .linkFrame lane body => Sys2Proof.Machine.execLinkFrame lane body s
  | .linkFrameSend lane => Sys2Proof.Machine.execLinkFrameSend lane s
  | .heartbeat lane src fseq system body => Sys2Proof.Machine.execHeartbeat lane src fseq system body s
  | .heartbeatSend => Sys2Proof.Machine.execHeartbeatSend s
  | .timeExchangeSend t3 => Sys2Proof.Machine.execTimeExchangeSend t3 s
  | .timeReq lane src body t4 t1 => Sys2Proof.Machine.execTimeReq lane src body t4 t1 s
  | .timeResp lane src body t2 => Sys2Proof.Machine.execTimeResp lane src body t2 s
  | .meshTrigger lane src fseq body => Sys2Proof.Machine.execMeshTrigger lane src fseq body s
  | .kcpFrame lane src fseq dest packet => Sys2Proof.Machine.execKcpFrame lane src fseq dest packet s
  | .kcpReplyFrame lane src reply => Sys2Proof.Machine.execKcpReplyFrame lane src reply s
  | .surveyFrame lane src records => Sys2Proof.Machine.execSurveyFrame lane src records s
  | .surveySend => Sys2Proof.Machine.execSurveySend s
  | .dozeFrame lane flags => Sys2Proof.Machine.execDozeFrame lane flags s
  | .laneLock lane => Sys2Proof.Machine.execLaneLock lane s
  | .laneLockLoss lane signalLost => Sys2Proof.Machine.execLaneLockLoss lane signalLost s
  | .laneLost lane => Sys2Proof.Machine.execLaneLost lane s
  | .laneHealthy lane => Sys2Proof.Machine.execLaneHealthy lane s
  | .serWindow lane errors symbols => Sys2Proof.Machine.execSerWindow lane errors symbols s
  | .egressFrameSend lane => Sys2Proof.Machine.execEgressFrameSend lane s
  | .dwellBoundary => Sys2Proof.Machine.execDwellBoundary s
  | .computeEnd upsets events => Sys2Proof.Machine.execComputeEnd upsets events s
  | .drainEnd => Sys2Proof.Machine.execDrainEnd s
  | .tieBreakDone bed upsets => Sys2Proof.Machine.execTieBreakDone bed upsets s
  | .replayRecomputeDone cell spare => Sys2Proof.Machine.execReplayRecomputeDone cell spare s
  | .cellFault cell cause => Sys2Proof.Machine.execCellFault cell cause s
  | .cellStallTimeout cell => Sys2Proof.Machine.execCellStallTimeout cell s
  | .rotationPeriod => Sys2Proof.Machine.execRotationPeriod s
  | .rmwPassStart => Sys2Proof.Machine.execRmwPassStart s
  | .chunkReadDone pos errs => Sys2Proof.Machine.execChunkReadDone pos errs s
  | .chunkCommit pos => Sys2Proof.Machine.execChunkCommit pos s
  | .chunkWriteTimeout pos => Sys2Proof.Machine.execChunkWriteTimeout pos s
  | .rmwEngineReset => Sys2Proof.Machine.execRmwEngineReset s
  | .dwellCommit => Sys2Proof.Machine.execDwellCommit s
  | .almanacRecord => Sys2Proof.Machine.execAlmanacRecord s
  | .checkpointBegin => Sys2Proof.Machine.execCheckpointBegin s
  | .refreshTick chan portBusy => Sys2Proof.Machine.execRefreshTick chan portBusy s
  | .refreshIssue chan forced => Sys2Proof.Machine.execRefreshIssue chan forced s
  | .mr4Read chan rates overtemp => Sys2Proof.Machine.execMr4Read chan rates overtemp s
  | .zqCalibration chan subB => Sys2Proof.Machine.execZqCalibration chan subB s
  | .dqsOscillator chan die drift => Sys2Proof.Machine.execDqsOscillator chan die drift s
  | .scrubRead chan errs granted => Sys2Proof.Machine.execScrubRead chan errs granted s
  | .rowRepair chan row lost => Sys2Proof.Machine.execRowRepair chan row lost s
  | .masterResetBurst master target addr done total => Sys2Proof.Machine.execMasterResetBurst master target addr done total s
  | .loamScrub corrected badSpares => Sys2Proof.Machine.execLoamScrub corrected badSpares s
  | .loamUncorrectableRead place bank addr => Sys2Proof.Machine.execLoamUncorrectableRead place bank addr s
  | .loamBankCopyDone group => Sys2Proof.Machine.execLoamBankCopyDone group s
  | .phaseFault stripe => Sys2Proof.Machine.execPhaseFault stripe s
  | .stewardFault stripe ownChecks => Sys2Proof.Machine.execStewardFault stripe ownChecks s
  | .leaseLapse => Sys2Proof.Machine.execLeaseLapse s
  | .noHolderTimeout => Sys2Proof.Machine.execNoHolderTimeout s
  | .selftestCycle core passed => Sys2Proof.Machine.execSelftestCycle core passed s
  | .revert => Sys2Proof.Machine.execRevert s
  | .callerHalfLost => Sys2Proof.Machine.execCallerHalfLost s
  | .callerLeaseLapse => Sys2Proof.Machine.execCallerLeaseLapse s
  | .callerClaim => Sys2Proof.Machine.execCallerClaim s
  | .callerClaimWin => Sys2Proof.Machine.execCallerClaimWin s
  | .deviceLost index => Sys2Proof.Machine.execDeviceLost index s
  | .sourceSilent source => Sys2Proof.Machine.execSourceSilent source s
  | .holdLimitExpiry => Sys2Proof.Machine.execHoldLimitExpiry s
  | .laneTrainingDone lane => Sys2Proof.Machine.execLaneTrainingDone lane s
  | .linkFrameTimeout lane => Sys2Proof.Machine.execLinkFrameTimeout lane s
  | .ptpDelayReqSend lane t3 => Sys2Proof.Machine.execPtpDelayReqSend lane t3 s
  | .announceReceiptTimeout lane master => Sys2Proof.Machine.execAnnounceReceiptTimeout lane master s
  | .busMasterEnableSet => Sys2Proof.Machine.execBusMasterEnableSet s
  | .pciePerstRelease => Sys2Proof.Machine.execPciePerstRelease s
  | .porstAssert => Sys2Proof.Machine.execPorstAssert s
  | .railDipRecovery => Sys2Proof.Machine.execRailDipRecovery s
  | .jtagInstruction op => Sys2Proof.Machine.execJtagInstruction op s
  | .transferComplete => Sys2Proof.Machine.execTransferComplete s
  | .memTrainDone eyes => Sys2Proof.Machine.execMemTrainDone eyes s
  | .freezeAcknowledge => Sys2Proof.Machine.execFreezeAcknowledge s
  | .leaseRenew => Sys2Proof.Machine.execLeaseRenew s
  | .stewardStatus stripe => Sys2Proof.Machine.execStewardStatus stripe s
  | .noHolderSecondTimeout => Sys2Proof.Machine.execNoHolderSecondTimeout s
  | .primaryLockTimeout => Sys2Proof.Machine.execPrimaryLockTimeout s

end Sys2Proof.Machine
end

