-- ==== Sys2Proof/Safety.lean ====
section
/-! DEFINITION. What a safe run is, and when a command packet is taken and executed at once, in the terms that claims use. -/

namespace Sys2Proof.Safety
open Sys2Proof Sys2Proof.Machine

/-- Device DRAM is in its canonical form. -/
def Canonical (s : State) : Prop := Memory.wf s.mem.dram = true

/-- A step goes on: no fault and no refusal. -/
def GoesOn (s : State) : Prop := ∃ t, step s = .next t

/-! ### A packet that is taken and executed at once (R225 to R232) -/

/-- The path of a packet can take it now: its ring is enabled, not halted and empty, has room for the packet, its executor serves and its
reply ring has room; SMBus holds fewer than four replies; no relayed packet waits. -/
def ready (k : KcpIn) (s : State) : Bool :=
  match pathRing k.path with
  | some r => !s.clk.held && s.pathServed k.path && (s.ring r).mem.isEmpty && s.ringReady r (relayExtra k s) &&
      decide (((s.ring r).prod - (s.ring r).cons).toNat + kUnits k ≤ (s.ring r).cmdUnits)
  | none =>
    match k.path with
    | .smbus => s.gkServes && decide (s.smb.replies.length < 4)
    | _ => s.tamzarServes && s.kcp.meshWaiting.isEmpty

/-- The packet has arrived: the ring's indexes cover it. -/
def arrived (k : KcpIn) (s : State) : State :=
  match pathRing k.path with
  | some r =>
    let u := BitVec.ofNat 32 (kUnits k)
    s.setRing r { s.ring r with prod := (s.ring r).prod + u, cons := (s.ring r).cons + u }
  | none =>
    match k.path with
    | .smbus => { s with smb := { s.smb with nack := false } }
    | _ => s.bump .kcpMeshIn

/-- The number of the packet has not executed: the first of its series, ahead of the highest, or a gap behind it (R231). -/
def unused (k : KcpIn) (s : State) : Bool :=
  match seqCase (s.series k.path) k.seq with
  | .first | .ahead _ | .within => true
  | .executed _ | .stale => false

/-- The packet has been taken, its number entered and its RECEIVE record journaled (R226, R231, R333). A packet
that the caller forms itself has no number of the series (log 22). -/
def entered (op : OpDef) (k : KcpIn) (s : State) : State :=
  if op.xo then journalReceive k.path op.code k false (countTaken (arrived k s)) else enterPacket op k (countTaken (arrived k s))

/-- The packet is accepted for execution at once: it is taken, steps 1 to 9 of R230 pass, no complement that its command uses has failed
(R7), it is neither journal-only, nor relayed, nor a cue. -/
def Accepted (op : OpDef) (k : KcpIn) (s : State) : Prop :=
  ready k s = true ∧ earlyCheck op.code (some op) k = none ∧ kJournalOnly k = false ∧ kExecAt k = false ∧
    (op.xo = true ∨ unused k s = true) ∧ authority op (op.ctx k) s = none ∧ relays (op.ctx k) s = false ∧
    op.fault (op.ctx k) (entered op k s) = false

/-- The answer is committed and sent (R232), as the last step of a packet. -/
def committed (op : OpDef) (k : KcpIn) (s : State) (a : Answer) : State :=
  commitReply (op.ctx k) (bufferResult (op.ctx k) s a).2 0 (bufferResult (op.ctx k) s a).1

/-- Only counters, the journal, the host side, the command record and the SMBus port differ. -/
def Logs (s t : State) : Prop :=
  ∃ ctr alm pcie kcp smb, t = { s with ctr := ctr, alm := alm, pcie := pcie, kcp := kcp, smb := smb }

/-- Command `i` with a packet of opcode `op`, accepted for execution at once: where `ok` holds of the packet, its effective parameter
bytes and the state in which it has been entered, the next state is effect `t`, committed with answer `a`. -/
def Does (i : KcpIn → Instr) (op : OpDef) (ok : KcpIn → List Byte → State → Prop) (t : KcpIn → List Byte → State → State)
    (a : KcpIn → List Byte → State → Answer) : Prop :=
  ∀ k s, Accepted op k s → ok k (effPar op k) (entered op k s) →
    exec (i k) s = .next (committed op k (t k (effPar op k) (entered op k s)) (a k (effPar op k) (entered op k s)))

/-- Command `i` only reads: it is answered OK with `res`, and nothing is changed but by entering and committing it. -/
def Reads (i : KcpIn → Instr) (op : OpDef) (ok : KcpIn → List Byte → State → Prop) (res : List Byte → State → List Byte) : Prop :=
  Does i op ok (fun _ _ s => s) (fun _ p s => ansOk (res p s))

/-- Command `i` is taken, and its answer is still owed: the next state is `t` of the state in which it has been entered (R229, R339). -/
def Owes (i : KcpIn → Instr) (op : OpDef) (ok : KcpIn → List Byte → State → Prop) (t : KcpIn → List Byte → State → State) : Prop :=
  ∀ k s, Accepted op k s → ok k (effPar op k) (entered op k s) → exec (i k) s = .next (t k (effPar op k) (entered op k s))

end Sys2Proof.Safety
end

