-- ==== Sys2Proof/Certificates/Slice0/Obligations.lean ====
section
/-! DEFINITION. The statements about the machine, for the provers: what each family of commands does, from the rules of spec/. -/

open Sys2Proof Sys2Proof.Machine Sys2Proof.Safety

namespace Sys2Proof.Claims

/-- No condition on the packet or the state. -/
def always (_ : KcpIn) (_ : List Byte) (_ : State) : Prop := True

/-- The page that a PLAN_PUBLISH carries (R376). -/
def pageOf (p : List Byte) : PlanPage :=
  { version := BitVec.ofNat 64 (fieldAt 0 8 p), page := fieldAt 8 2 p, npage := fieldAt 10 2 p, data := p.drop 16 }

/-- The configuration that a RING_CFG asks for (R229). -/
def ringNew (k : KcpIn) (p : List Byte) : RingPending :=
  { k := k, cmdLog2 := fieldAt 2 1 p, rplLog2 := fieldAt 3 1 p, cmdBase := BitVec.ofNat 64 (fieldAt 4 8 p),
    rplBase := BitVec.ofNat 64 (fieldAt 12 8 p), wb := BitVec.ofNat 64 (fieldAt 20 8 p), vector := fieldAt 28 1 p,
    window := decide (fieldAt 29 1 p = 1) }

/-- The packet offset of the first field of a RING_CFG that R229 refuses. -/
def ringFault (p : List Byte) : Option Nat :=
  if fieldAt 0 1 p ≠ 1 ∧ fieldAt 0 1 p ≠ 2 then some 32
  else if fieldAt 2 1 p < 13 ∨ 20 < fieldAt 2 1 p ∨ (fieldAt 29 1 p = 1 ∧ fieldAt 2 1 p ≠ 16) then some 34
  else if fieldAt 3 1 p < 13 ∨ 20 < fieldAt 3 1 p then some 35
  else if fieldAt 29 1 p ≠ 1 ∧ fieldAt 4 8 p % 4096 ≠ 0 then some 36
  else if fieldAt 12 8 p % 4096 ≠ 0 then some 44
  else if fieldAt 20 8 p % 64 ≠ 0 then some 52
  else if 64 ≤ fieldAt 28 1 p then some 60
  else none

/-- A ring with a configuration pending, its reply owed on the Urgent ring (R229). -/
def withPending (r : RingId) (k : KcpIn) (p : List Byte) (s : State) : State :=
  (s.setRing r { s.ring r with pendingCfg := some (ringNew k p) }).setRing .urg
    { (s.setRing r { s.ring r with pendingCfg := some (ringNew k p) }).ring .urg with owed := (s.ring .urg).owed + 1 }

/-- A ring to which its pending configuration has been applied: both indexes 0 (R229). -/
def configured (p : RingPending) (x : Ring) : Ring :=
  { x with
    cmdBase := p.cmdBase, rplBase := p.rplBase, wb := p.wb, cmdLog2 := p.cmdLog2, rplLog2 := p.rplLog2, vector := p.vector,
    window := p.window, cons := 0, prod := 0, rplProd := 0, rplCons := 0, mem := [], dma := [], pendingCfg := none }

/-- The caller lease goes to the standby caller, with the next TERM, in one heartbeat (R320). -/
def leaseGiven (s : State) : State :=
  let word := callerWord s.mesh.standbyIndex (callerTerm s.callerLease + 1)
  let t := sendHeartbeat { heartbeatNow s with lease := word, leaseN := ~~~ word } s
  { t with mesh := { t.mesh with lease := word, leaseN := ~~~ word, leaseAt := t.now, hbAt := t.now, standbyIndex := 0x3FF } }

/-- TARGET of BEAM_SWAP: bank and epoch (R120). -/
def target (p : List Byte) : Bool × Bool := (fieldAt 2 1 p % 2 = 1, fieldAt 2 1 p / 2 = 1)

/-- The delay entries that a BEAM_DELAY_WRITE writes (R113, R114). -/
def delays (p : List Byte) : List DelayEntry :=
  (List.range (fieldAt 14 2 p)).map fun i =>
    { epoch := fieldAt 2 1 p = 1, beam := fieldAt 0 2 p, input := fieldAt 12 2 p + i, c0 := intAt (20 + 12 * i) 5 p,
      c1 := intAt (25 + 12 * i) 4 p, c2 := intAt (29 + 12 * i) 3 p }

/-- The delay entries outside the range that a BEAM_DELAY_WRITE writes. -/
def others (p : List Byte) (xs : List DelayEntry) : List DelayEntry :=
  xs.filter fun g => !(g.epoch = (fieldAt 2 1 p = 1) && g.beam = fieldAt 0 2 p &&
    decide (fieldAt 12 2 p ≤ g.input ∧ g.input < fieldAt 12 2 p + fieldAt 14 2 p))

/-- T_REF of the epoch, where SET_T_REF is 1 (R113). -/
def withTref (p : List Byte) (x : BeamTables) : BeamTables :=
  if fieldAt 3 1 p = 1 then
    x.onBeam (fieldAt 0 2 p) fun d => if fieldAt 2 1 p = 1 then { d with tref1 := BitVec.ofNat 64 (fieldAt 4 8 p) }
      else { d with tref0 := BitVec.ofNat 64 (fieldAt 4 8 p) }
  else x

/-- Fades that cover a sample (R121, R122). -/
def fadesAt (s : State) (x : Nat) : Nat := (s.beams.swaps.filter fun f => decide (0 < f.k ∧ f.s0 ≤ x ∧ x < f.s0 + f.k)).length

/-- A coefficient bank after a RIDDLE_COEF_WRITE of its taps (R131, R135). -/
def coefs (p : List Byte) (b : SieveBank) : SieveBank :=
  { len := fieldAt 2 2 p
    taps := (coefWriteRun.fit256 b.taps).zipIdx.map fun (h, t) =>
      if fieldAt 10 2 p ≤ t ∧ t < fieldAt 10 2 p + fieldAt 12 2 p then int18 (fieldAt (16 + 4 * (t - fieldAt 10 2 p)) 4 p) else h
    coarseGain := intAt 4 4 p, oshift := fieldAt 8 1 p }

/-- No sub-region of a region is POSTING, FROZEN or DRAINING (R181). -/
def holdsNothing (r : Region) : Prop :=
  r.subs.any (fun x => x.state == .posting || x.state == .frozen || x.state == .draining) = false

/-- The trigger of a CAPTURE_TRIGGER that names its sample (R172). -/
def fieldTrig (p : List Byte) (s : State) : Trig :=
  { sTrig := fieldAt 4 8 p % 2 ^ 48, fraction := BitVec.ofNat 32 (fieldAt 12 4 p), kind := 3, line := 0,
    device := s.mesh.index.toNat, time16 := if s.time.epochSet then s.sampleTime (fieldAt 4 8 p) else s.time16 }

/-- A drained sub-region is FROZEN again, or released with AUTO_RELEASE, and the capture event is raised (R184). -/
def drained (i j : Nat) (s : State) : State :=
  let t := s.onRegion i fun r => r.onSub j fun x => { x with state := .frozen, drain := none, drained := true }
  raiseEvent 1 (if (t.region i).cfg.autoRelease then t.onRegion i (releaseSub j) else t)

/-- The bytes that an ALMANAC_READ writes (R341). -/
def recordsFrom (p : List Byte) (s : State) : List Byte :=
  s.readFrom (s.alm.ring.length + s.alm.mirror.length + s.alm.queue.length) (fieldAt 0 8 p) (fieldAt 8 4 p) (fieldAt 24 8 p)

/-- An entry of the table after the CONFIRM of the entry with a place (R215). -/
def confirmed (id : Nat) (e : CueEntry) : CueEntry := if e.id = id && e.good then CueEntry.sealed { e with tentative := false } else e

/-- One more reply is owed on a ring (R227). -/
def oweOne (r : RingId) (s : State) : State := s.setRing r { s.ring r with owed := (s.ring r).owed + 1 }

/-- The frame of a TRIGGER (R261). -/
def trigFrame (l : Fin 128) (src : Nat) (n : W32) (b : TrigBody) : MeshFrame :=
  { lane := l, type := 0x14, src := src, dest := destField 3 0, fseq := n, body := trigBytes b }

/-- A frame that its lane has received, with LINK_SEQ as expected (R254, R269). -/
def recv (l : Fin 128) (s : State) : State := nextLink l (receivedOn l s)

/-- Lane `l` is open to Fjotranu frames, has the mesh role and is up (R253, R255). -/
def meshOpen (l : Fin 128) (s : State) : Prop := s.fjOpen l = true ∧ s.role l = 3 ∧ s.laneUp l = true

/-- The frame of a HEARTBEAT with SCOPE SYSTEM (R259). -/
def beatFrame (l : Fin 128) (src : Nat) (n : W32) (b : HeartbeatBody) : MeshFrame :=
  { lane := l, type := 0x11, src := src, dest := destField 3 0, fseq := n, body := heartbeatBytes b }

/-- The frame of a relayed packet (R262). -/
def packetFrame (l : Fin 128) (src : Nat) (n : W32) (d : BitVec 12) (p : List Byte) : MeshFrame :=
  { lane := l, type := 0x15, src := src, dest := d.setWidth 16, fseq := n, body := p }

/-- The TIME_RESP to a request that arrived at `t4`, sent at `t1` (R260). -/
def timeAnswer (src : Nat) (b : TimeBody) (t4 t1 : Int) (s : State) : State :=
  let (q, u) := takeFseq 0x13 s
  meshOut { lane := 0, type := 0x13, src := u.srcIndex, dest := destField 1 src, fseq := q,
            body := timeBody { exch := b.exch, notSynced := !u.time.synced, t1 := t1, t4 := t4, corrReq := b.corrReq, corrResp := 0 } } u

/-- The TIME_REQ of a child's next exchange, sent at `t3` (R260). -/
def timeAsked (t3 : Int) (s : State) : State :=
  let u := { s with time := { s.time with exch := s.time.exch + 1, exchT3 := t3, exchFrc := s.now } }
  let (q, v) := takeFseq 0x12 u
  meshOut { lane := 0, type := 0x12, src := v.srcIndex, dest := destField 1 v.timeParent, fseq := q,
            body := timeBody { exch := s.time.exch + 1, notSynced := false, t1 := 0, t4 := 0, corrReq := 0, corrResp := 0 } } v

/-- The measurement of a mesh time exchange (R260). -/
def meshError (b : TimeBody) (t2 : Int) (s : State) : Int :=
  ((t2 - b.t1 - b.corrResp) - (b.t4 - s.time.exchT3 - b.corrReq)) / 2

/-- The LINK frame of a lane (R255). -/
def linkBeat (l : Fin 128) (s : State) : MeshFrame :=
  { lane := l, type := 0x10, src := s.srcIndex, dest := 0,
    body := le8 s.birth.toNat ++ le2 s.srcIndex ++ le 1 s.mesh.segment ++ le 1 l.val ++ le 1 (s.role l) ++ zeros 3 ++ le8 s.planVersion ++ zeros 8 }

/-- The ARP reply of an Ethernet lane to the asker with these addresses (R249). -/
def arpReply (l : Fin 128) (mac ip : List Byte) (s : State) : List Byte :=
  mac ++ s.macOf l ++ (if (s.lane l).vlan = 0 then [] else [0x81, 0x00] ++ be 2 (s.lane l).vlan) ++
    ([0x08, 0x06] ++ be 2 1 ++ be 2 0x0800 ++ [6, 4] ++ be 2 2 ++ s.macOf l ++ (s.lane l).ipv4 ++ mac ++ ip)

/-- The level of a TRIG line (R174). -/
def withLevel (line : Fin 8) (r : Bool) (s : State) : State :=
  { s with cf := { s.cf with trigLevel := if r then s.cf.trigLevel ||| BitVec.ofNat 8 (2 ^ line.val)
                                          else s.cf.trigLevel &&& ~~~ BitVec.ofNat 8 (2 ^ line.val) } }

/-- The TIME cues that a CUE_RUN of one runs: those of its point that were accepted no later (R213). -/
def sameTime (e : CueEntry) (s : State) : List CueEntry :=
  (s.cues.entries.filter fun x => decide (x.id ≤ e.id) && x.point == e.point).filter (samePoint e)

/-- A replay whose results do not all fit waits for the result buffer (R351). -/
def resultsOut (s : State) : State := if s.replaying && !s.rpl.outbox.isEmpty then setReplay 4 0 s else s

/-- Steps 1 to 4 of R230 pass: MAGIC_VER, PLEN, the CRC and the complement. -/
def framed (code : BitVec 16) (k : KcpIn) : Prop :=
  k.magicVer = 0xCA51 ∧ k.plen.toNat ≤ 4064 ∧ k.plen.toNat % 4 = 0 ∧ k.crc = kCrc code k ∧ k.opcodeN = ~~~ code

/-- The device address of an access through BAR4 (R357). -/
def bar4 (off : W32) (s : State) : Nat := min s.pcie.aperture.toNat 124 * 2 ^ 30 + off.toNat

end Sys2Proof.Claims

/-! ### Commands that read -/

/-- R323, R344, R345, R269, R289, R300, R352, R328, R214, R216: what IDENT, SURVEY_GET of a range that its kind has, SURVEY_SNAPSHOT,
LANE_STATUS_GET of lanes below 128, TIME_READ, CUE_LIST_GET, MEM_STATUS_GET of a channel below 16, SPARE_MAP_GET, REPLAY_STATUS_GET and
MARGIN_GET answer; each is answered OK and changes nothing else, but that SURVEY_SNAPSHOT refreshes the survey copy and MARGIN_GET reads free
sensor values. After a failed training MEM_STATUS_GET and REPLAY_STATUS_GET are BUSY with STATE 4 on the rings of Tamzar.
Rests on log 41, 65, 66 and 152. -/
def Obligations.DeviceReadsAnswer : Prop :=
  Reads .ident opIdent Claims.always (fun _ s => identResult s) ∧
  (∀ m, Reads .surveyGet opSurveyGet
    (fun _ p _ => surveyIndexes (fieldAt 0 2 p) = some m ∧ fieldAt 2 2 p < m ∧ fieldAt 2 2 p + fieldAt 4 2 p ≤ m)
    (fun p s => paged (fieldAt 8 4 p)
      ((List.range (fieldAt 4 2 p)).map fun i => surveyOf (fieldAt 0 2 p) (fieldAt 2 2 p + i) s).flatten)) ∧
  Does .surveySnapshot opSurveySnapshot Claims.always (fun _ _ s => refreshCopy s) (fun _ _ s => ansOk (snapshot (refreshCopy s))) ∧
  Reads .laneStatusGet opLaneStatusGet (fun _ p _ => fieldAt 0 1 p < 128 ∧ fieldAt 0 1 p + fieldAt 1 1 p ≤ 128)
    (fun p s => paged (fieldAt 4 4 p) ((List.range (fieldAt 1 1 p)).map fun i => laneRecord (fieldAt 0 1 p + i) s).flatten) ∧
  Reads .timeRead opTimeRead Claims.always
    (fun _ s => time10 s.time16 ++ zeros 2 ++ le8 s.time.frc.toNat ++ le4 (tmStatus s).toNat) ∧
  Reads .cueListGet opCueListGet Claims.always (fun p s => paged (fieldAt 0 4 p) (cueListing s)) ∧
  Reads .memStatusGet opMemStatusGet (fun _ p s => s.boot.trainFail = false ∧ fieldAt 0 1 p < 16)
    (fun p s => chanRecord (fieldAt 0 1 p) s) ∧
  Reads .spareMapGet opSpareMapGet Claims.always
    (fun _ s => le2 s.plan.mapGen.toNat ++ zeros 2 ++ s.cells.spareMap ++ s.cells.spareMapN) ∧
  Reads .replayStatusGet opReplayStatusGet (fun _ _ s => s.boot.trainFail = false) (fun _ s => progressRecord s.rpl) ∧
  (∀ i op, (i, op) ∈ [(Instr.memStatusGet, opMemStatusGet), (.replayStatusGet, opReplayStatusGet)] →
    Does i op (fun k _ s => s.boot.trainFail = true ∧ k.path ≠ .gkr ∧ k.path ≠ .smbus) (fun _ _ s => s) (fun _ _ _ => ansBusy 4)) ∧
  Does .marginGet opMarginGet Claims.always (fun _ _ s => readStripes s) (fun _ _ s =>
    ansOk (le 1 (bitOf s.cells.marginMode) ++ zeros 1 ++ (s.cells.margin.map (le 1 ·)).flatten ++
      ((List.range 10).map fun i => opMarginGet.stripeBytes i (readStripes s)).flatten ++ zeros 4))

/-- R402, R160, R107, R89, R110, R176, R180: what PLAN_GET, PLAN_TABLE_GET and BASELINE_GET answer of the plan they name (the latter two of one
that was computed), INTEG_STATUS_GET of channels of the active plan (COUNT_COARSE where one of them counts coarse), BEAM_GET of a beam below
256 under an active plan, CAPTURE_STATUS_GET of a region below 8, and CAPTURE_MISSED_GET, which also empties the list that it answers.
Rests on log 12 and 42. -/
def Obligations.PlanAndCaptureReadsAnswer : Prop :=
  (∀ p0 st, Reads .planGet opPlanGet (fun _ p s => whichPlan p s = .inl (p0, st))
    (fun p s => paged (fieldAt 4 4 p) (planRecord p0 st s))) ∧
  (∀ p0 st, st ≠ 3 → Reads .planTableGet opPlanTableGet (fun _ p s => whichPlan p s = .inl (p0, st))
    (fun p s => paged (fieldAt 4 4 p) (placementTable p0 s))) ∧
  (∀ p0 st, st ≠ 3 → Reads .baselineGet opBaselineGet (fun _ p s => whichPlan p s = .inl (p0, st))
    (fun p s => paged (fieldAt 4 4 p) (baselineTable (s.layoutPlan p0 st)))) ∧
  (∀ p0, Does .integStatusGet opIntegStatusGet
    (fun _ p s => s.plan.active = some p0 ∧ fieldAt 0 2 p < p0.C ∧ fieldAt 0 2 p + fieldAt 2 2 p ≤ p0.C)
    (fun _ _ s => s)
    (fun _ p s =>
      let ds := (List.range (fieldAt 2 2 p)).map fun i => s.chanDesc (fieldAt 0 2 p + i)
      { status := if ds.any (fun d => d.coarse > 0) then .countCoarse else .ok
        result := paged (fieldAt 4 4 p) (ds.map descBytes).flatten })) ∧
  Reads .beamGet opBeamGet (fun _ p s => s.plan.active.isSome = true ∧ fieldAt 0 2 p < 256)
    (fun p s => (s.beams.next.beam (fieldAt 0 2 p)).bytes) ∧
  Reads .captureStatusGet opCaptureStatusGet (fun _ p s => s.boot.trainFail = false ∧ fieldAt 0 1 p < 8)
    (fun p s => le4 (regionStatus (s.region (fieldAt 0 1 p))).toNat ++ ((s.region (fieldAt 0 1 p)).subs.map subStatus).flatten) ∧
  Does .captureMissedGet opCaptureMissedGet (fun _ _ s => s.boot.trainFail = false)
    (fun _ _ s => { s with cf := { s.cf with missed := [] } })
    (fun _ _ s => ansOk (le4 s.cf.missed.length ++ (s.cf.missed.map MissedTrig.bytes).flatten))

/-! ### Host, parameters and margins -/

/-- R241, R242: ECHO returns its parameter bytes; PARAM_GET returns the values of the IDs named; PARAM_SET applies its entries in order,
all or none, and each entry that does not name a parameter, whose complement differs or whose value lies outside its range refuses
the whole packet.
Rests on log 11 and 97. -/
def Obligations.EchoAndParameters : Prop :=
  Reads .echo opEcho Claims.always (fun p _ => p) ∧
  Reads .paramGet opParamGet (fun _ p _ => ∀ e ∈ paramEntries 4 p, paramKnown (fieldAt 0 2 e.2) = true)
    (fun p s => ((paramEntries 4 p).map fun e => le4 (paramValue (fieldAt 0 2 e.2) s).toNat).flatten) ∧
  Does .paramSet opParamSet (fun _ p _ => ∀ e ∈ paramEntries 12 p, paramFault e.1 e.2 = none)
    (fun _ p s => (paramEntries 12 p).foldl (fun s e => paramWrite (fieldAt 0 2 e.2) (BitVec.ofNat 32 (fieldAt 4 4 e.2)) s) s)
    (fun _ _ _ => ansOk) ∧
  Does .paramSet opParamSet (fun _ p _ => ∃ e ∈ paramEntries 12 p, paramFault e.1 e.2 ≠ none) (fun _ _ s => s)
    (fun _ p _ => (paramRefusal p).getD ansOk) ∧
  (∀ p, (∃ e ∈ paramEntries 12 p, paramFault e.1 e.2 ≠ none) → ∃ a, paramRefusal p = some a ∧ statusRefused a.status = true)

/-- R324: SAFE_STOP with a MODE of 0 to 2 takes its actions and is answered OK, and a MODE above 2 is refused. After the actions of any MODE the
device is stopped, a MODE that was higher stays, every egress and mesh transmitter is quiet, PCI Express DMA is stopped, Tamzar takes no
packets and DRAM keeps its contents; with no RMW pass in progress the arrays stop from MODE 1 on, and in MODE 2 the DRAM is in self-refresh,
no stripe is powered and the X die does not run. MODE 0 lets the arrays run on. With an RMW pass in progress MODE 1 and 2 wait, the arrays
running on, until the wait ends, which completes the actions of MODE 2.
Rests on log 149. -/
def Obligations.SafeStopActs : Prop :=
  Does .safeStop opSafeStop (fun _ p _ => fieldAt 0 1 p ≤ 2) (fun _ p s => safeStop (fieldAt 0 1 p) s) (fun _ _ _ => ansOk) ∧
  Does .safeStop opSafeStop (fun _ p _ => 2 < fieldAt 0 1 p) (fun _ _ s => s) (fun _ _ _ => ansField 32) ∧
  (∀ m s, let t := safeStop m s
    t.gk.stopped = true ∧ t.gk.mode = (if s.gk.stopped then max m s.gk.mode else m) ∧ t.pcie.dmaStopped = true ∧
    (∀ l < 128, (s.role l = 2 ∨ s.role l = 3) → s.lanes.lane.length = 128 → (t.lane l).txQuiet = true) ∧
    t.tamzarServes = false ∧ t.mem.dram = s.mem.dram) ∧
  (∀ m s, s.rmw.pass = none → let t := safeStop m s
    (1 ≤ t.gk.mode → t.arraysRun = false) ∧
    (t.gk.mode = 2 → t.mem.selfRefresh = true ∧ t.cells.powered = 0 ∧ t.dieRuns = false)) ∧
  (∀ s, s.gk.stopped = false → (safeStop 0 s).arraysRun = s.arraysRun) ∧
  (∀ m s, s.arraysRun = true → s.gk.stopped = false → s.gk.commitWait = false → s.rmw.pass ≠ none → 1 ≤ m →
    (safeStop m s).arraysRun = true ∧ (safeStop m s).gk.commitWait = true ∧ (safeStop m s).gk.stoppedAt = s.now) ∧
  (∀ cut s, let t := endStopWait cut s
    t.gk.commitWait = false ∧ (s.gk.stopped = true → 1 ≤ s.gk.mode → t.arraysRun = false) ∧
    (s.gk.mode = 2 → t.mem.selfRefresh = true ∧ t.cells.powered = 0))

/-- R326, R327: MARGIN_SET of a stripe below 10 sets its steps, at most 8 and then CLAMPED: at once while no plan is active, and entered for the
next dwell boundary under a plan; of no other stripe it is refused. MARGIN_MODE of 0 or 1 changes the mode alone and any other is refused.
Steps that are applied to a stripe are those of that stripe alone, the newest health record holds them, and a health record that is applied at
power-up restores them. -/
def Obligations.MarginsAreSetAndKept : Prop :=
  Does .marginSet opMarginSet (fun _ p s => fieldAt 0 1 p < 10 ∧ s.plan.active = none)
    (fun _ p s => applyMargin (fieldAt 0 1 p) (min (fieldAt 1 1 p) 8) s)
    (fun _ p _ => { status := if 8 < fieldAt 1 1 p then .clamped else .ok, result := le 1 (min (fieldAt 1 1 p) 8) ++ zeros 3 }) ∧
  Does .marginSet opMarginSet (fun _ p s => fieldAt 0 1 p < 10 ∧ s.plan.active ≠ none)
    (fun _ p s => { s with cells := { s.cells with
      marginNext := s.cells.marginNext.filter (·.1 ≠ fieldAt 0 1 p) ++ [(fieldAt 0 1 p, min (fieldAt 1 1 p) 8)] } })
    (fun _ p _ => { status := if 8 < fieldAt 1 1 p then .clamped else .ok, result := le 1 (min (fieldAt 1 1 p) 8) ++ zeros 3 }) ∧
  Does .marginSet opMarginSet (fun _ p _ => 10 ≤ fieldAt 0 1 p) (fun _ _ s => s) (fun _ _ _ => ansField 32) ∧
  Does .marginMode opMarginMode (fun _ p _ => fieldAt 0 1 p ≤ 1)
    (fun _ p s => { s with cells := { s.cells with marginMode := decide (fieldAt 0 1 p = 1) } }) (fun _ _ _ => ansOk) ∧
  Does .marginMode opMarginMode (fun _ p _ => 1 < fieldAt 0 1 p) (fun _ _ s => s) (fun _ _ _ => ansField 32) ∧
  (∀ st n s, st < s.cells.margin.length → (applyMargin st n s).cells.margin.getD st 0 = n ∧
    (applyMargin st n s).cells.marginNext = s.cells.marginNext ∧
    ∀ o, o ≠ st → (applyMargin st n s).cells.margin.getD o 0 = s.cells.margin.getD o 0) ∧
  (∀ st n s, s.healthSerial.toNat + 1 < 2 ^ 32 → ∃ h, (applyMargin st n s).healthNewest = some h ∧
    h.margin = (applyMargin st n s).cells.margin) ∧
  (∀ h rep s, (applyHealth h rep s).cells.margin = h.margin)

/-! ### Plans, systems, rings -/

/-- R138, R150, R157, R376: PLAN_SUBMIT, without a point, with items that fit starts the computation of the request that they make of the one in
force and answers with the version that the plan will carry; while a plan is being computed or is pending it answers BUSY and starts none; an
item that does not stand, or a request that it makes impossible, is refused at its field; after a failed training it is BUSY with STATE 4. A
page of a PLAN_PUBLISH that does not complete the pages of its version is kept with the others of its version, in place of an earlier page of
its number.
Rests on log 11 and 152. -/
def Obligations.PlanSubmitStartsOneComputation : Prop :=
  (∀ items r, Does .planSubmit opPlanSubmit
    (fun _ p s => s.boot.trainFail = false ∧ (parseItems p.length 32 p).1 = some items ∧ s.plan.computing = none ∧ s.plan.pendingPlan = none ∧
      repeatedItem items [] = none ∧ planItems items s.baseRequest = .inl r ∧
      requestFault r.withWidth s.plan.request.isSome items (32 + p.length) = none)
    (fun _ _ s => { s with plan := { s.plan with
      computing := some { cause := 1, req := r.withWidth, version := nextVersion 1 (s.layoutBit r.withWidth) false s,
                          startedAt := s.now }
      serial := s.plan.serial + 1 } })
    (fun _ _ s => ansAccepted (le8 (nextVersion 1 (s.layoutBit r.withWidth) false s).toNat))) ∧
  Does .planSubmit opPlanSubmit
    (fun _ p s => s.boot.trainFail = false ∧ (parseItems p.length 32 p).1.isSome = true ∧
      (s.plan.computing.isSome = true ∨ s.plan.pendingPlan.isSome = true))
    (fun _ _ s => s) (fun _ _ s => ansBusy s.planCode) ∧
  (∀ items o, Does .planSubmit opPlanSubmit
    (fun _ p s => s.boot.trainFail = false ∧ (parseItems p.length 32 p).1 = some items ∧ s.plan.computing = none ∧ s.plan.pendingPlan = none ∧
      (repeatedItem items [] = some o ∨ (repeatedItem items [] = none ∧ (planItems items s.baseRequest = .inr o ∨
        ∃ r, planItems items s.baseRequest = .inl r ∧ requestFault r.withWidth s.plan.request.isSome items (32 + p.length) = some o))))
    (fun _ _ s => s) (fun _ _ _ => ansField o)) ∧
  Does .planSubmit opPlanSubmit (fun k _ s => s.boot.trainFail = true ∧ k.path ≠ .gkr ∧ k.path ≠ .smbus) (fun _ _ s => s)
    (fun _ _ _ => ansBusy 4) ∧
  Does .planPublish opPlanPublish
    (fun _ p s => fieldAt 8 2 p < fieldAt 10 2 p ∧
      pagesDone (BitVec.ofNat 64 (fieldAt 0 8 p)) (fieldAt 10 2 p)
        (s.plan.pages.filter (fun x => x.version = BitVec.ofNat 64 (fieldAt 0 8 p) && x.npage = fieldAt 10 2 p &&
          x.page ≠ fieldAt 8 2 p) ++ [Claims.pageOf p]) = none)
    (fun _ p s => { s with plan := { s.plan with
      pages := s.plan.pages.filter (fun x => x.version = BitVec.ofNat 64 (fieldAt 0 8 p) && x.npage = fieldAt 10 2 p &&
        x.page ≠ fieldAt 8 2 p) ++ [Claims.pageOf p] } })
    (fun _ _ _ => ansOk)

/-- R374, R375, R377, R320: SYSTEM_JOIN with MODE 0 or 1 and a SEGMENT of 0 to 31 makes a system of one whose first eight lanes are Fjotranu
lanes found or join a system, and is refused for any other MODE, SEGMENT or mode of those lanes, and BUSY under a plan or out of a system of
one. FOUND_LISTEN_END makes a founder the caller of a system with TERM 1, and its only voter. JOIN_TIMEOUT of a joiner without a plan, and
SYSTEM_LEAVE with no plan active, make the device a system of one; SYSTEM_LEAVE under a plan, without a point, acts at the next sweep; a caller
with other members refuses it. CALLER_HANDOVER to a standby caller that is heard gives it the caller lease with the next TERM in one heartbeat,
and this device stops carrying the lease; without one it is refused.
Rests on log 16, 56 and 64. -/
def Obligations.SystemMembership : Prop :=
  Does .systemJoin opSystemJoin
    (fun _ p s => fieldAt 0 1 p ≤ 1 ∧ fieldAt 1 1 p ≤ 31 ∧ s.plan.active = none ∧ s.boot.system = 0 ∧
      ∀ l < 8, (s.lane l).fj = true)
    (fun _ p s => { startJoining { s with mesh := { s.mesh with segment := fieldAt 1 1 p } } with
      mesh := { (startJoining { s with mesh := { s.mesh with segment := fieldAt 1 1 p } }).mesh with
        founding := decide (fieldAt 0 1 p = 0) } })
    (fun _ _ _ => ansAccepted) ∧
  Does .systemJoin opSystemJoin
    (fun _ p s => 1 < fieldAt 0 1 p ∨ (fieldAt 1 1 p ≤ 31 ∧ s.plan.active = none ∧ s.boot.system = 0 ∧ ∃ l < 8, (s.lane l).fj = false))
    (fun _ _ s => s) (fun _ _ _ => ansField 32) ∧
  Does .systemJoin opSystemJoin (fun _ p _ => fieldAt 0 1 p ≤ 1 ∧ 31 < fieldAt 1 1 p) (fun _ _ s => s) (fun _ _ _ => ansField 33) ∧
  Does .systemJoin opSystemJoin
    (fun _ p s => fieldAt 0 1 p ≤ 1 ∧ fieldAt 1 1 p ≤ 31 ∧ (s.plan.active.isSome = true ∨ s.boot.system ≠ 0))
    (fun _ _ s => s) (fun _ _ s => ansBusy (if s.plan.active.isSome then s.planCode else s.boot.system)) ∧
  (∀ s, (startJoining s).boot.system = 1 ∧ (startJoining s).mesh.caller = false ∧ (startJoining s).mesh.segment = s.mesh.segment ∧
    (startJoining s).mesh.joinAt = s.now) ∧
  Does .systemLeave opSystemLeave (fun _ _ s => s.mayNotLeave = false ∧ s.plan.active = none)
    (fun _ _ s => raiseEvent 4 (systemOfOne s)) (fun _ _ _ => ansAccepted) ∧
  Does .systemLeave opSystemLeave (fun _ _ s => s.mayNotLeave = false ∧ s.plan.active.isSome = true)
    (fun _ _ s => { s with mesh := { s.mesh with leaveAt := some s.nextSweep } }) (fun _ _ _ => ansAccepted) ∧
  Does .systemLeave opSystemLeave (fun _ _ s => s.boot.system = 2 ∧ s.mesh.caller = true ∧ 1 < s.members.length)
    (fun _ _ s => s) (fun _ _ _ => ansBusy 2) ∧
  Does .callerHandover opCallerHandover
    (fun _ _ s => s.boot.system = 2 ∧ s.mesh.standbyIndex ≠ 0x3FF ∧ (s.heardAt s.now 250000).any (·.index = s.mesh.standbyIndex) = true)
    (fun _ _ s => stopCarrying (Claims.leaseGiven s)) (fun _ _ _ => ansOk) ∧
  Does .callerHandover opCallerHandover
    (fun _ _ s => s.boot.system ≠ 2 ∨ s.mesh.standbyIndex = 0x3FF ∨ (s.heardAt s.now 250000).any (·.index = s.mesh.standbyIndex) = false)
    (fun _ _ s => s) (fun _ _ _ => ansRefuse .noSpare) ∧
  (∀ s, (stopCarrying s).mesh.caller = false ∧ (stopCarrying s).mesh.carrying = false ∧ (stopCarrying s).mesh.lease = s.mesh.lease) ∧
  (∀ s, s.mesh.founding = true → s.tamzarServes = true → ∃ t, exec .foundListenEnd s = .next t ∧
    t.boot.system = 2 ∧ t.mesh.caller = true ∧ t.mesh.lead = true ∧ t.mesh.index = 0 ∧ t.callerLease = callerWord 0 1 ∧
    t.mesh.voters = [{ index := 0, birth := s.birth }] ∧ t.mesh.founding = false) ∧
  (∀ s, s.boot.system = 1 → s.mesh.founding = false → s.plan.pendingPlan = none → s.tamzarServes = true →
    ∃ t, exec .joinTimeout s = .next t ∧ t.boot.system = 0 ∧ t.mesh.caller = true ∧ t.mesh.index = 0 ∧
      t.mesh.segment = s.mesh.segment) ∧
  (∀ s, (systemOfOne s).boot.system = 0 ∧ (systemOfOne s).mesh.caller = true ∧ (systemOfOne s).mesh.lead = true)

/-- R229: a RING_CFG that is sent on the Urgent ring and whose fields stand stays pending on the Normal or Bulk ring, its reply owed; one that
replaces a pending one has that one answered RING_CFG_IGNORED and counted; one with a field that does not stand is refused at that field.
RING_CFG_APPLY applies a pending configuration, with both indexes 0, and answers it OK once its ring is idle, and does nothing while the ring
is not idle or has none pending. Answering changes neither the Normal nor the Bulk ring. -/
def Obligations.RingCfgWaitsForItsRing : Prop :=
  (∀ r : RingId, (r = .nrm ∨ r = .blk) → Owes .ringCfg opRingCfg
    (fun k p s => k.path = .urg ∧ fieldAt 0 1 p = ringNum r ∧ Claims.ringFault p = none ∧ (s.ring r).pendingCfg = none)
    (fun k p s => Claims.withPending r k p s)) ∧
  (∀ (r : RingId) old, (r = .nrm ∨ r = .blk) → Owes .ringCfg opRingCfg
    (fun k p s => k.path = .urg ∧ fieldAt 0 1 p = ringNum r ∧ Claims.ringFault p = none ∧ (s.ring r).pendingCfg = some old)
    (fun k p s => Claims.withPending r k p ((answerRingCfg old (ansRefuse .ringCfgIgnored) s).bump .kcpRingCfgIgnored))) ∧
  (∀ f, Does .ringCfg opRingCfg (fun _ p _ => Claims.ringFault p = some f) (fun _ _ s => s) (fun _ _ _ => ansField f)) ∧
  (∀ r p s, (s.ring r).pendingCfg = some p → s.tamzarServes = true → (s.ring r).cons = (s.ring r).prod → s.owedOn r = 0 →
    exec (.ringCfgApply r) s = .next (answerRingCfg p ansOk (s.setRing r (Claims.configured p (s.ring r))))) ∧
  (∀ r s, ((s.ring r).pendingCfg = none ∨ (s.ring r).cons ≠ (s.ring r).prod ∨ s.owedOn r ≠ 0) → exec (.ringCfgApply r) s = .next s) ∧
  (∀ p a r s, p.k.path = .urg → (r = .nrm ∨ r = .blk) → (answerRingCfg p a s).ring r = s.ring r)

/-! ### Integration, beams, sieves -/

/-- R90, R102, R103: under a plan, without a point: INTEG_CFG with parameters that stand is taken for the next sweep and answers the first sample
of the integration boundary at or after it, all ones while no integration runs; with parameters that do not stand it is refused. INTEG_START has
no effect while integrations run, starts new ones at the next sweep when none runs and no flush pass is left, and otherwise waits for the
flush passes. INTEG_STOP ends running integrations at the next sweep and has no effect otherwise. Each is BUSY while no plan is active.
Parameters that are taken while no integration runs are those of the next start; while integrations run they are an era from its boundary on,
and an integration that begins before the boundary keeps its parameters.
Rests on log 33 and 128. -/
def Obligations.IntegrationCommandsAct : Prop :=
  (∀ p0, Does .integCfg opIntegCfg (fun _ p s => s.plan.active = some p0 ∧ integRefusal p0 (integParams p) s = none)
    (fun _ p s => applyInteg (integParams p) s.nextSweep s)
    (fun _ _ s => ansOk (effBytes p0 (s.integBoundary s.nextSweep)))) ∧
  (∀ p0 a, Does .integCfg opIntegCfg (fun _ p s => s.plan.active = some p0 ∧ integRefusal p0 (integParams p) s = some a)
    (fun _ _ s => s) (fun _ _ _ => a)) ∧
  (∀ i op, (i, op) ∈ [(Instr.integCfg, opIntegCfg), (.integStart, opIntegStart), (.integStop, opIntegStop)] →
    Does i op (fun _ _ s => s.plan.active = none) (fun _ _ s => s) (fun _ _ s => ansBusy s.planCode)) ∧
  (∀ c r s, s.integrating = false → applyInteg c r s = { s with rmw := { s.rmw with nextCfg := some c } }) ∧
  (∀ c r k s, s.integrating = true → s.integBoundary r = some k →
    (applyInteg c r s).rmw.eras = s.rmw.eras.filter (fun e => match e.start with | some a => decide (a < k) | none => true) ++
      [{ start := some k, cfg := c }] ∧ (applyInteg c r s).rmw.desc = s.rmw.desc) ∧
  Does .integStart opIntegStart (fun _ _ s => s.plan.active.isSome = true ∧ s.integrating = true) (fun _ _ s => s)
    (fun _ _ _ => ansOk) ∧
  (∀ p0, Does .integStart opIntegStart
    (fun _ _ s => s.plan.active = some p0 ∧ s.integrating = false ∧ s.rmw.stopAt = none ∧ s.rmw.flushLeft = [])
    (fun _ _ s => startIntegrations p0 (some s.nextSweep) (s.rmw.nextCfg.getD s.integCfg) s) (fun _ _ _ => ansOk)) ∧
  Does .integStart opIntegStart
    (fun _ _ s => s.plan.active.isSome = true ∧ s.integrating = false ∧ (s.rmw.stopAt.isSome = true ∨ s.rmw.flushLeft ≠ []))
    (fun _ _ s => { s with rmw := { s.rmw with startAt := some s.nextSweep } }) (fun _ _ _ => ansOk) ∧
  Does .integStop opIntegStop (fun _ _ s => s.plan.active.isSome = true ∧ s.integrating = true)
    (fun _ _ s => { s with rmw := { s.rmw with stopAt := some s.nextSweep } }) (fun _ _ _ => ansOk) ∧
  Does .integStop opIntegStop (fun _ _ s => s.plan.active.isSome = true ∧ s.integrating = false) (fun _ _ s => s)
    (fun _ _ _ => ansOk)

/-- R110, R113 to R115, R124: under a plan, BEAM_CFG with items that stand writes the descriptors of its range of beams; BEAM_GAIN_WRITE,
BEAM_DELAY_WRITE and BEAM_DIRECT_WRITE write a range of inputs of a bank or epoch that no swap engages; each is answered with the first sample
of the first sweep of which no dwell has begun weight computation. Of a bank or epoch that a swap engages, each of the three writes nothing,
is counted and answers BANK_BUSY; each of the four is BUSY while no plan is active. Written tables come into effect when weight computation begins for a dwell of that sweep or a later one, and
not before; written gains are read back from the store, and what they replace stays in effect until then.
Rests on log 11. -/
def Obligations.BeamWritesTakeRanges : Prop :=
  (∀ p0, Does .beamGainWrite opBeamGainWrite
    (fun _ p s => s.plan.active = some p0 ∧ fieldAt 0 1 p ≤ 1 ∧ fieldAt 2 2 p < p0.layout.length ∧ fieldAt 4 2 p < p0.inputs ∧
      fieldAt 4 2 p + fieldAt 6 2 p ≤ p0.inputs ∧ s.gainBusy (fieldAt 0 1 p = 1) = false)
    (fun _ p s => writeGains p0 (fieldAt 0 1 p = 1) (fieldAt 2 2 p) (fieldAt 4 2 p) (fieldAt 6 2 p) (slice 8 (4 * fieldAt 6 2 p) p) s)
    (fun _ _ s => s.effSample)) ∧
  (∀ p0, Does .beamGainWrite opBeamGainWrite
    (fun _ p s => s.plan.active = some p0 ∧ fieldAt 0 1 p ≤ 1 ∧ fieldAt 2 2 p < p0.layout.length ∧ fieldAt 4 2 p < p0.inputs ∧
      fieldAt 4 2 p + fieldAt 6 2 p ≤ p0.inputs ∧ s.gainBusy (fieldAt 0 1 p = 1) = true)
    (fun _ _ s => s.bump .bfBankBusy) (fun _ _ _ => ansRefuse .bankBusy)) ∧
  (∀ p0, Does .beamDelayWrite opBeamDelayWrite
    (fun _ p s => s.plan.active = some p0 ∧ fieldAt 0 2 p < 256 ∧ fieldAt 2 1 p ≤ 1 ∧ fieldAt 3 1 p ≤ 1 ∧ fieldAt 12 2 p < p0.inputs ∧
      fieldAt 12 2 p + fieldAt 14 2 p ≤ p0.inputs ∧ s.epochBusy (fieldAt 0 2 p) (fieldAt 2 1 p = 1) = false)
    (fun _ p s => s.writeTables fun x => Claims.withTref p { x with delays := Claims.delays p ++ Claims.others p x.delays })
    (fun _ _ s => s.effSample)) ∧
  (∀ p0, Does .beamDirectWrite opBeamDirectWrite
    (fun _ p s => s.plan.active = some p0 ∧ fieldAt 0 2 p < 256 ∧ fieldAt 2 1 p ≤ 1 ∧ fieldAt 4 2 p < p0.inputs ∧
      fieldAt 4 2 p + fieldAt 6 2 p ≤ p0.inputs ∧ (∀ i < 2 * fieldAt 6 2 p, intAt (8 + i) 1 p ≠ -128) ∧
      s.directBusy (fieldAt 0 2 p) (fieldAt 2 1 p = 1) = false)
    (fun _ p s => s.writeTables fun t => { t with
      direct := ((List.range (fieldAt 6 2 p)).map fun i =>
          { bank := fieldAt 2 1 p = 1, beam := fieldAt 0 2 p, input := fieldAt 4 2 p + i, re := intAt (8 + 2 * i) 1 p,
            im := intAt (9 + 2 * i) 1 p : DirectEntry }) ++
        t.direct.filter fun g => !(g.bank = (fieldAt 2 1 p = 1) && g.beam = fieldAt 0 2 p &&
          decide (fieldAt 4 2 p ≤ g.input ∧ g.input < fieldAt 4 2 p + fieldAt 6 2 p)) })
    (fun _ _ s => s.effSample)) ∧
  (∀ p0 items d fs, Does .beamCfg opBeamCfg
    (fun _ p s => s.plan.active = some p0 ∧ (parseItems p.length 36 (p.drop 4)).1 = some items ∧ repeatedItem items [] = none ∧
      fieldAt 0 2 p < 256 ∧ fieldAt 0 2 p + fieldAt 2 2 p ≤ 256 ∧ beamItems (descItems items) {} = .inl d ∧
      beamFreqs p0 items = .inl fs ∧ widerRefused p0 items s = none ∧
      beamsOver p0 (fieldAt 2 2 p) s.beams.next (beamCfgTables (fieldAt 0 2 p) (fieldAt 2 2 p) items fs s.beams.next) = false)
    (fun _ p s => s.writeTables (beamCfgTables (fieldAt 0 2 p) (fieldAt 2 2 p) items fs))
    (fun _ _ s => s.effSample)) ∧
  (∀ p0, Does .beamDelayWrite opBeamDelayWrite
    (fun _ p s => s.plan.active = some p0 ∧ fieldAt 0 2 p < 256 ∧ fieldAt 2 1 p ≤ 1 ∧ fieldAt 3 1 p ≤ 1 ∧ fieldAt 12 2 p < p0.inputs ∧
      fieldAt 12 2 p + fieldAt 14 2 p ≤ p0.inputs ∧ s.epochBusy (fieldAt 0 2 p) (fieldAt 2 1 p = 1) = true)
    (fun _ _ s => s.bump .bfBankBusy) (fun _ _ _ => ansRefuse .bankBusy)) ∧
  (∀ p0, Does .beamDirectWrite opBeamDirectWrite
    (fun _ p s => s.plan.active = some p0 ∧ fieldAt 0 2 p < 256 ∧ fieldAt 2 1 p ≤ 1 ∧ fieldAt 4 2 p < p0.inputs ∧
      fieldAt 4 2 p + fieldAt 6 2 p ≤ p0.inputs ∧ (∀ i < 2 * fieldAt 6 2 p, intAt (8 + i) 1 p ≠ -128) ∧
      s.directBusy (fieldAt 0 2 p) (fieldAt 2 1 p = 1) = true)
    (fun _ _ s => s.bump .bfBankBusy) (fun _ _ _ => ansRefuse .bankBusy)) ∧
  (∀ i op, (i, op) ∈ [(Instr.beamCfg, opBeamCfg), (.beamGainWrite, opBeamGainWrite), (.beamDelayWrite, opBeamDelayWrite),
      (.beamDirectWrite, opBeamDirectWrite)] →
    Does i op (fun _ _ s => s.plan.active = none) (fun _ _ s => s) (fun _ _ s => ansBusy s.planCode)) ∧
  (∀ p d s, s.beams.weightEnd ≤ d.sweep * p.req.T → (beginWeights p d s).beams.tab = s.beams.next ∧
    (beginWeights p d s).beams.weightEnd = (d.sweep + 1) * p.req.T ∧ (beginWeights p d s).beams.gainHold = []) ∧
  (∀ p d s, d.sweep * p.req.T < s.beams.weightEnd → beginWeights p d s = s) ∧
  (∀ p b ch f n bs s, Canonical s → bs.length = 4 * n →
    (writeGains p b ch f n bs s).dramRead (p.gainAddr b ch f) (4 * n) = bs ∧
    ∀ i < n, s.heldGain b ch (f + i) = none →
      (writeGains p b ch f n bs s).heldGain b ch (f + i) = some ((s.gainsNow p b ch).getD (f + i) (0, 0)))

/-- R120, R122, R123: under a plan, a BEAM_SWAP without a point of a beam below 256 with no swap waiting, to another weight set and with room for its
fade, is entered from the first sample of the first sweep of which no dwell has started, and answers OK with that sample and its length; one to
the set that the beam ends on changes nothing and answers OK; one whose fade would overlap FADE_SLOTS others is refused BUSY and counted. One that
would start inside another swap's fade is deferred to the sample after it, when that lies in a sweep that has not started; one is refused BUSY
and counted while a deferred swap of the beam waits, and one while no plan is active.
Rests on log 81. -/
def Obligations.SwapsAreEntered : Prop :=
  (∀ p0, Does .beamSwap opBeamSwap
    (fun _ p s => s.plan.active = some p0 ∧ fieldAt 0 2 p < 256 ∧ fieldAt 2 1 p ≤ 3 ∧ fieldAt 4 4 p ≤ 65536 ∧
      s.swapsOf (fieldAt 0 2 p) = [] ∧ Claims.target p ≠ s.endSet (fieldAt 0 2 p) ∧
      (0 < fieldAt 4 4 p → s.fadeLoad (s.nextSweep * p0.req.T) (fieldAt 4 4 p) < p0.req.fadeSlots))
    (fun _ p s => { s with beams := { s.beams with swaps := s.beams.swaps ++
      [{ beam := fieldAt 0 2 p, s0 := s.nextSweep * p0.req.T, k := fieldAt 4 4 p, bank := (Claims.target p).1,
         epoch := (Claims.target p).2 }] } })
    (fun _ p s => { status := .ok, result := le8 (s.nextSweep * p0.req.T) ++ le4 (fieldAt 4 4 p) })) ∧
  (∀ p0, Does .beamSwap opBeamSwap
    (fun _ p s => s.plan.active = some p0 ∧ fieldAt 0 2 p < 256 ∧ fieldAt 2 1 p ≤ 3 ∧ fieldAt 4 4 p ≤ 65536 ∧
      Claims.target p = s.endSet (fieldAt 0 2 p))
    (fun _ _ s => s) (fun _ p s => { status := .ok, result := le8 (s.nextSweep * p0.req.T) ++ le4 (fieldAt 4 4 p) })) ∧
  (∀ p0, Does .beamSwap opBeamSwap
    (fun _ p s => s.plan.active = some p0 ∧ fieldAt 0 2 p < 256 ∧ fieldAt 2 1 p ≤ 3 ∧ fieldAt 4 4 p ≤ 65536 ∧
      s.swapsOf (fieldAt 0 2 p) = [] ∧ Claims.target p ≠ s.endSet (fieldAt 0 2 p) ∧ 0 < fieldAt 4 4 p ∧
      p0.req.fadeSlots ≤ s.fadeLoad (s.nextSweep * p0.req.T) (fieldAt 4 4 p))
    (fun _ _ s => s.bump .bfRefused) (fun _ p s => ansBusy (s.fadeLoad (s.nextSweep * p0.req.T) (fieldAt 4 4 p)))) ∧
  (∀ p0 x xs, Does .beamSwap opBeamSwap
    (fun _ p s => s.plan.active = some p0 ∧ fieldAt 0 2 p < 256 ∧ fieldAt 2 1 p ≤ 3 ∧ fieldAt 4 4 p ≤ 65536 ∧
      s.swapsOf (fieldAt 0 2 p) = xs ++ [x] ∧ Claims.target p ≠ s.endSet (fieldAt 0 2 p) ∧
      (xs ++ [x]).any (fun y => y.deferred && decide (s.nextSweep ≤ y.s0 / p0.req.T)) = false ∧
      s.nextSweep * p0.req.T < x.stop ∧ s.nextSweep ≤ x.stop / p0.req.T ∧
      (0 < fieldAt 4 4 p → s.fadeLoad x.stop (fieldAt 4 4 p) < p0.req.fadeSlots))
    (fun _ p s => ({ s with beams := { s.beams with swaps := s.beams.swaps ++
      [{ beam := fieldAt 0 2 p, s0 := x.stop, k := fieldAt 4 4 p, bank := (Claims.target p).1, epoch := (Claims.target p).2,
         deferred := true }] } } : State).bump .bfDeferred)
    (fun _ p _ => { status := .deferred, result := le8 x.stop ++ le4 (fieldAt 4 4 p) })) ∧
  (∀ p0, Does .beamSwap opBeamSwap
    (fun _ p s => s.plan.active = some p0 ∧ fieldAt 0 2 p < 256 ∧ fieldAt 2 1 p ≤ 3 ∧ fieldAt 4 4 p ≤ 65536 ∧
      Claims.target p ≠ s.endSet (fieldAt 0 2 p) ∧
      (s.swapsOf (fieldAt 0 2 p)).any (fun y => y.deferred && decide (s.nextSweep ≤ y.s0 / p0.req.T)) = true)
    (fun _ _ s => s.bump .bfRefused) (fun _ _ _ => ansBusy 1)) ∧
  Does .beamSwap opBeamSwap (fun _ _ s => s.plan.active = none) (fun _ _ s => s.bump .bfRefused) (fun _ _ s => ansBusy s.planCode)

/-- R122: the fades of all beams together overlap any one sample in at most FADE_SLOTS places, and a swap with K > 0 that would break
this limit is refused with BUSY. -/
def Obligations.FadesStayWithinFadeSlots : Prop :=
  ∀ (p : Plan) (c : Ctx) (s0 : Nat) (s : State),
    (∀ x, Claims.fadesAt s x ≤ p.req.fadeSlots) →
    (∀ x, Claims.fadesAt (judgeSwap p c s0 s).1 x ≤ p.req.fadeSlots) ∧
    (fieldAt 0 2 c.par < 256 → fieldAt 2 1 c.par ≤ 3 → fieldAt 4 4 c.par ≤ 65536 → 0 < fieldAt 4 4 c.par →
      s.swapsOf (fieldAt 0 2 c.par) = [] → Claims.target c.par ≠ s.endSet (fieldAt 0 2 c.par) →
      (∃ x, s0 ≤ x ∧ x < s0 + fieldAt 4 4 c.par ∧ p.req.fadeSlots < Claims.fadesAt s x + 1) →
      judgeSwap p c s0 s = (s, ansBusy (s.fadeLoad s0 (fieldAt 4 4 c.par))))

/-- R128, R131, R132, R134, R135: under a plan and without a point: RIDDLE_CFG with items that stand enters its configuration for the first
sample of the next sweep, as a reset where the rule names one; RIDDLE_COEF_WRITE writes the length, the taps of its range, the gain and the shift of a
bank of a disabled sieve that no swap names; RIDDLE_SWAP enters a change to the bank at the sample of the output at which it takes over, DEFERRED and
counted where that is a later one; RIDDLE_SYNC enters a reset at that sample for exactly the sieves of its mask. On a grid without a further reset that
output is the first that starts at or after the swap's sample and has as many inputs as the bank has taps.
Rests on log 11 and 83. -/
def Obligations.RiddleCommandsAct : Prop :=
  (∀ p0 items g, Does .riddleCfg opRiddleCfg
    (fun _ p s => s.plan.active = some p0 ∧ (parseItems p.length 36 (p.drop 4)).1 = some items ∧ repeatedItem items [] = none ∧
      fieldAt 0 1 p < 64 ∧ sieveItems (fieldAt 0 1 p) items (s.sieve (fieldAt 0 1 p)).last = .inl g ∧
      sieveRefusal p0 (fieldAt 0 1 p) g items s = none)
    (fun _ p s => s.onSieve (fieldAt 0 1 p) fun x => { x with
      known := true
      pend := insertPend { at_ := s.nextSweep * p0.req.T, reset := cfgResets (s.sieve (fieldAt 0 1 p)) g, cfg := some g } x.pend })
    (fun _ p s => ansOk (if cfgResets (s.sieve (fieldAt 0 1 p)) g then le8 (s.nextSweep * p0.req.T) else []))) ∧
  Does .riddleCoefWrite opRiddleCoefWrite
    (fun _ p s => s.plan.active.isSome = true ∧ fieldAt 0 1 p < 64 ∧ fieldAt 1 1 p ≤ 1 ∧ 1 ≤ fieldAt 2 2 p ∧ fieldAt 2 2 p ≤ 256 ∧
      -131072 ≤ intAt 4 4 p ∧ intAt 4 4 p ≤ 131071 ∧ fieldAt 8 1 p ≤ 40 ∧ fieldAt 10 2 p < 256 ∧
      fieldAt 10 2 p + fieldAt 12 2 p ≤ 256 ∧ (s.sieve (fieldAt 0 1 p)).last.enable = false ∧
      (s.sieve (fieldAt 0 1 p)).swaps.any (·.bank = decide (fieldAt 1 1 p = 1)) = false)
    (fun _ p s => s.onSieve (fieldAt 0 1 p) fun x =>
      if fieldAt 1 1 p = 1 then { x with bankB := Claims.coefs p (s.sieve (fieldAt 0 1 p)).bankB }
      else { x with bankA := Claims.coefs p (s.sieve (fieldAt 0 1 p)).bankA })
    (fun _ _ _ => ansOk) ∧
  Does .riddleCoefWrite opRiddleCoefWrite
    (fun _ p s => s.plan.active.isSome = true ∧ fieldAt 0 1 p < 64 ∧ fieldAt 1 1 p ≤ 1 ∧ 1 ≤ fieldAt 2 2 p ∧ fieldAt 2 2 p ≤ 256 ∧
      -131072 ≤ intAt 4 4 p ∧ intAt 4 4 p ≤ 131071 ∧ fieldAt 8 1 p ≤ 40 ∧ fieldAt 10 2 p < 256 ∧
      fieldAt 10 2 p + fieldAt 12 2 p ≤ 256 ∧ (s.sieve (fieldAt 0 1 p)).last.enable = false ∧
      (s.sieve (fieldAt 0 1 p)).swaps.any (·.bank = decide (fieldAt 1 1 p = 1)) = true)
    (fun _ _ s => s) (fun _ _ _ => ansRefuse .bankBusy) ∧
  (∀ p0 n d, Does .riddleSwap opRiddleSwap
    (fun _ p s => s.plan.active = some p0 ∧ fieldAt 0 1 p < 64 ∧ fieldAt 1 1 p ≤ 1 ∧
      firstOutput (s.nextSweep * p0.req.T) ((s.sieve (fieldAt 0 1 p)).coef (fieldAt 1 1 p = 1)).len (s.grids (fieldAt 0 1 p)) false = (n, d))
    (fun _ p s =>
      let t := s.onSieve (fieldAt 0 1 p) fun x => { x with swaps := x.swaps ++ [{ at_ := n, bank := fieldAt 1 1 p = 1 }] }
      if d then t.bump .rdlSwapDeferred else t)
    (fun _ _ _ => { status := if d then .deferred else .ok, result := le8 n })) ∧
  (∀ t len (g : SieveGrid), g.stop = none → 0 < g.total → 0 < g.m → ∃ k d, firstOutput t len [g] false = (g.start + k * g.total, d) ∧
    t ≤ g.start + k * g.total ∧ len ≤ (k + 1) * g.m ∧ ∀ j < k, ¬ (t ≤ g.start + j * g.total ∧ len ≤ (j + 1) * g.m)) ∧
  (∀ p0, Does .riddleSync opRiddleSync (fun _ _ s => s.plan.active = some p0)
    (fun _ p s => resetSieves (fieldAt 0 8 p).testBit (s.nextSweep * p0.req.T) none s)
    (fun _ _ s => ansOk (le8 (s.nextSweep * p0.req.T)))) ∧
  (∀ mask n s, s.riddle.sieves.length = 64 → ∀ i < 64, (resetSieves mask n none s).sieve i =
    if mask i then { s.sieve i with pend := insertPend { at_ := n, reset := true } (s.sieve i).pend } else s.sieve i) ∧
  (∀ x xs, (insertPend x xs).Perm (x :: xs)) ∧
  (∀ i op, (i, op) ∈ [(Instr.riddleCfg, opRiddleCfg), (.riddleCoefWrite, opRiddleCoefWrite), (.riddleSwap, opRiddleSwap),
      (.riddleSync, opRiddleSync)] →
    Does i op (fun _ _ s => s.plan.active = none) (fun _ _ s => s) (fun _ _ s => ansBusy s.planCode))

/-! ### Cold-frame capture -/

/-- R168, R169, R181, R240: unless DRAM training failed, under a plan: CAPTURE_CFG of a region that is OFF, with items that stand and fit, takes the
configuration with fresh sub-regions and answers POST_STORE and the frame size, CLAMPED where POST is cut; with items that do not fit it names the
first; of a region in use it is BUSY with the region's state. CAPTURE_RESIZE of a region that holds nothing enters the new depth
for the next boundary, and is BUSY with the state of the sub-region that holds something. Both are BUSY 4 after a failed training.
Rests on log 11, 35 and 122. -/
def Obligations.CaptureIsConfigured : Prop :=
  (∀ p0 items g, Does .captureCfg opCaptureCfg
    (fun _ p s => s.boot.trainFail = false ∧ s.plan.active = some p0 ∧ (parseItems p.length 36 (p.drop 4)).1 = some items ∧
      repeatedItem items [] = none ∧ fieldAt 0 1 p < 8 ∧
      regionItems p0.req.wide items (s.region (fieldAt 0 1 p)).cfg = .inl g ∧ (s.region (fieldAt 0 1 p)).state = .off ∧
      captureRefusal p0 (fieldAt 0 1 p) g items s = none)
    (fun _ p s => s.onRegion (fieldAt 0 1 p) fun r => { r with
      configured := true, cfg := g, subs := List.replicate g.nsub {}, newDepth := none, disarm := false, streams := [] })
    (fun _ _ _ => { status := if postStore p0.req.T g < g.post then .clamped else .ok
                    result := le4 (postStore p0.req.T g) ++ le4 (frameSize p0 g) })) ∧
  (∀ p0 items g o, Does .captureCfg opCaptureCfg
    (fun _ p s => s.boot.trainFail = false ∧ s.plan.active = some p0 ∧ (parseItems p.length 36 (p.drop 4)).1 = some items ∧
      repeatedItem items [] = none ∧ fieldAt 0 1 p < 8 ∧
      regionItems p0.req.wide items (s.region (fieldAt 0 1 p)).cfg = .inl g ∧ (s.region (fieldAt 0 1 p)).state = .off ∧
      captureRefusal p0 (fieldAt 0 1 p) g items s = some o)
    (fun _ _ s => s) (fun _ _ _ => ansField o)) ∧
  (∀ p0 items g, Does .captureCfg opCaptureCfg
    (fun _ p s => s.boot.trainFail = false ∧ s.plan.active = some p0 ∧ (parseItems p.length 36 (p.drop 4)).1 = some items ∧
      repeatedItem items [] = none ∧ fieldAt 0 1 p < 8 ∧
      regionItems p0.req.wide items (s.region (fieldAt 0 1 p)).cfg = .inl g ∧ (s.region (fieldAt 0 1 p)).state ≠ .off)
    (fun _ _ s => s) (fun _ p s => ansBusy (regionCode (s.region (fieldAt 0 1 p)).state))) ∧
  (∀ p0, Does .captureResize opCaptureResize
    (fun _ p s => s.boot.trainFail = false ∧ fieldAt 0 1 p < 8 ∧ s.plan.active = some p0 ∧ Claims.holdsNothing (s.region (fieldAt 0 1 p)) ∧
      3 ≤ fieldAt 2 2 p ∧ fieldAt 2 2 p ≤ 1024 ∧
      depthOk p0.req.T { (s.region (fieldAt 0 1 p)).cfg with depth := fieldAt 2 2 p } = true ∧
      spaceFits p0 (s.regionsWith (fieldAt 0 1 p) { (s.region (fieldAt 0 1 p)).cfg with depth := fieldAt 2 2 p }) = true)
    (fun _ p s => s.onRegion (fieldAt 0 1 p) fun r => { r with newDepth := some (fieldAt 2 2 p) })
    (fun _ p s =>
      let g := { (s.region (fieldAt 0 1 p)).cfg with depth := fieldAt 2 2 p }
      { status := if postStore p0.req.T g < g.post then .clamped else .ok, result := le4 (postStore p0.req.T g) })) ∧
  (∀ p0 x xs, Does .captureResize opCaptureResize
    (fun _ p s => s.boot.trainFail = false ∧ fieldAt 0 1 p < 8 ∧ s.plan.active = some p0 ∧
      (s.region (fieldAt 0 1 p)).subs.filter (·.held) = x :: xs)
    (fun _ _ s => s) (fun _ _ _ => ansBusy (subCode x.state))) ∧
  (∀ i op, (i, op) ∈ [(Instr.captureCfg, opCaptureCfg), (.captureResize, opCaptureResize)] →
    Does i op (fun k _ s => s.boot.trainFail = true ∧ k.path ≠ .gkr ∧ k.path ≠ .smbus) (fun _ _ s => s) (fun _ _ _ => ansBusy 4))

/-- R172, R176, R177, R183, R184, R240: without a point, unless DRAM training failed: CAPTURE_ARM makes the lowest FREE sub-region LIVE where none is,
or leaves the region in REARM; CAPTURE_DISARM frees the LIVE one; CAPTURE_RELEASE frees a FROZEN one (in REARM it becomes LIVE); CAPTURE_DRAIN of a
FROZEN one starts its drain to egress or, from a packet with buffers, to the host; of one in another state both are BUSY with that state.
CAPTURE_TRIGGER is judged by exactly the regions of its mask, at the sample it names or, with an epoch mapping, at its time. CAPTURE_DRAIN_DONE
ends a drain to egress whose records have all been formed, and changes nothing where no drain runs. The five commands by packet are BUSY 4 after a failed training.
Rests on log 16 and 122. -/
def Obligations.CaptureRegionsAct : Prop :=
  Does .captureArm opCaptureArm (fun _ p s => s.boot.trainFail = false ∧ fieldAt 0 1 p < 8)
    (fun _ p s => s.onRegion (fieldAt 0 1 p) armRegion) (fun _ _ _ => ansOk) ∧
  Does .captureDisarm opCaptureDisarm (fun _ p s => s.boot.trainFail = false ∧ fieldAt 0 1 p < 8)
    (fun _ p s => s.onRegion (fieldAt 0 1 p) disarmRegion) (fun _ _ _ => ansOk) ∧
  (∀ r i, r.state ≠ .suspended → r.live = none → r.lowest .free = some i →
    (armRegion r).state = .armed ∧ ((armRegion r).subs.getD i {}).state = .live ∧
      (∀ j, j ≠ i → (armRegion r).subs.getD j {} = r.subs.getD j {}) ∧ (armRegion r).cfg = r.cfg) ∧
  (∀ r, r.state ≠ .suspended → r.live = none → r.lowest .free = none → armRegion r = { r with state := .rearm, disarm := false }) ∧
  (∀ r i, r.live = some i → ((disarmRegion r).subs.getD i {}).state = .free ∧
    (∀ j, j ≠ i → (disarmRegion r).subs.getD j {} = r.subs.getD j {}) ∧
    (r.lowest .posting = none → (disarmRegion r).state = .off)) ∧
  Does .captureRelease opCaptureRelease
    (fun _ p s => s.boot.trainFail = false ∧ fieldAt 0 1 p < 8 ∧ fieldAt 1 1 p < (s.region (fieldAt 0 1 p)).subs.length ∧
      ((s.region (fieldAt 0 1 p)).subs.getD (fieldAt 1 1 p) {}).state = .frozen)
    (fun _ p s => s.onRegion (fieldAt 0 1 p) (releaseSub (fieldAt 1 1 p))) (fun _ _ _ => ansOk) ∧
  (∀ r i, i < r.subs.length → ((releaseSub i r).subs.getD i {}).state = (if r.state = .rearm ∧ r.disarm = false then .live else .free) ∧
    ∀ j, j ≠ i → (releaseSub i r).subs.getD j {} = r.subs.getD j {}) ∧
  Does .captureDrain opCaptureDrain
    (fun _ p s => s.boot.trainFail = false ∧ fieldAt 0 1 p < 8 ∧ fieldAt 1 1 p < (s.region (fieldAt 0 1 p)).subs.length ∧
      fieldAt 2 1 p = 1 ∧ ((s.region (fieldAt 0 1 p)).subs.getD (fieldAt 1 1 p) {}).state = .frozen)
    (fun k p s => pumpDrain (fieldAt 0 1 p) (fieldAt 1 1 p) (s.onRegion (fieldAt 0 1 p) fun r => r.onSub (fieldAt 1 1 p) fun x =>
      { x with state := .draining
               drain := some { host := false, seq := k.seq, left := drainRecords (fieldAt 0 1 p) (fieldAt 1 1 p) s } }))
    (fun _ _ _ => ansAccepted) ∧
  Does .captureDrain opCaptureDrain
    (fun k p s => s.boot.trainFail = false ∧ fieldAt 0 1 p < 8 ∧ fieldAt 1 1 p < (s.region (fieldAt 0 1 p)).subs.length ∧
      fieldAt 2 1 p = 0 ∧ opCaptureDrain.buffered k.path = true ∧
      ((s.region (fieldAt 0 1 p)).subs.getD (fieldAt 1 1 p) {}).state = .frozen)
    (fun k p s => startTransfer
      { seq := k.seq, kind := .drain, addr := BitVec.ofNat 64 (fieldAt 16 8 (kBody k))
        data := (drainRecords (fieldAt 0 1 p) (fieldAt 1 1 p) s).flatten.take (fieldAt 12 4 (kBody k))
        len := ((drainRecords (fieldAt 0 1 p) (fieldAt 1 1 p) s).flatten.take (fieldAt 12 4 (kBody k))).length }
      (s.onRegion (fieldAt 0 1 p) fun r => r.onSub (fieldAt 1 1 p) fun x =>
        { x with state := .draining, drain := some { host := true, seq := k.seq, left := [] } }))
    (fun _ _ _ => ansAccepted) ∧
  Does .captureRelease opCaptureRelease
    (fun _ p s => s.boot.trainFail = false ∧ fieldAt 0 1 p < 8 ∧ fieldAt 1 1 p < (s.region (fieldAt 0 1 p)).subs.length ∧
      ((s.region (fieldAt 0 1 p)).subs.getD (fieldAt 1 1 p) {}).state ≠ .frozen)
    (fun _ _ s => s) (fun _ p s => ansBusy (subCode ((s.region (fieldAt 0 1 p)).subs.getD (fieldAt 1 1 p) {}).state)) ∧
  Does .captureDrain opCaptureDrain
    (fun k p s => s.boot.trainFail = false ∧ fieldAt 0 1 p < 8 ∧ fieldAt 1 1 p < (s.region (fieldAt 0 1 p)).subs.length ∧
      (fieldAt 2 1 p = 1 ∨ fieldAt 2 1 p = 0 ∧ opCaptureDrain.buffered k.path = true) ∧
      ((s.region (fieldAt 0 1 p)).subs.getD (fieldAt 1 1 p) {}).state ≠ .frozen)
    (fun _ _ s => s) (fun _ p s => ansBusy (subCode ((s.region (fieldAt 0 1 p)).subs.getD (fieldAt 1 1 p) {}).state)) ∧
  Does .captureTrigger opCaptureTrigger (fun _ p s => s.boot.trainFail = false ∧ fieldAt 1 1 p = 1)
    (fun k p s => (judgeTrig (fieldAt 0 1 p).testBit (Claims.fieldTrig p s) k.seq s).1)
    (fun k p s => ansOk ((judgeTrig (fieldAt 0 1 p).testBit (Claims.fieldTrig p s) k.seq s).2.map fun o => le4 o.1 ++ le4 o.2).flatten) ∧
  Does .captureTrigger opCaptureTrigger (fun _ p s => s.boot.trainFail = false ∧ fieldAt 1 1 p = 0 ∧ s.time.epochSet = true)
    (fun k p s => (judgeTrig (fieldAt 0 1 p).testBit (s.trigAt ((fieldAt 4 8 p : Int) * 2 ^ 16) 3 0) k.seq s).1)
    (fun k p s => ansOk ((judgeTrig (fieldAt 0 1 p).testBit (s.trigAt ((fieldAt 4 8 p : Int) * 2 ^ 16) 3 0) k.seq s).2.map fun o =>
      le4 o.1 ++ le4 o.2).flatten) ∧
  Does .captureTrigger opCaptureTrigger (fun _ p s => s.boot.trainFail = false ∧ fieldAt 1 1 p = 0 ∧ s.time.epochSet = false)
    (fun _ _ s => s) (fun _ _ _ => ansRefuse .notSynced) ∧
  (∀ regions t seq s, (judgeTrig regions t seq s).2.length = 8 ∧
    ∀ i < 8, regions i = false → (judgeTrig regions t seq s).2.getD i (9, 9) = (0, 0)) ∧
  (∀ (r : Fin 8) (j : Fin 16) s d, s.dieRuns = true → ((s.region r).subs.getD j {}).drain = some d → d.host = false → d.left = [] →
    exec (.captureDrainDone r j) s = .next (Claims.drained r j (pumpDrain r j s))) ∧
  (∀ (r : Fin 8) (j : Fin 16) s, ((s.region r).subs.getD j {}).drain = none → exec (.captureDrainDone r j) s = .next s) ∧
  (∀ i op, (i, op) ∈ [(Instr.captureArm, opCaptureArm), (.captureDisarm, opCaptureDisarm), (.captureRelease, opCaptureRelease),
      (.captureDrain, opCaptureDrain), (.captureTrigger, opCaptureTrigger)] →
    Does i op (fun k _ s => s.boot.trainFail = true ∧ k.path ≠ .gkr ∧ k.path ≠ .smbus) (fun _ _ s => s) (fun _ _ _ => ansBusy 4))

/-! ### Device time and cues -/

/-- R195, R200, R202, R205, R207: TIME_SOURCE with items that stand applies them in order and chooses the best source again; HOST is silent until it
measures where it is named. TIME_MEASURE while HOST is a source and no better one serves is used as a measurement of HOST, at most 100 in a second,
and is refused otherwise. TIME_STEP steps OFFSET by DELTA (MODE 0) when the unit has no time, or with RESTEP; with RESTEP, MODE 1 makes the next
alignment a step, and without it, on a unit with no time, MODE 1 changes nothing; without RESTEP on a unit that has time it is refused; a DELTA whose
complement does not match is refused. TIME_EPOCH_SET sets the epoch mapping, journals it and is relayed to the system; parameters out of range are
refused.
Rests on log 11 and 19. -/
def Obligations.TimeCommandsAct : Prop :=
  (∀ items t, Does .timeSource opTimeSource
    (fun _ p s => (parseItems p.length 32 p).1 = some items ∧ repeatedItem items [] = none ∧ timeItems s items s.time = .inl t ∧
      (∀ x ∈ items, x.1 ≠ 1))
    (fun _ _ s => bmca { s with time := t }) (fun _ _ _ => ansOk)) ∧
  (∀ items t, Does .timeSource opTimeSource
    (fun _ p s => (parseItems p.length 32 p).1 = some items ∧ repeatedItem items [] = none ∧ timeItems s items s.time = .inl t ∧
      (∃ x ∈ items, x.1 = 1) ∧ 3 ∈ t.sources)
    (fun _ _ s => bmca { s with time := { t with hostSilent := true, hostTimes := [] } }) (fun _ _ _ => ansOk)) ∧
  (∀ items o, Does .timeSource opTimeSource
    (fun _ p s => (parseItems p.length 32 p).1 = some items ∧ repeatedItem items [] = none ∧ timeItems s items s.time = .inr o)
    (fun _ _ s => s) (fun _ _ _ => ansField o)) ∧
  Does .timeMeasure opTimeMeasure
    (fun _ _ s => 3 ∈ s.time.sources ∧ s.aboveHost = false ∧
      (s.time.hostTimes.filter fun t => !(s.passed t (10 ^ 9))).length < 100)
    (fun _ p s => measured 3 (timeAt 0 p) (chooseSource { s with time := { s.time with
      hostSilent := false, hostTimes := s.now :: s.time.hostTimes.filter fun t => !(s.passed t (10 ^ 9)) } }))
    (fun _ _ _ => ansOk) ∧
  Does .timeMeasure opTimeMeasure
    (fun _ _ s => 3 ∈ s.time.sources ∧ s.aboveHost = false ∧
      100 ≤ (s.time.hostTimes.filter fun t => !(s.passed t (10 ^ 9))).length)
    (fun _ _ s => s) (fun _ _ _ => ansBusy 100) ∧
  Does .timeMeasure opTimeMeasure (fun _ _ s => 3 ∉ s.time.sources ∨ s.aboveHost = true) (fun _ _ s => s)
    (fun _ _ _ => ansRefuse .badParam) ∧
  Does .timeStep opTimeStep
    (fun k p s => fieldAt 0 1 p = 0 ∧ slice 12 10 p = compl (slice 2 10 p) ∧ (kRestep k = true ∨ s.time.state = .unset))
    (fun _ p s => stepOffset (timeAt 2 p) s) (fun _ _ _ => ansOk) ∧
  Does .timeStep opTimeStep
    (fun k p _ => fieldAt 0 1 p = 1 ∧ slice 12 10 p = compl (slice 2 10 p) ∧ kRestep k = true)
    (fun _ _ s => { s with time := { s.time with stepNext := true } }) (fun _ _ _ => ansOk) ∧
  Does .timeStep opTimeStep
    (fun k p s => fieldAt 0 1 p = 1 ∧ slice 12 10 p = compl (slice 2 10 p) ∧ kRestep k = false ∧ s.time.state = .unset)
    (fun _ _ s => s) (fun _ _ _ => ansOk) ∧
  Does .timeStep opTimeStep
    (fun k p s => fieldAt 0 1 p ≤ 1 ∧ slice 12 10 p = compl (slice 2 10 p) ∧ kRestep k = false ∧ s.time.state ≠ .unset)
    (fun _ _ s => s) (fun _ _ _ => ansRefuse .badParam) ∧
  Does .timeStep opTimeStep
    (fun _ p _ => fieldAt 0 1 p ≤ 1 ∧ slice 12 10 p ≠ compl (slice 2 10 p)) (fun _ _ s => s) (fun _ _ _ => ansRefuse .badComplement) ∧
  Does .timeEpochSet opTimeEpochSet
    (fun _ p _ => fieldAt 12 4 p ≠ 0 ∧ fieldAt 12 4 p ≤ fieldAt 16 8 p ∧ fieldAt 16 8 p ≤ 10 ^ 9 * fieldAt 12 4 p)
    (fun k p s => relayAll { opTimeEpochSet.ctx k with par := p } (record 0x05 s.srcTamzar p { s with time := { s.time with
      epochSet := true, epochTime := (fieldAt 0 8 p : Int) * 2 ^ 16 + fieldAt 8 2 p, pNum := fieldAt 16 8 p,
      pDen := fieldAt 12 4 p } }))
    (fun _ _ _ => ansOk) ∧
  (∀ c s, (s.boot.system ≠ 2 ∨ c.path = .mesh) → relayAll c s = s) ∧
  Does .timeEpochSet opTimeEpochSet
    (fun _ p _ => fieldAt 12 4 p ≠ 0 ∧ (fieldAt 16 8 p < fieldAt 12 4 p ∨ 10 ^ 9 * fieldAt 12 4 p < fieldAt 16 8 p))
    (fun _ _ s => s) (fun _ _ _ => ansField 48)

/-- R201, R202, R205: a step moves OFFSET by exactly DELTA and stores its complement, clears SYNCED, sets STEPPED_SEEN and puts the unit into ACQUIRE;
the rate, the epoch mapping, the cue table, memory and the plan stay. -/
def Obligations.StepMovesOffset : Prop :=
  ∀ d s, let t := stepOffset d s
    t.time.offset = s.time.offset + BitVec.ofInt 104 (d * 2 ^ 24) ∧ t.time.offsetN = ~~~ t.time.offset ∧ t.time.synced = false ∧
    t.time.steppedSeen = true ∧ t.time.state = .acquire ∧ t.time.rate = s.time.rate ∧ t.time.epochTime = s.time.epochTime ∧
    t.cues.entries = s.cues.entries ∧ t.mem = s.mem ∧ t.plan = s.plan

/-- R214, R215: CUE_CANCEL of a pending cue of the host's or the system's series, from a path that may name it, removes the entry and counts it; of a
cue that has passed to hardware or run it is LATE, of one that is unknown BAD_PARAM. CONFIRM clears TENTATIVE of its system cue, CANCEL removes its
system cue, and each is BAD_PARAM where the table holds none. Removing an entry drops what the units hold for it, and no other entry of the table
changes.
Rests on log 144. -/
def Obligations.CuesAreCancelledAndConfirmed : Prop :=
  (∀ e, Does .cueCancel opCueCancel
    (fun _ p s => fieldAt 4 1 p = 0 ∧ s.cueEntry false (BitVec.ofNat 32 (fieldAt 0 4 p)) = some e)
    (fun _ _ s => removeCue e (s.bump .tmCueCancelled)) (fun _ _ _ => ansOk)) ∧
  (∀ e, Does .cueCancel opCueCancel
    (fun k p s => fieldAt 4 1 p = 1 ∧ s.cueEntry true (BitVec.ofNat 32 (fieldAt 0 4 p)) = some e ∧ (k.path = .mesh ∨ s.mesh.caller = true))
    (fun k p s => if k.path = .mesh then removeCue e (s.bump .tmCueCancelled)
      else cancelSystem (BitVec.ofNat 32 (fieldAt 0 4 p)) (removeCue e (s.bump .tmCueCancelled)))
    (fun _ _ _ => ansOk)) ∧
  Does .cueCancel opCueCancel
    (fun k p s => fieldAt 4 1 p = 1 ∧ k.path ≠ .mesh ∧ s.mesh.caller = false) (fun _ _ s => s)
    (fun _ _ s => ansRefuse (if s.mesh.partitioned then .partitioned else .badParam)) ∧
  Does .cueCancel opCueCancel
    (fun _ p s => fieldAt 4 1 p = 0 ∧ s.cueEntry false (BitVec.ofNat 32 (fieldAt 0 4 p)) = none ∧
      (s.cues.hw.any (fun e => e.seq = BitVec.ofNat 32 (fieldAt 0 4 p) && e.system == false) = true ∨
        (false, BitVec.ofNat 32 (fieldAt 0 4 p)) ∈ s.cues.done))
    (fun _ _ s => s) (fun _ _ _ => ansRefuse .late) ∧
  Does .cueCancel opCueCancel
    (fun _ p s => fieldAt 4 1 p = 0 ∧ s.cueEntry false (BitVec.ofNat 32 (fieldAt 0 4 p)) = none ∧
      s.cues.hw.any (fun e => e.seq = BitVec.ofNat 32 (fieldAt 0 4 p) && e.system == false) = false ∧
        (false, BitVec.ofNat 32 (fieldAt 0 4 p)) ∉ s.cues.done)
    (fun _ _ s => s) (fun _ _ _ => ansRefuse .badParam) ∧
  (∀ e, Does .confirm opConfirm (fun _ p s => s.cueEntry true (BitVec.ofNat 32 (fieldAt 0 4 p)) = some e)
    (fun _ _ s => { s with cues := { s.cues with entries := s.cues.entries.map (Claims.confirmed e.id) } })
    (fun _ _ _ => ansOk)) ∧
  (∀ e, Does .cancel opCancel (fun _ p s => s.cueEntry true (BitVec.ofNat 32 (fieldAt 0 4 p)) = some e)
    (fun _ _ s => removeCue e (s.bump .tmCueCancelled)) (fun _ _ _ => ansOk)) ∧
  (∀ i op, (i, op) ∈ [(Instr.confirm, opConfirm), (.cancel, opCancel)] →
    Does i op (fun _ p s => s.cueEntry true (BitVec.ofNat 32 (fieldAt 0 4 p)) = none) (fun _ _ s => s) (fun _ _ _ => ansRefuse .badParam)) ∧
  (∀ e s x, x ∈ (removeCue e s).cues.entries ↔ x ∈ s.cues.entries ∧ x.id ≠ e.id) ∧
  (∀ e s x, x ∈ (removeCue e s).beams.swaps ↔ x ∈ s.beams.swaps ∧ x.cue ≠ some e.id) ∧
  (∀ e s, (removeCue e s).plan = s.plan ∧ (removeCue e s).mem = s.mem ∧ (removeCue e s).time = s.time) ∧
  (∀ (e : CueEntry), (CueEntry.sealed e).good = true ∧ (CueEntry.sealed e).seq = e.seq ∧ (CueEntry.sealed e).tentative = e.tentative)

/-! ### Lanes -/

/-- R249, R266 to R268, R370: without a point, unless DRAM training failed: LANE_CFG with items that stand applies them; with an item that retrains the
lane it also puts the lane into TRAIN and resets its links, and is BUSY 6, with no effect, while the lane carries traffic. LANE_DOZE and LANE_WAKE
act on exactly the lanes and directions named; a LANE_DOZE that R267 refuses is BUSY with its cause and acts on none. The three are BUSY 4 after a
failed training. LANE_QUIET makes exactly the named transmitters quiet, whatever the lanes' roles and whatever the training. A transmitter that is told
to doze dozes, a receiver likewise, and waking ends both.
Rests on log 11, 109 and 152. -/
def Obligations.LaneCommandsAct : Prop :=
  (∀ items y, Does .laneCfg opLaneCfg
    (fun _ p s => s.boot.trainFail = false ∧ (parseItems p.length 36 (p.drop 4)).1 = some items ∧ repeatedItem items [] = none ∧
      fieldAt 0 1 p < 128 ∧ laneItems items (s.lane (fieldAt 0 1 p)) = .inl y ∧ (∀ x ∈ items, 6 < x.1) ∧
      (s.untaggedPlan (fieldAt 0 1 p) = false ∨ vlanItem items = none) ∧ s.time.ptpLanes = [])
    (fun _ p s => takeAll (s.onLane (fieldAt 0 1 p) fun _ => y)) (fun _ _ _ => ansOk)) ∧
  (∀ items y, Does .laneCfg opLaneCfg
    (fun _ p s => s.boot.trainFail = false ∧ (parseItems p.length 36 (p.drop 4)).1 = some items ∧ repeatedItem items [] = none ∧
      fieldAt 0 1 p < 128 ∧ laneItems items (s.lane (fieldAt 0 1 p)) = .inl y ∧ (∀ x ∈ items, 6 < x.1) ∧
      (s.untaggedPlan (fieldAt 0 1 p) = false ∨ vlanItem items = none) ∧ s.time.ptpLanes ≠ [])
    (fun _ p s => bmca (takeAll (s.onLane (fieldAt 0 1 p) fun _ => y))) (fun _ _ _ => ansOk)) ∧
  (∀ items y, Does .laneCfg opLaneCfg
    (fun _ p s => s.boot.trainFail = false ∧ (parseItems p.length 36 (p.drop 4)).1 = some items ∧ repeatedItem items [] = none ∧
      fieldAt 0 1 p < 128 ∧ laneItems items (s.lane (fieldAt 0 1 p)) = .inl y ∧ (∃ x ∈ items, x.1 ≤ 6) ∧
      (s.untaggedPlan (fieldAt 0 1 p) = false ∨ vlanItem items = none) ∧ s.laneTraffic (fieldAt 0 1 p) = true)
    (fun _ _ s => s) (fun _ _ _ => ansBusy 6)) ∧
  (∀ k items y s, Accepted opLaneCfg k s → let p := effPar opLaneCfg k; let e := entered opLaneCfg k s
    e.boot.trainFail = false → (parseItems p.length 36 (p.drop 4)).1 = some items → repeatedItem items [] = none → fieldAt 0 1 p < 128 →
    laneItems items (e.lane (fieldAt 0 1 p)) = .inl y → (∃ x ∈ items, x.1 ≤ 6) →
    (e.untaggedPlan (fieldAt 0 1 p) = false ∨ vlanItem items = none) → e.laneTraffic (fieldAt 0 1 p) = false →
    e.lanes.lane.length = 128 →
    ∃ t, exec (.laneCfg k) s = .next (committed opLaneCfg k t ansOk) ∧ (t.lane (fieldAt 0 1 p)).state = .train ∧
      (t.lane (fieldAt 0 1 p)).fj = y.fj ∧ (t.lane (fieldAt 0 1 p)).meshUp = false ∧ (t.lane (fieldAt 0 1 p)).linkAt = none) ∧
  Does .laneDoze opLaneDoze
    (fun _ p s => s.boot.trainFail = false ∧ dozeRefusal (maskLanes p) ((fieldAt 16 1 p).testBit 0) ((fieldAt 16 1 p).testBit 1) s = none)
    (fun _ p s => (maskLanes p).foldl (fun s l => dozeLane l ((fieldAt 16 1 p).testBit 0) ((fieldAt 16 1 p).testBit 1) s) s)
    (fun _ _ _ => ansOk) ∧
  (∀ code, Does .laneDoze opLaneDoze
    (fun _ p s => s.boot.trainFail = false ∧
      dozeRefusal (maskLanes p) ((fieldAt 16 1 p).testBit 0) ((fieldAt 16 1 p).testBit 1) s = some code)
    (fun _ _ s => s) (fun _ _ _ => ansBusy code)) ∧
  Does .laneWake opLaneWake (fun _ _ s => s.boot.trainFail = false)
    (fun _ p s => (maskLanes p).foldl (fun s l => wakeLane l ((fieldAt 16 1 p).testBit 0) ((fieldAt 16 1 p).testBit 1) s) s)
    (fun _ _ _ => ansOk) ∧
  (∀ i op, (i, op) ∈ [(Instr.laneCfg, opLaneCfg), (.laneDoze, opLaneDoze), (.laneWake, opLaneWake)] →
    Does i op (fun k _ s => s.boot.trainFail = true ∧ k.path ≠ .gkr ∧ k.path ≠ .smbus) (fun _ _ s => s) (fun _ _ _ => ansBusy 4)) ∧
  (∀ l s, s.lanes.lane.length = 128 → l < 128 →
    ((dozeLane l true false s).lane l).txDoze = true ∧ ((dozeLane l false true s).lane l).rxDoze = true ∧ dozeLane l false false s = s ∧
    ((wakeLane l true false s).lane l).txDoze = false ∧ ((wakeLane l true false s).lane l).txQuiet = false ∧
    ((wakeLane l false true s).lane l).rxDoze = false ∧ wakeLane l false false s = s) ∧
  Does .laneQuiet opLaneQuiet Claims.always (fun _ p s => quietLanes (maskLanes p) s) (fun _ _ _ => ansOk) ∧
  (∀ ls s, s.lanes.lane.length = 128 → ∀ l < 128,
    ((quietLanes ls s).lane l).txQuiet = ((s.lane l).txQuiet || ls.contains l) ∧
    ((quietLanes ls s).lane l).state = (s.lane l).state ∧ ((quietLanes ls s).lane l).txDoze = (s.lane l).txDoze)

/-! ### Memory commands -/

/-- R241, R280, R285, R291, R294: unless DRAM training failed: MEM_READ of bytes that the host may read, and MEM_WRITE where it may write, start a DMA whose
sub-bursts wait at the DRAM ports as requests of master 4; MEM_READ of other bytes of DRAM sends zeros and is counted as denied; past the end of DRAM,
and where the host may not write, they are refused. A sub-burst that is granted stores its data, or hands the bytes read to its transfer; starting the
DMA changes no byte. MEM_REPAIR asks for the repair of its row, or names a bad field. MEM_TRAIN enters its channels while no plan is active, and is BUSY
otherwise. The four are BUSY 4 after a failed training.
Rests on log 6, 98 and 142. -/
def Obligations.MemoryCommandsAct : Prop :=
  Does .memRead opMemRead
    (fun _ p s => s.boot.trainFail = false ∧ fieldAt 0 8 p + fieldAt 8 8 p ≤ dramEnd ∧ pcieReadable (fieldAt 0 8 p) (fieldAt 8 8 p) = true)
    (fun k p s => startDma k.seq false (BitVec.ofNat 64 (fieldAt 16 8 p)) (fieldAt 0 8 p) (fieldAt 8 8 p) [] s)
    (fun _ _ _ => ansAccepted) ∧
  Does .memRead opMemRead
    (fun _ p s => s.boot.trainFail = false ∧ fieldAt 0 8 p + fieldAt 8 8 p ≤ dramEnd ∧ pcieReadable (fieldAt 0 8 p) (fieldAt 8 8 p) = false)
    (fun k p s => startTransfer { seq := k.seq, kind := .memRead, addr := BitVec.ofNat 64 (fieldAt 16 8 p),
                                  data := zeros (fieldAt 8 8 p), len := fieldAt 8 8 p } (denied s))
    (fun _ _ _ => ansAccepted) ∧
  Does .memRead opMemRead (fun _ p s => s.boot.trainFail = false ∧ dramEnd < fieldAt 0 8 p + fieldAt 8 8 p) (fun _ _ s => s)
    (fun _ _ _ => ansField 32) ∧
  Does .memWrite opMemWrite
    (fun _ p s => s.boot.trainFail = false ∧ s.pcieWritable (fieldAt 0 8 p) (fieldAt 8 8 p) = true)
    (fun k p s => startDma k.seq true 0 (fieldAt 0 8 p) (fieldAt 8 8 p) (fit (fieldAt 8 8 p) k.dma) s)
    (fun _ _ _ => ansAccepted) ∧
  Does .memWrite opMemWrite
    (fun _ p s => s.boot.trainFail = false ∧ s.pcieWritable (fieldAt 0 8 p) (fieldAt 8 8 p) = false)
    (fun _ _ s => s) (fun _ _ _ => ansField 32) ∧
  (∀ seq w host a n data s, (startDma seq w host a n data s).mem = s.mem ∧
    ∃ t, (startDma seq w host a n data s).pcie.transfers = s.pcie.transfers ++ [t] ∧ t.seq = seq ∧ t.len = n ∧ t.dev = a ∧
      t.xfer = s.tl.nextXfer ∧ t.addr = (if w then BitVec.ofNat 64 a else host)) ∧
  (∀ q s, q.write = true → q.data ≠ [] → doSub q s = dramStore q.addr q.data s) ∧
  (∀ q s, q.write = false → q.xfer ≠ 0 → (doSub q s).mem.dram = s.mem.dram ∧
    ∀ t ∈ (doSub q s).pcie.transfers, t.xfer = q.xfer → (q.addr - t.dev, s.dramRead q.addr q.bytes) ∈ t.got) ∧
  Does .memRepair opMemRepair
    (fun _ p s => s.boot.trainFail = false ∧ fieldAt 0 1 p < 16 ∧ fieldAt 4 8 p < spareBase ∧ chanOf (fieldAt 4 8 p) = fieldAt 0 1 p)
    (fun _ p s => askRepair (fieldAt 0 1 p) (rowOf (fieldAt 4 8 p)) s) (fun _ _ _ => ansAccepted) ∧
  Does .memRepair opMemRepair (fun _ p s => s.boot.trainFail = false ∧ 16 ≤ fieldAt 0 1 p) (fun _ _ s => s) (fun _ _ _ => ansField 32) ∧
  Does .memRepair opMemRepair
    (fun _ p s => s.boot.trainFail = false ∧ fieldAt 0 1 p < 16 ∧ (spareBase ≤ fieldAt 4 8 p ∨ chanOf (fieldAt 4 8 p) ≠ fieldAt 0 1 p))
    (fun _ _ s => s) (fun _ _ _ => ansField 36) ∧
  Does .memTrain opMemTrain (fun _ _ s => s.boot.trainFail = false ∧ s.plan.active = none)
    (fun _ p s => { s with mem := { s.mem with training := s.mem.training ||| BitVec.ofNat 16 (fieldAt 0 2 p) } })
    (fun _ _ _ => ansAccepted) ∧
  Does .memTrain opMemTrain (fun _ _ s => s.boot.trainFail = false ∧ s.plan.active.isSome = true) (fun _ _ s => s)
    (fun _ _ s => ansBusy s.planCode) ∧
  (∀ i op, (i, op) ∈ [(Instr.memRead, opMemRead), (.memWrite, opMemWrite), (.memRepair, opMemRepair), (.memTrain, opMemTrain)] →
    Does i op (fun k _ s => s.boot.trainFail = true ∧ k.path ≠ .gkr ∧ k.path ≠ .smbus) (fun _ _ s => s) (fun _ _ _ => ansBusy 4))

/-- R271: device DRAM is memory. A store of some bytes at an address is read back byte for byte, and every other byte keeps its
value.
Rests on log 9. -/
def Obligations.DramStoresAreReadBack : Prop :=
  (∀ (m : List Host.Cell) a b, Memory.wf m = true → Memory.read a (Memory.write a b m) = b) ∧
  (∀ (m : List Host.Cell) a b x, Memory.wf m = true → x ≠ a → Memory.read x (Memory.write a b m) = Memory.read x m) ∧
  (∀ a bs s, Canonical s → (dramStore a bs s).dramRead a bs.length = bs) ∧
  (∀ a bs s x, Canonical s → (x < a ∨ a + bs.length ≤ x) → (dramStore a bs s).dramRead x 1 = s.dramRead x 1)

/-! ### Spares, stripes, supervisors, firmware -/

/-- R299, R307: GRAFT under a plan of a dealt cell whose bed has a spare and no graft in hand schedules its graft and names the spare; where the bed
has no spare, or a graft in hand, it answers NO_SPARE; without a plan the cell is retired at once. A cell that is retired, a spare, or under a plan
not dealt is refused. STRIPE_POWER without a point: ON of a stripe that is not lost powers it, its cells to be tested where it was off, and of a lost one
answers NO_SPARE; OFF waits, under a plan, for the re-plan that it forces, and without a plan the stripe is off at once; OFF of a stripe that is off or
going off changes nothing. STRIPE_TEST_DONE ends the test of a stripe under test and changes nothing of another.
Rests on log 77. -/
def Obligations.SparesAndStripesByCommand : Prop :=
  (∀ p0 sp, Does .graft opGraft
    (fun _ p s => fieldAt 0 2 p < 1360 ∧ s.spareOf (bedOf (fieldAt 0 2 p)) = some sp ∧ sp ≠ fieldAt 0 2 p ∧
      fieldAt 0 2 p ∉ s.cells.retired ∧ s.plan.active = some p0 ∧ fieldAt 0 2 p ∈ p0.cellMap ∧
      s.graftingIn (bedOf (fieldAt 0 2 p)) = false)
    (fun _ p s => scheduleGraft (fieldAt 0 2 p) s) (fun _ _ s => ansOk (le2 sp ++ le2 s.plan.mapGen.toNat))) ∧
  (∀ p0, Does .graft opGraft
    (fun _ p s => fieldAt 0 2 p < 1360 ∧ s.spareOf (bedOf (fieldAt 0 2 p)) ≠ some (fieldAt 0 2 p) ∧
      fieldAt 0 2 p ∉ s.cells.retired ∧ s.plan.active = some p0 ∧ fieldAt 0 2 p ∈ p0.cellMap ∧
      (s.spareOf (bedOf (fieldAt 0 2 p)) = none ∨ s.graftingIn (bedOf (fieldAt 0 2 p)) = true))
    (fun _ _ s => s) (fun _ _ _ => ansRefuse .noSpare)) ∧
  Does .graft opGraft
    (fun _ p s => fieldAt 0 2 p < 1360 ∧ s.spareOf (bedOf (fieldAt 0 2 p)) ≠ some (fieldAt 0 2 p) ∧
      fieldAt 0 2 p ∉ s.cells.retired ∧ s.plan.active = none)
    (fun _ p s => rewriteHealth (retireCell (fieldAt 0 2 p) s)) (fun _ _ s => ansOk (le2 0xFFFF ++ le2 s.plan.mapGen.toNat)) ∧
  Does .graft opGraft
    (fun _ p s => 1360 ≤ fieldAt 0 2 p ∨ fieldAt 0 2 p ∈ s.cells.retired ∨ s.spareOf (bedOf (fieldAt 0 2 p)) = some (fieldAt 0 2 p) ∨
      ∃ p0, s.plan.active = some p0 ∧ fieldAt 0 2 p ∉ p0.cellMap)
    (fun _ _ s => s) (fun _ _ _ => ansField 32) ∧
  Does .stripePower opStripePower
    (fun _ p s => fieldAt 0 1 p < 10 ∧ fieldAt 1 1 p = 1 ∧ s.cells.stripeLost.getLsbD (fieldAt 0 1 p) = false)
    (fun _ p s => powerUp (fieldAt 0 1 p) s) (fun _ _ _ => ansOk) ∧
  (∀ st s, st < 10 → s.cells.powered.getLsbD st = false → (powerUp st s).cells.powered.getLsbD st = true ∧ st ∈ (powerUp st s).cells.stripeTest ∧
    (∀ st', st' ≠ st → (powerUp st s).cells.powered.getLsbD st' = s.cells.powered.getLsbD st')) ∧
  Does .stripePower opStripePower
    (fun _ p s => fieldAt 0 1 p < 10 ∧ fieldAt 1 1 p = 1 ∧ s.cells.stripeLost.getLsbD (fieldAt 0 1 p) = true)
    (fun _ _ s => s) (fun _ _ _ => ansRefuse .noSpare) ∧
  (∀ p0, Does .stripePower opStripePower
    (fun _ p s => fieldAt 0 1 p < 10 ∧ fieldAt 1 1 p = 0 ∧ s.plan.active = some p0 ∧
      s.cells.powered.getLsbD (fieldAt 0 1 p) = true ∧ s.cells.stripeOff.any (·.stripe = fieldAt 0 1 p) = false)
    (fun _ p s => forcePlan 4 { s with cells := { s.cells with
      stripeOff := s.cells.stripeOff ++ [{ stripe := fieldAt 0 1 p, point := some 0, cue := none }] } })
    (fun _ _ _ => ansOk)) ∧
  (∀ k s, Accepted opStripePower k s → let p := effPar opStripePower k; let e := entered opStripePower k s
    fieldAt 0 1 p < 10 → fieldAt 1 1 p = 0 → e.plan.active = none → e.cells.powered.getLsbD (fieldAt 0 1 p) = true →
    e.cells.stripeOff.any (·.stripe = fieldAt 0 1 p) = false →
    ∃ t, exec (.stripePower k) s = .next (committed opStripePower k t ansOk) ∧ t.cells.powered.getLsbD (fieldAt 0 1 p) = false) ∧
  Does .stripePower opStripePower
    (fun _ p s => fieldAt 0 1 p < 10 ∧ fieldAt 1 1 p = 0 ∧ s.plan.active.isSome = true ∧
      (s.cells.powered.getLsbD (fieldAt 0 1 p) = false ∨ s.cells.stripeOff.any (·.stripe = fieldAt 0 1 p) = true))
    (fun _ _ s => s) (fun _ _ _ => ansOk) ∧
  (∀ (st : Fin 10) s, s.dieRuns = true → st.val ∈ s.cells.stripeTest → exec (.stripeTestDone st) s = .next (rewriteHealth
    { s with cells := { s.cells with stripeTest := s.cells.stripeTest.filter (· ≠ st.val) } })) ∧
  (∀ (st : Fin 10) s, st.val ∉ s.cells.stripeTest → exec (.stripeTestDone st) s = .next s)

/-- R315, R323, R241, R372: SUPERVISOR_HANDOVER to a standby core runs at once without a plan and otherwise at the next boundary, and answers NO_SPARE
where the other core is not standby; the handover gives the lease to the other core with the next TERM. SUPERVISOR_RESET resets the core named, or both,
and a lease of a core that resets lapses. FW_IMAGE_WRITE puts the image into a slot that no core runs, and is BUSY for one that a core runs. FW_UPDATE
to a valid, compatible image that is not running starts with the standby core's reset; to the image that both cores run it changes nothing; to an image that
is not valid or compatible it is refused, while an update runs it is BUSY 1, and without a standby core it answers NO_SPARE.
Rests on log 4, 88, 122 and 148. -/
def Obligations.SupervisorCommandsAct : Prop :=
  Does .supervisorHandover opSupervisorHandover (fun _ _ s => s.core (1 - s.leaseCore) = .standby ∧ s.plan.active = none)
    (fun _ _ s => handover 1 s) (fun _ _ _ => ansOk) ∧
  Does .supervisorHandover opSupervisorHandover (fun _ _ s => s.core (1 - s.leaseCore) = .standby ∧ s.plan.active.isSome = true)
    (fun _ _ s => { s with sup := { s.sup with handoverDue := 1 } }) (fun _ _ _ => ansOk) ∧
  Does .supervisorHandover opSupervisorHandover (fun _ _ s => s.core (1 - s.leaseCore) ≠ .standby) (fun _ _ s => s)
    (fun _ _ _ => ansRefuse .noSpare) ∧
  (∀ s, s.leaseHeld = true → s.core (1 - s.leaseCore) = .standby → (handover 1 s).leaseCore = 1 - s.leaseCore ∧
    (handover 1 s).leaseHeld = true ∧ (handover 1 s).leaseTerm = (s.leaseTerm + 1) % 2 ^ 24 ∧
    (handover 1 s).core s.leaseCore = .standby ∧ (handover 1 s).core (1 - s.leaseCore) = .active) ∧
  (∀ n < 2, Does .supervisorReset opSupervisorReset (fun _ p _ => fieldAt 0 1 p = n) (fun _ _ s => resetCore n s)
    (fun _ _ _ => ansOk)) ∧
  (∀ n s, n < 2 → (resetCore n s).core n = .boot ∧ (s.leaseHeld = true → s.leaseCore = n → (resetCore n s).leaseHeld = false ∨
    (resetCore n s).leaseCore ≠ n)) ∧
  Does .supervisorReset opSupervisorReset (fun _ p _ => fieldAt 0 1 p = 2)
    (fun _ _ s => resetCore s.leaseCore (s.setCore (1 - s.leaseCore) .boot)) (fun _ _ _ => ansOk) ∧
  Does .supervisorReset opSupervisorReset (fun _ p _ => 2 < fieldAt 0 1 p) (fun _ _ s => s) (fun _ _ _ => ansField 32) ∧
  Does .fwImageWrite opFwImageWrite
    (fun _ p s => fieldAt 0 1 p = 1 ∧ fieldAt 16 8 p ≤ 16 * 2 ^ 20 ∧ s.running 0 = false ∧ s.running 1 = false)
    (fun k p s => startTransfer { seq := k.seq, kind := .image, addr := BitVec.ofNat 64 (fieldAt 8 8 p), len := fieldAt 16 8 p }
      { s with flash := { s.flash with imageB := imageOf (fit (fieldAt 16 8 p) k.dma) } })
    (fun _ _ _ => ansAccepted) ∧
  Does .fwImageWrite opFwImageWrite
    (fun _ p s => fieldAt 0 1 p = 0 ∧ fieldAt 16 8 p ≤ 16 * 2 ^ 20 ∧ s.running 0 = true ∧ s.running 1 = true)
    (fun k p s => startTransfer { seq := k.seq, kind := .image, addr := BitVec.ofNat 64 (fieldAt 8 8 p), len := fieldAt 16 8 p }
      { s with flash := { s.flash with imageA := imageOf (fit (fieldAt 16 8 p) k.dma) } })
    (fun _ _ _ => ansAccepted) ∧
  Does .fwImageWrite opFwImageWrite
    (fun _ p s => fieldAt 0 1 p ≤ 1 ∧ fieldAt 16 8 p ≤ 16 * 2 ^ 20 ∧
      (s.running 0 = decide (fieldAt 0 1 p = 1) ∨ s.running 1 = decide (fieldAt 0 1 p = 1)))
    (fun _ _ s => s) (fun _ _ _ => ansBusy 0) ∧
  Does .fwUpdate opFwUpdate
    (fun _ p s => fieldAt 0 1 p ≤ 1 ∧ ¬ (s.running 0 = decide (fieldAt 0 1 p = 1) ∧ s.running 1 = decide (fieldAt 0 1 p = 1)) ∧
      (s.image (fieldAt 0 1 p = 1)).valid = true ∧
      (s.image (fieldAt 0 1 p = 1)).compat = (s.image (s.running s.leaseCore)).compat ∧ s.boot.fwUpdate ≠ 1 ∧
      s.core (1 - s.leaseCore) = .standby)
    (fun _ p s => ({ s with boot := { s.boot with fwUpdate := 1, fwStep := 1, fwImage := fieldAt 0 1 p = 1 } } : State).setCore
      (1 - s.leaseCore) .boot)
    (fun _ _ _ => ansAccepted) ∧
  Does .fwUpdate opFwUpdate
    (fun _ p s => fieldAt 0 1 p ≤ 1 ∧ s.running 0 = decide (fieldAt 0 1 p = 1) ∧ s.running 1 = decide (fieldAt 0 1 p = 1))
    (fun _ _ s => s) (fun _ _ _ => ansOk) ∧
  Does .fwUpdate opFwUpdate
    (fun _ p s => fieldAt 0 1 p ≤ 1 ∧ ¬ (s.running 0 = decide (fieldAt 0 1 p = 1) ∧ s.running 1 = decide (fieldAt 0 1 p = 1)) ∧
      ((s.image (fieldAt 0 1 p = 1)).valid = false ∨
        (s.image (fieldAt 0 1 p = 1)).compat ≠ (s.image (s.running s.leaseCore)).compat))
    (fun _ _ s => s) (fun _ _ _ => ansField 32) ∧
  Does .fwUpdate opFwUpdate
    (fun _ p s => fieldAt 0 1 p ≤ 1 ∧ ¬ (s.running 0 = decide (fieldAt 0 1 p = 1) ∧ s.running 1 = decide (fieldAt 0 1 p = 1)) ∧ (s.image (fieldAt 0 1 p = 1)).valid = true ∧
      (s.image (fieldAt 0 1 p = 1)).compat = (s.image (s.running s.leaseCore)).compat ∧
      (s.boot.fwUpdate = 1 ∨ s.core (1 - s.leaseCore) ≠ .standby))
    (fun _ _ s => s) (fun _ _ s => if s.boot.fwUpdate = 1 then ansBusy 1 else ansRefuse .noSpare)

/-! ### Almanac and replay commands -/

/-- R339 to R341: unless DRAM training failed: ALMANAC_READ of a number that is held sends the records from it in RN order, and of another is refused;
ALMANAC_FREEZE freezes the mirror and, until the writer has answered or 1 ms is over, its reply waits, otherwise it answers at once with the span in force;
ALMANAC_THAW of a frozen journal releases both parts, and of one that is not frozen changes nothing. The three are BUSY 4 after a failed training.
Rests on log 94 and 95. -/
def Obligations.AlmanacCommandsAct : Prop :=
  Does .almanacRead opAlmanacRead (fun _ p s => s.boot.trainFail = false ∧ (s.heldRecord (fieldAt 0 8 p)).isSome = true)
    (fun k p s => startTransfer { seq := k.seq, kind := .almanac, addr := BitVec.ofNat 64 (fieldAt 16 8 p),
                                  data := Claims.recordsFrom p s, len := (Claims.recordsFrom p s).length } s)
    (fun _ p s => ansAccepted (le8 (Claims.recordsFrom p s).length)) ∧
  Does .almanacRead opAlmanacRead (fun _ p s => s.boot.trainFail = false ∧ s.heldRecord (fieldAt 0 8 p) = none) (fun _ _ s => s)
    (fun _ _ _ => ansField 32) ∧
  (∀ r : RingId, Owes .almanacFreeze opAlmanacFreeze
    (fun k _ s => s.boot.trainFail = false ∧ pathRing k.path = some r ∧ (freezeStart 0xFFFF s).alm.freezeAsked = true ∧
      (freezeStart 0xFFFF s).passed (freezeStart 0xFFFF s).alm.freezeAt 1000000 = false)
    (fun k _ s => { (Claims.oweOne r (freezeStart 0xFFFF s)) with
      alm := { (freezeStart 0xFFFF s).alm with freezeReplies := (freezeStart 0xFFFF s).alm.freezeReplies ++ [(k, false)] }
      kcp := { (Claims.oweOne r (freezeStart 0xFFFF s)).kcp with executing := true } })) ∧
  Owes .almanacFreeze opAlmanacFreeze
    (fun k _ s => s.boot.trainFail = false ∧ pathRing k.path = none ∧ (freezeStart 0xFFFF s).alm.freezeAsked = true ∧
      (freezeStart 0xFFFF s).passed (freezeStart 0xFFFF s).alm.freezeAt 1000000 = false)
    (fun k _ s => { freezeStart 0xFFFF s with
      alm := { (freezeStart 0xFFFF s).alm with freezeReplies := (freezeStart 0xFFFF s).alm.freezeReplies ++ [(k, false)] }
      kcp := { (freezeStart 0xFFFF s).kcp with executing := true } }) ∧
  Does .almanacFreeze opAlmanacFreeze
    (fun _ _ s => s.boot.trainFail = false ∧ ((freezeStart 0xFFFF s).alm.freezeAsked = false ∨
      (freezeStart 0xFFFF s).passed (freezeStart 0xFFFF s).alm.freezeAt 1000000 = true))
    (fun _ _ s => freezeStart 0xFFFF s) (fun _ _ s => ansOk (freezeStart 0xFFFF s).spanInForce) ∧
  (∀ s, s.gk.mirrorFrozen = false → (freezeStart 0xFFFF s).gk.mirrorFrozen = true ∧ (freezeStart 0xFFFF s).alm.freezeAsked = true ∧
    (freezeStart 0xFFFF s).alm.freezeAt = s.now) ∧
  Does .almanacThaw opAlmanacThaw (fun _ _ s => s.boot.trainFail = false ∧ s.frozen = false) (fun _ _ s => s) (fun _ _ _ => ansOk) ∧
  (∀ k s, Accepted opAlmanacThaw k s → (entered opAlmanacThaw k s).boot.trainFail = false → (entered opAlmanacThaw k s).frozen = true →
    ∃ t, exec (.almanacThaw k) s = .next (committed opAlmanacThaw k t ansOk) ∧ t.frozen = false ∧ t.gk.freezeCause = 0 ∧
      t.alm.dramSpan = none ∧ t.alm.frozenSpan = none ∧ t.alm.freezeAsked = false) ∧
  (∀ i op, (i, op) ∈ [(Instr.almanacRead, opAlmanacRead), (.almanacFreeze, opAlmanacFreeze), (.almanacThaw, opAlmanacThaw)] →
    Does i op (fun k _ s => s.boot.trainFail = true ∧ k.path ≠ .gkr ∧ k.path ≠ .smbus) (fun _ _ s => s) (fun _ _ _ => ansBusy 4))

/-- R349, R350: unless DRAM training failed: REPLAY_START, without a plan and without a replay, of a window that the journal covers starts the replay, and of
one that it does not cover is refused; REPLAY_INPUT of whole units appends them while a replay takes input and there is room, and is BUSY where none
does or there is no room; REPLAY_STOP ends a replay at once and changes nothing without one. The three are BUSY 4 after a failed training.
Rests on log 99 and 122. -/
def Obligations.ReplayCommandsAct : Prop :=
  (∀ i b x, Does .replayStart opReplayStart
    (fun _ p s => s.boot.trainFail = false ∧ s.plan.active = none ∧ s.replaying = false ∧ fieldAt 0 8 p ≤ fieldAt 8 8 p ∧
      fieldAt 16 1 p ≤ 1 ∧ windowCkpt s.image_.1 (fieldAt 0 8 p) = some (i, b, x) ∧
      s.image_.1.any (fun r => r.type = 0x20 && decide (fieldAt 8 8 p / b.basis.req.T ≤ fieldAt 4 4 r.body)) = true ∧
      replayNeed b.basis ≤ replaySize)
    (fun _ p s => { s with rpl := { state := 1, badRecords := BitVec.ofNat 32 s.image_.2, nextSample := fieldAt 0 8 p,
                                    lastSample := fieldAt 8 8 p, input := fieldAt 16 1 p = 1 } })
    (fun _ _ _ => ansAccepted)) ∧
  Does .replayStart opReplayStart
    (fun _ p s => s.boot.trainFail = false ∧ s.plan.active = none ∧ s.replaying = false ∧ fieldAt 0 8 p ≤ fieldAt 8 8 p ∧
      fieldAt 16 1 p ≤ 1 ∧ windowCkpt s.image_.1 (fieldAt 0 8 p) = none)
    (fun _ _ s => s) (fun _ _ _ => ansField 32) ∧
  Does .replayStart opReplayStart (fun _ _ s => s.boot.trainFail = false ∧ s.plan.active.isSome = true) (fun _ _ s => s)
    (fun _ _ s => ansBusy s.planCode) ∧
  Does .replayStart opReplayStart (fun _ _ s => s.boot.trainFail = false ∧ s.plan.active = none ∧ s.replaying = true) (fun _ _ s => s)
    (fun _ _ s => ansBusy s.rpl.state) ∧
  Does .replayInput opReplayInput
    (fun _ p s => s.boot.trainFail = false ∧ s.replaying = true ∧ s.rpl.input = true ∧ fieldAt 8 8 p % 8208 = 0 ∧
      s.rpl.units.length * 8208 + fieldAt 8 8 p ≤ inputSize)
    (fun k p s => { startTransfer { seq := k.seq, kind := .replayInput, addr := BitVec.ofNat 64 (fieldAt 0 8 p),
                                    len := fieldAt 8 8 p } s with
      rpl := { s.rpl with units := s.rpl.units ++
        (List.range (fieldAt 8 8 p / 8208)).map fun i => unitOfBytes (slice (8208 * i) 8208 k.dma) } })
    (fun _ _ _ => ansAccepted) ∧
  Does .replayInput opReplayInput
    (fun _ p s => s.boot.trainFail = false ∧ s.replaying = true ∧ s.rpl.input = true ∧ fieldAt 8 8 p % 8208 = 0 ∧
      inputSize < s.rpl.units.length * 8208 + fieldAt 8 8 p)
    (fun _ _ s => s) (fun _ _ s => ansBusy s.rpl.state) ∧
  Does .replayInput opReplayInput (fun _ _ s => s.boot.trainFail = false ∧ (s.replaying = false ∨ s.rpl.input = false)) (fun _ _ s => s)
    (fun _ _ s => ansBusy s.rpl.state) ∧
  Does .replayStop opReplayStop (fun _ _ s => s.boot.trainFail = false ∧ s.replaying = false) (fun _ _ s => s) (fun _ _ _ => ansOk) ∧
  Does .replayStop opReplayStop (fun _ _ s => s.boot.trainFail = false ∧ s.replaying = true) (fun _ _ s => endReplay 6 0 s)
    (fun _ _ _ => ansOk) ∧
  (∀ s, (endReplay 6 0 s).rpl.state = 6 ∧ (endReplay 6 0 s).mem = s.mem) ∧
  (∀ i op, (i, op) ∈ [(Instr.replayStart, opReplayStart), (.replayInput, opReplayInput), (.replayStop, opReplayStop)] →
    Does i op (fun k _ s => s.boot.trainFail = true ∧ k.path ≠ .gkr ∧ k.path ≠ .smbus) (fun _ _ s => s) (fun _ _ _ => ansBusy 4))

/-! ### Rings and doorbells -/

/-- R225, R228, R231: a command doorbell of an enabled ring, not halted, places the packets and has them taken; more units than the ring holds halt it
with cause 3; a doorbell of a disabled or halted ring is ignored. A reply doorbell is the index consumed, as written, and ends a stall where it frees
room. ENABLE from 0 to 1 resets both indexes and ends a halt; ENABLE of an enabled ring changes nothing; ENABLE 0 disables. SEQ_RESET starts the ring's
series anew and discards its stored replies. The groundskeeper's ring takes both writes while it serves, the other rings once the bus is up; before
that a write to them times out at the bridge. A halted ring keeps its packets, and no other ring is touched.
Rests on log 24 and 103. -/
def Obligations.RingsAreRungAndEnabled : Prop :=
  (∀ r i placed dma s, s.clk.held = false → (s.ring r).enable = true → (s.ring r).halted = false →
    (i - (s.ring r).cons).toNat ≤ (s.ring r).cmdUnits →
    exec (.commandDoorbell r i placed dma) s = .next (serve (s.setRing r { s.ring r with
      prod := i, mem := (s.ring r).mem ++ fit (64 * (i - (s.ring r).prod).toNat) placed,
      dma := (s.ring r).dma ++ dma.map fun d => (s.now, d) }))) ∧
  (∀ r i placed dma s, s.clk.held = false → (s.ring r).enable = true → (s.ring r).halted = false →
    (s.ring r).cmdUnits < (i - (s.ring r).cons).toNat →
    exec (.commandDoorbell r i placed dma) s = .next (haltRing r 3 s)) ∧
  (∀ r i placed dma s, (s.clk.held = true ∨ (s.ring r).enable = false ∨ (s.ring r).halted = true) →
    exec (.commandDoorbell r i placed dma) s = .next s) ∧
  (∀ r cause s, ((haltRing r cause s).ring r).halted = true ∧ ((haltRing r cause s).ring r).haltCause = cause ∧
    ((haltRing r cause s).ring r).mem = (s.ring r).mem ∧ ∀ q, q ≠ r → (haltRing r cause s).ring q = s.ring q) ∧
  (∀ r i s, s.clk.held = false →
    exec (.replyDoorbell r i) s = .next (serve (s.setRing r { s.ring r with
      rplCons := i, stall := (s.ring r).stall && !(Ring.room r { s.ring r with rplCons := i } (s.relayUnits r)) }))) ∧
  (∀ r s, s.gkServes = true → (r = .gkr ∨ s.busUp = true) → (s.ring r).enable = false →
    exec (.ringEnable r true) s = .next (s.setRing r { s.ring r with
      enable := true, halted := false, haltCause := 0, cons := 0, prod := 0, rplProd := 0, rplCons := 0, mem := [], dma := [],
      stall := false })) ∧
  (∀ r s, s.gkServes = true → (r = .gkr ∨ s.busUp = true) → (s.ring r).enable = true → exec (.ringEnable r true) s = .next s) ∧
  (∀ r s, s.gkServes = true → (r = .gkr ∨ s.busUp = true) →
    exec (.ringEnable r false) s = .next (s.setRing r { s.ring r with enable := false, stall := false })) ∧
  (∀ r s, s.gkServes = true → (r = .gkr ∨ s.busUp = true) → exec (.seqReset r) s = .next (s.setSeries (ringPath r) {})) ∧
  (∀ r e s, s.gkServes = true → r ≠ .gkr → s.busUp = false →
    exec (.ringEnable r e) s = .next (busTimeout s) ∧ exec (.seqReset r) s = .next (busTimeout s)) ∧
  (∀ p q (s : State), (s.setSeries p {}).series q = if pathSeries p = pathSeries q then {} else s.series q)

/-- R225, R226: an ECHO that the host places in an empty Urgent or Normal ring with its doorbell is executed exactly as the ECHO
command, when no other packet waits anywhere.
Rests on log 103. -/
def Obligations.DoorbellRunsItsPacket : Prop :=
  ∀ k r s, (r = .urg ∨ r = .nrm) → k.path = ringPath r → k.params.length = k.plen.toNat → Accepted opEcho k s →
    (∀ q, (s.ring q).mem = [] ∧ (s.ring q).dma = []) → s.kcp.meshWaiting = [] → (s.ring r).stall = false → (s.ring r).prod = (s.ring r).cons →
    kUnits k ≤ (s.ring r).cmdUnits → s.kcp.bulkNext = true →
    exec (.commandDoorbell r ((s.ring r).prod + BitVec.ofNat 32 (kUnits k)) (padTo 64 (kWire 0x0001 k)) [k.dma]) s =
      exec (.echo k) s

/-! ### Registers -/

/-- R6: an RWC register takes a value by a write of the value and then of its complement on one path. A write of the value only fills that
path's holder; a matching complement makes it take effect and empties the holder; anything else discards it, leaves the effective
value and is counted in GEN_RWC_MISMATCH; reads return the effective value and its complement; the BAR0 and SMBus paths do not meet. -/
def Obligations.RwcPairsTakeEffectTogether : Prop :=
  (∀ path v s, s.gkServes = true → exec (.rwcValueWrite path 0x1428 v) s = .next (s.setHolder path (some (0x1428, v)))) ∧
  (∀ path v s, s.gkServes = true → s.holder path = some (0x1428, v) →
    exec (.rwcComplementWrite path 0x142C (~~~ v)) s =
      .next { (s.setHolder path none) with time := { s.time with jumpThr := v } }) ∧
  (∀ path v w s, s.gkServes = true → s.holder path = some (0x1428, v) → w ≠ ~~~ v →
    exec (.rwcComplementWrite path 0x142C w) s = .next ((s.setHolder path none).bump .genRwcMismatch)) ∧
  (∀ path w s, s.gkServes = true → s.holder path = none →
    exec (.rwcComplementWrite path 0x142C w) s = .next ((s.setHolder path none).bump .genRwcMismatch)) ∧
  (∀ path s, readReg path 0x1428 s = some s.time.jumpThr ∧ readReg path 0x142C s = some (~~~ s.time.jumpThr)) ∧
  (∀ path h (s : State), (s.setHolder path h).holder path = h ∧ (s.setHolder path h).time = s.time ∧
    ∀ other, other ≠ path → (s.setHolder path h).holder other = s.holder other)

/-- R194: a read of TM_NOW_LO returns the low word of device time and latches the middle word, the fraction and the FRC of the same TCLK
period for its own path; reads of the latched words then return them while time moves on. -/
def Obligations.TimeReadsAreLatched : Prop :=
  (∀ s, 2 ≤ s.boot.step → ∃ t, exec (.tmNowRead .bar0) s = .next t ∧
    t.pcie.lastRead = le4 (nsOf s.time16).toNat ∧ t.time.nowLatchSmb = s.time.nowLatchSmb ∧
    readReg .bar0 0x1408 t = some (BitVec.ofNat 32 ((nsOf s.time16).toNat / 2 ^ 32)) ∧
    readReg .bar0 0x140C t = some (BitVec.ofNat 32 (fracOf s.time16).toNat) ∧
    readReg .bar0 0x1410 t = some (BitVec.ofNat 32 s.now) ∧ readReg .bar0 0x1414 t = some (BitVec.ofNat 32 (s.now / 2 ^ 32)) ∧
    t.time16 = s.time16) ∧
  (∀ s, 2 ≤ s.boot.step → ∃ t, exec (.tmNowRead .smbus) s = .next t ∧
    t.smb.lastRead = le4 (nsOf s.time16).toNat ∧ t.time.nowLatch = s.time.nowLatch ∧
    readReg .smbus 0x1408 t = some (BitVec.ofNat 32 ((nsOf s.time16).toNat / 2 ^ 32)) ∧
    readReg .smbus 0x140C t = some (BitVec.ofNat 32 (fracOf s.time16).toNat) ∧
    readReg .smbus 0x1410 t = some (BitVec.ofNat 32 s.now) ∧ readReg .smbus 0x1414 t = some (BitVec.ofNat 32 (s.now / 2 ^ 32)) ∧
    t.time16 = s.time16) ∧
  (∀ path o s f, (o = 0x1408 ∨ o = 0x140C ∨ o = 0x1410 ∨ o = 0x1414) → readReg path o (s.advanceTo f) = readReg path o s)

/-- R359 to R361, R314, R348, R357: GEN_EVENT_EN takes the enables, and sends the vector of an event that stands as it is enabled; GEN_EVENT_CLEAR
clears the events named, and an event of the same cycle stands; SUP_CFG takes the preference and ends a retirement; the two words of GEN_RPL_CONS take
effect with the low one; GEN_APERTURE takes its 7 bits. REGISTER_WRITE of a whole aligned word writes the register that stands there, once the bus is
up: LN_IN_CFG takes 19 bits, TL_STATUS clears the bits written 1, GEN_ID stays; an offset that no register has and a write of less than a word answer an
error at the bridge, and an offset that is no multiple of 4 changes nothing. Each write over the bus before it is up, and BRIDGE_TIMEOUT, is a timeout at
the bridge; a read that times out returns all ones. -/
def Obligations.RegisterWritesAct : Prop :=
  (∀ v s, s.gkServes = true → v &&& ~~~ (s.pcie.eventEn.zeroExtend 32) &&& s.pcie.event.zeroExtend 32 = 0 →
    exec (.genEventEnWrite v) s = .next { s with pcie := { s.pcie with eventEn := BitVec.ofNat 15 v.toNat } }) ∧
  (∀ (i : Fin 15) s, s.gkServes = true → s.pcie.event = BitVec.ofNat 15 (2 ^ i.val) → s.pcie.eventEn = 0 →
    exec (.genEventEnWrite (BitVec.ofNat 32 (2 ^ i.val))) s = .next (sendVector (48 + i.val)
      { s with pcie := { s.pcie with eventEn := BitVec.ofNat 15 (2 ^ i.val) } })) ∧
  (∀ v s, s.gkServes = true → exec (.genEventClear v 0) s = .next { s with pcie := { s.pcie with
    event := s.pcie.event &&& ~~~ BitVec.ofNat 15 v.toNat } }) ∧
  (∀ v same s, s.gkServes = true → ∃ t, exec (.genEventClear v same) s = .next t ∧
    t.pcie.event = (s.pcie.event &&& ~~~ BitVec.ofNat 15 v.toNat) ||| same ∧ t.pcie.eventEn = s.pcie.eventEn) ∧
  (∀ v s, s.busUp = true → exec (.supCfgWrite v) s = .next { s with sup := { s.sup with
    cfg := BitVec.ofNat 2 v.toNat, preferredRetired := false, failovers := [] } }) ∧
  (∀ v s, s.busUp = true → exec (.genRplConsWrite true v) s = .next { s with rpl := { s.rpl with consHi := v } }) ∧
  (∀ v s, s.busUp = true → exec (.genRplConsWrite false v) s = .next { s with rpl := { s.rpl with
    cons := BitVec.ofNat 64 (s.rpl.consHi.toNat * 2 ^ 32 + v.toNat) } }) ∧
  (∀ v s, s.busUp = true → exec (.genApertureWrite v) s = .next { s with pcie := { s.pcie with aperture := BitVec.ofNat 7 v.toNat } }) ∧
  (∀ path v s, s.busUp = true → exec (.registerWrite path 0x1800 v 15) s = .next { s with ingest := { s.ingest with cfg := v &&& 0x7FFFF } }) ∧
  (∀ path v s, s.busUp = true → exec (.registerWrite path 0x2400 v 15) s = .next { s with tl := { s.tl with
    abortedSeen := s.tl.abortedSeen && !v.getLsbD 8, deniedSeen := s.tl.deniedSeen && !v.getLsbD 9,
    bridgeErrSeen := s.tl.bridgeErrSeen && !v.getLsbD 10 } }) ∧
  (∀ path v s, s.gkServes = true → exec (.registerWrite path 0x0000 v 15) s = .next s) ∧
  (∀ path (o : BitVec 16) v s, o.toNat % 4 = 0 → s.gkServes = true → aoOffset o.toNat = true →
    exec (.registerWrite path o v 15) s = .next (writeReg path o.toNat v s)) ∧
  (∀ path (o : BitVec 16) v s, o.toNat % 4 = 0 → s.busUp = true → aoOffset o.toNat = false → (readReg path o.toNat s).isSome = true →
    exec (.registerWrite path o v 15) s = .next (writeReg path o.toNat v s)) ∧
  (∀ path v st s, s.busUp = true → exec (.registerWrite path 0x3FFC v st) s = .next (bridgeErr s)) ∧
  (∀ path (o : BitVec 16) v st s, s.busUp = true → aoOffset o.toNat = false → o.toNat % 4 = 0 → st ≠ 15 →
    exec (.registerWrite path o v st) s = .next (bridgeErr s)) ∧
  (∀ path (o : BitVec 16) v st s, o.toNat % 4 ≠ 0 → exec (.registerWrite path o v st) s = .next s) ∧
  (∀ path (o : BitVec 16) v st s, s.gkServes = true → s.busUp = false → o.toNat % 4 = 0 → aoOffset o.toNat = false →
    exec (.registerWrite path o v st) s = .next (busTimeout s) ∧ exec (.supCfgWrite v) s = .next (busTimeout s) ∧
    exec (.genApertureWrite v) s = .next (busTimeout s) ∧ ∀ hi, exec (.genRplConsWrite hi v) s = .next (busTimeout s)) ∧
  (∀ path (o : BitVec 16) s, s.clk.held = false → o.toNat % 4 = 0 → exec (.bridgeTimeout path o true) s = .next (busTimeout s)) ∧
  (∀ (o : BitVec 16) s, s.clk.held = false → o.toNat % 4 = 0 →
    (∃ t, exec (.bridgeTimeout .bar0 o false) s = .next t ∧ t.tl = (busTimeout s).tl ∧ t.pcie.lastRead = List.replicate 4 0xFF) ∧
    ∃ t, exec (.bridgeTimeout .smbus o false) s = .next t ∧ t.tl = (busTimeout s).tl ∧ t.smb.lastRead = List.replicate 4 0xFF)

/-- R58, R84, R108, R137, R191, R217, R270, R359 and their like: each of LN_IN_CNT_CLR, XA_CNT_CLR, MC_RMW_CNT_CLR, BF_CNT_CLR, RDL_CNT_CLR, CF_CNT_CLR,
KCP_CNT_CLR, LN_CNT_CLR, MC_CNT_CLR, TL_CNT_CLR, SUP_CNT_CLR, PW_CNT_CLR, GEN_LOAM_CNT_CLR, GEN_ALM_CNT_CLR, TM_CNT_CLR and GEN_CNT_CLR returns its unit's
counters to 0 when bit 0 is written as 1, and no other counter and nothing else changes; GEN_PLAN_CNT_CLR its one counter; a write with bit 0 clear
changes nothing. -/
def Obligations.CountersAreClearedByTheirRegister : Prop :=
  (∀ v s, s.busUp = true → v.getLsbD 0 = true →
    exec (.lnInCntClr v) s = .next (s.clearCounters 0x180C 0x185C) ∧ exec (.xaCntClr v) s = .next (s.clearCounters 0x280C 0x2844) ∧
    exec (.mcRmwCntClr v) s = .next (s.clearCounters 0x200C 0x2038) ∧ exec (.bfCntClr v) s = .next (s.clearCounters 0x2C08 0x2C28) ∧
    exec (.rdlCntClr v) s = .next (s.clearCounters 0x2E18 0x2E30) ∧ exec (.cfCntClr v) s = .next (s.clearCounters 0x3030 0x3064) ∧
    exec (.kcpCntClr v) s = .next (s.clearCounters 0x1104 0x1130) ∧ exec (.lnCntClr v) s = .next (s.clearCounters 0x18E0 0x191C)) ∧
  (∀ v s, s.busUp = true → v.getLsbD 0 = true →
    exec (.mcCntClr v) s = .next (s.clearCounters 0x2050 0x2078) ∧ exec (.tlCntClr v) s = .next (s.clearCounters 0x240C 0x2418) ∧
    exec (.supCntClr v) s = .next (s.clearCounters 0x3424 0x343C) ∧ exec (.pwCntClr v) s = .next (s.clearCounters 0x3608 0x360C) ∧
    exec (.genLoamCntClr v) s = .next (s.clearCounters 0x0068 0x0070) ∧ exec (.genAlmCntClr v) s = .next (s.clearCounters 0x94 0xA4)) ∧
  (∀ v s, s.gkServes = true → v.getLsbD 0 = true →
    exec (.tmCntClr v) s = .next (s.clearCounters 0x1438 0x1464) ∧ exec (.genCntClr v) s = .next (s.clearCounters 0x20 0x24)) ∧
  (∀ v s, s.busUp = true → v.getLsbD 0 = true →
    exec (.genPlanCntClr v) s = .next { s with plan := { s.plan with uncorrelated := 0 } }) ∧
  (∀ v s, s.busUp = true → s.gkServes = true → v.getLsbD 0 = false →
    (∀ i ∈ [Instr.lnInCntClr v, .xaCntClr v, .mcRmwCntClr v, .bfCntClr v, .rdlCntClr v, .cfCntClr v, .kcpCntClr v, .lnCntClr v, .mcCntClr v],
      exec i s = .next s) ∧
    (∀ i ∈ [Instr.tlCntClr v, .supCntClr v, .pwCntClr v, .genLoamCntClr v, .genAlmCntClr v, .tmCntClr v, .genCntClr v, .genPlanCntClr v],
      exec i s = .next s)) ∧
  (∀ (s : State) lo hi o, s.ctr.words.length = Ctr.offsets.length → (∀ i < Ctr.offsets.length, Ctr.offsets.getD i 0 = o → lo ≤ o ∧ o ≤ hi →
      (s.clearCounters lo hi).ctr.words.getD i 1 = 0) ∧
    (∀ i < Ctr.offsets.length, Ctr.offsets.getD i 0 = o → ¬ (lo ≤ o ∧ o ≤ hi) →
      (s.clearCounters lo hi).ctr.words.getD i 1 = s.ctr.words.getD i 1)) ∧
  (∀ (s : State) lo hi, (s.clearCounters lo hi).mem = s.mem ∧ (s.clearCounters lo hi).plan = s.plan ∧ (s.clearCounters lo hi).xa = s.xa ∧
    (s.clearCounters lo hi).kcp = s.kcp ∧ (s.clearCounters lo hi).alm = s.alm ∧ (s.clearCounters lo hi).time = s.time)

/-- R273, R294, R357: an access through BAR4 reaches BASE x 1 GiB + the offset (BASE above 124 acts as 124), as an access of master 4 at its DRAM ports: a
read of what the host may read returns the bytes that DRAM holds once earlier requests at the ports are served, and zeros elsewhere; a write where
the host may write stores the bytes whose strobes are on and leaves the others; a refused access changes no memory and is counted as denied. With the
link down or DRAM not up nothing happens. With nothing waiting at the ports an access changes no byte by itself.
Rests on log 6 and 142. -/
def Obligations.Bar4ReachesDram : Prop :=
  (∀ off len s, s.pcie.up = true → s.pcie.perst = false → s.dramUp = true → off.toNat + len ≤ 2 ^ 32 →
    pcieReadable (Claims.bar4 off s) len = true → ∃ t, exec (.bar4Access false off len [] []) s = .next t ∧
      t.pcie.lastRead = (memAccess 4 (Claims.bar4 off s) len s).dramRead (Claims.bar4 off s) len ∧
      t.mem.dram = (memAccess 4 (Claims.bar4 off s) len s).mem.dram) ∧
  (∀ off len s, s.pcie.up = true → s.pcie.perst = false → s.dramUp = true → off.toNat + len ≤ 2 ^ 32 →
    pcieReadable (Claims.bar4 off s) len = false → ∃ t, exec (.bar4Access false off len [] []) s = .next t ∧
      t.pcie.lastRead = zeros len ∧ t.mem = s.mem ∧ t.tl.deniedSeen = true) ∧
  (∀ off data strobes s, Canonical s → s.pcie.up = true → s.pcie.perst = false → s.dramUp = true → off.toNat + data.length ≤ 2 ^ 32 →
    s.pcieWritable (Claims.bar4 off s) data.length = true → ∃ t, exec (.bar4Access true off data.length data strobes) s = .next t ∧
      (∀ i < data.length, t.dramRead (Claims.bar4 off s + i) 1 = if strobes.getD i true then [data.getD i 0]
        else (memAccess 4 (Claims.bar4 off s) data.length s).dramRead (Claims.bar4 off s + i) 1) ∧
      ∀ x, (x < Claims.bar4 off s ∨ Claims.bar4 off s + data.length ≤ x) →
        t.dramRead x 1 = (memAccess 4 (Claims.bar4 off s) data.length s).dramRead x 1) ∧
  (∀ off len data strobes s, s.pcie.up = true → s.pcie.perst = false → s.dramUp = true → off.toNat + len ≤ 2 ^ 32 →
    s.pcieWritable (Claims.bar4 off s) len = false → exec (.bar4Access true off len data strobes) s = .next (denied s)) ∧
  (∀ w off len data strobes s, (s.pcie.up = false ∨ s.pcie.perst = true ∨ s.dramUp = false) →
    exec (.bar4Access w off len data strobes) s = .next s) ∧
  (∀ s, (denied s).mem = s.mem) ∧
  (∀ m a n s, (∀ ch, (s.reel ch).waiting = []) → (memAccess m a n s).mem.dram = s.mem.dram)

/-! ### SMBus -/

/-- R362, R363: while the groundskeeper serves: code 0x01 sets OFFSET; 0x02 reads or writes the register there and moves OFFSET on by 4; 0x10 submits one
packet of 36 to 100 bytes; 0x11 reads the oldest reply in pieces of at most 240 bytes and consumes it with its last, and nothing without a reply; 0x12 reads
the status byte and clears the restart flag. A write whose PEC fails is discarded and counted. Before that nothing answers.
Rests on log 24 and 104. -/
def Obligations.SmbusCodesAct : Prop :=
  (∀ o s, s.gkServes = true → exec (.smbusSetOffset o true) s = .next { s with smb := { s.smb with offset := o &&& 0xFFFC } }) ∧
  (∀ o s, s.gkServes = true → exec (.smbusSetOffset o false) s = .next (s.bump .genSmbPecErr)) ∧
  (∀ v s, s.gkServes = true → exec (.smbusRegisterAccess (some v) false) s = .next (s.bump .genSmbPecErr)) ∧
  (∀ v s, s.gkServes = true → ∃ t, exec (.smbusRegisterAccess (some v) true) s = .next t ∧ t.smb.offset = s.smb.offset + 4 ∧
    { t with smb := (busWrite .smbus s.smb.offset.toNat v true s).smb } = busWrite .smbus s.smb.offset.toNat v true s) ∧
  (∀ v pec s, s.gkServes = true → aoOffset s.smb.offset.toNat = true → readReg .smbus s.smb.offset.toNat s = some v →
    s.smb.offset ≠ 0x1404 → exec (.smbusRegisterAccess none pec) s =
      .next { s with smb := { s.smb with offset := s.smb.offset + 4, lastRead := le4 v.toNat } }) ∧
  (∀ v pec s, s.gkServes = true → s.busUp = true → aoOffset s.smb.offset.toNat = false → readReg .smbus s.smb.offset.toNat s = some v →
    exec (.smbusRegisterAccess none pec) s =
      .next { s with smb := { s.smb with offset := s.smb.offset + 4, lastRead := le4 v.toNat } }) ∧
  (∀ pec s, s.gkServes = true → s.smb.offset = 0x1404 → ∃ t, exec (.smbusRegisterAccess none pec) s = .next t ∧
    t.smb.lastRead = le4 (nsOf s.time16).toNat ∧ readReg .smbus 0x1408 t = some (BitVec.ofNat 32 ((nsOf s.time16).toNat / 2 ^ 32))) ∧
  (∀ bytes s, s.gkServes = true → 36 ≤ bytes.length → bytes.length ≤ 100 →
    exec (.smbusKcpWrite bytes true) s = .next (packetArrives (kParse .smbus [] bytes) s)) ∧
  (∀ bytes s, s.gkServes = true → exec (.smbusKcpWrite bytes false) s = .next (s.bump .genSmbPecErr)) ∧
  (∀ bytes s, s.gkServes = true → (bytes.length < 36 ∨ 100 < bytes.length) →
    exec (.smbusKcpWrite bytes true) s = .next { s with smb := { s.smb with nack := true } }) ∧
  (∀ r rs s, s.gkServes = true → s.smb.replies = r :: rs → (replyBytes r).length ≤ s.smb.readPos + 240 → s.smb.readPos ≤ (replyBytes r).length →
    exec .smbusReplyRead s = .next { s with smb := { s.smb with
      lastRead := (replyBytes r).drop s.smb.readPos, replies := rs, readPos := 0 } }) ∧
  (∀ r rs s, s.gkServes = true → s.smb.replies = r :: rs → s.smb.readPos + 240 < (replyBytes r).length →
    exec .smbusReplyRead s = .next { s with smb := { s.smb with
      lastRead := ((replyBytes r).drop s.smb.readPos).take 240, readPos := s.smb.readPos + 240 } }) ∧
  (∀ s, s.gkServes = true → s.smb.replies = [] → exec .smbusReplyRead s = .next { s with smb := { s.smb with lastRead := [] } }) ∧
  (∀ s, s.gkServes = true → exec .smbusStatusRead s = .next { s with
    smb := { s.smb with lastRead := [BitVec.ofNat 8 (bitOf (!s.smb.replies.isEmpty) + 2 * bitOf s.kcp.executing + 4 * bitOf s.boot.aoRestarted)] }
    boot := { s.boot with aoRestarted := false } }) ∧
  (∀ s, s.gkServes = false → ∀ o pec w bytes, exec (.smbusSetOffset o pec) s = .next s ∧ exec (.smbusRegisterAccess w pec) s = .next s ∧
    exec (.smbusKcpWrite bytes pec) s = .next s ∧ exec .smbusReplyRead s = .next s ∧ exec .smbusStatusRead s = .next s)

/-! ### Bring-up, references, rails -/

/-- R279, R365 to R371, R386: each step of bring-up follows the one before. Release of PORST_N with the rails in order goes to step 1, out of order holds the
DX4; the primary PLL's timeout at step 1 takes the twin; the root PLL's lock starts the FRC and goes through step 2, where a thermal hold stays, to step
3; the end of a core's boot at step 3 makes it wait for the other, fails it, or, with a core failed and the preferred one booted, gives that one the lease
at step 4; a later boot takes a lease that nobody holds; without a valid image boot fails. Training of every channel with eyes that pass goes to step 6 with
DRAM clear, and with an eye that fails stays at step 4 with TRAIN_FAIL; a channel passes exactly when its smallest read and write eyes are 37.5 ps and its
smallest command eye 0.40 of its bit period. LANES and TIME end at steps 7 and 8. Assertion of PORST_N returns to the start and keeps fuses, flash and the
mirror. LANES_STEP_END and TIME_STEP_END change nothing at other steps.
Rests on log 3, 4, 27, 29 and 41. -/
def Obligations.BringUpStepsFollow : Prop :=
  (∀ sel addr s, s.clk.porst = true → ∃ t, exec (.porstRelease true sel addr) s = .next t ∧ t.boot.step = 1 ∧ t.clk.held = false ∧
    t.clk.porst = false ∧ t.boot.smbAddr = addr ∧ t.clk.pcieRefAux = sel) ∧
  (∀ sel addr s, s.clk.porst = true → ∃ t, exec (.porstRelease false sel addr) s = .next t ∧ t.clk.held = true ∧ t.clk.outOfOrder = true) ∧
  (∀ s, s.clk.held = false → s.boot.step = 1 → s.clk.twinActive = false →
    exec .primaryLockTimeout s = .next { s with clk := { s.clk with twinActive := true, primaryTried := true } }) ∧
  (∀ s, s.clk.held = false → s.boot.step = 1 → s.boot.thermalHold = false → ∃ t, exec .rootPllLock s = .next t ∧ t.boot.step = 3 ∧
    t.clk.rootLock = true ∧ t.time.frcOn = true ∧ t.sup.core0 = .boot ∧ t.sup.core1 = .boot ∧ t.mesh.caller = true) ∧
  (∀ s, s.clk.held = false → s.boot.step = 1 → s.boot.thermalHold = true → ∃ t, exec .rootPllLock s = .next t ∧ t.boot.step = 2 ∧
    t.clk.rootLock = true ∧ t.time.frcOn = true) ∧
  (∀ (c : Fin 2) s, s.clk.held = false → s.boot.step = 3 → s.core c = .boot → s.bootImage.isSome = true → s.leaseHeld = false →
    c.val = s.preferred → s.core (1 - c.val) ≠ .boot → ∃ t, exec (.coreBootDone c true) s = .next t ∧ t.boot.step = 4 ∧ t.leaseHeld = true ∧
    t.leaseCore = c.val ∧ t.core c = .active) ∧
  (∀ (c : Fin 2) s, s.clk.held = false → s.boot.step = 3 → s.core c = .boot → s.bootImage.isSome = true → s.core (1 - c.val) = .boot →
    ∃ t, exec (.coreBootDone c true) s = .next t ∧ t.boot.step = 3 ∧ t.core c = .selftest) ∧
  (∀ (c : Fin 2) s, s.clk.held = false → 3 < s.boot.step → s.core c = .boot → s.bootImage.isSome = true → s.leaseHeld = false →
    ∃ t, exec (.coreBootDone c true) s = .next t ∧ t.leaseHeld = true ∧ t.leaseCore = c.val ∧ t.core c = .active) ∧
  (∀ (c : Fin 2) s, s.clk.held = false → 3 ≤ s.boot.step → s.core c = .boot → s.bootImage.isSome = true → s.leaseHeld = true →
    ∃ t, exec (.coreBootDone c true) s = .next t ∧ t.core c = .selftest ∧ t.leaseHeld = true ∧ t.leaseCore = s.leaseCore) ∧
  (∀ (c : Fin 2) s, s.clk.held = false → 3 ≤ s.boot.step → s.core c = .boot → s.bootImage.isSome = true → s.boot.fwUpdate ≠ 1 →
    ∃ t, exec (.coreBootDone c false) s = .next t ∧ t.core c = .failed) ∧
  (∀ (c : Fin 2) ok s, s.clk.held = false → 3 ≤ s.boot.step → s.core c = .boot → s.bootImage = none →
    exec (.coreBootDone c ok) s = .next { s with boot := { s.boot with bootFail := true } }) ∧
  (∀ eyes rep s, s.clk.held = false → s.boot.step = 4 → s.leaseHeld = true → s.boot.trainFail = false → s.mem.chan.length = 16 →
    (∀ i < 16, eyesGood (eyes.getD i {}) = true) →
    ∃ t, exec (.dramTrainingDone eyes rep) s = .next t ∧ t.boot.step = 6 ∧ t.mem.dram = [] ∧ t.boot.trainFail = false) ∧
  (∀ eyes rep s i, s.clk.held = false → s.boot.step = 4 → s.leaseHeld = true → s.boot.trainFail = false → s.mem.chan.length = 16 →
    i < 16 → eyesGood (eyes.getD i {}) = false →
    ∃ t, exec (.dramTrainingDone eyes rep) s = .next t ∧ t.boot.step = 4 ∧ t.boot.trainFail = true ∧ t.mem.trainFail = true ∧
      ((t.mem.chan.getD i {}).trained = false)) ∧
  (∀ e now c, (trainChannel e now c).trained = true ↔ 375 ≤ e.read ∧ 375 ≤ e.write ∧ 400 ≤ e.command) ∧
  (∀ s, s.clk.held = false → s.boot.step = 6 → ∃ t, exec .lanesStepEnd s = .next t ∧ t.boot.step = 7) ∧
  (∀ s, s.clk.held = false → s.boot.step = 7 → ∃ t, exec .timeStepEnd s = .next t ∧ t.boot.step = 8) ∧
  (∀ s, (s.boot.step ≠ 6 → exec .lanesStepEnd s = .next s) ∧ (s.boot.step ≠ 7 → exec .timeStepEnd s = .next s)) ∧
  (∀ s, s.clk.porst = false → ∃ t, exec .porstAssert s = .next t ∧ t.clk.porst = true ∧ t.clk.held = true ∧ t.boot.step = State.reset.boot.step ∧
    t.fuses = s.fuses ∧ t.flash = s.flash ∧ t.alm.mirror = s.alm.mirror ∧ t.mem.dram = State.reset.mem.dram)

/-- R19 to R22, R387: loss of REFCLK holds over, as does each PLL that takes it, and its return ends that; of AUXREF likewise the PLLs that take it. A hedge PLL that
unlocks loses its lock and takes the reference that LANE_REF_SEL selects; one that is on with its reference here locks; the PCI Express PLL that unlocks
drops the link and restarts. The root fault restarts the DX4 on the twin root PLL; a rail dip restarts it and holds it until the
rails recover; a restart keeps the mirror and its numbers; loss of VDD_IO loses the mirror too and keeps fuses and flash.
Rests on log 2, 114 and 143. -/
def Obligations.ReferencesAndRails : Prop :=
  (∀ s, s.clk.rootLock = true → s.clk.refPresent = true → ∃ t, exec .refLoss s = .next t ∧ t.clk.refPresent = false ∧
    t.clk.holdover = true ∧ t.clk.refLostSeen = true ∧ t.clk.rootLock = true ∧
    t.clk.hedgeHold = s.clk.hedgeHold ||| (s.clk.hedgePllOn &&& ~~~ s.clk.hedgeRefAux) ∧ t.time = s.time ∧ t.xa = s.xa ∧ t.ingest = s.ingest) ∧
  (∀ s, s.clk.rootLock = true → s.clk.refPresent = false → ∃ t, exec .refRelock s = .next t ∧ t.clk.refPresent = true ∧
    t.clk.holdover = false ∧ t.clk.refLostSeen = s.clk.refLostSeen ∧ t.clk.hedgeHold = s.clk.hedgeHold &&& s.clk.hedgeRefAux) ∧
  (∀ s, s.clk.rootLock = true → s.clk.auxrefPresent = true → ∃ t, exec .auxrefLoss s = .next t ∧ t.clk.auxrefPresent = false ∧
    t.clk.holdover = s.clk.holdover ∧ t.clk.hedgeHold = s.clk.hedgeHold ||| (s.clk.hedgePllOn &&& s.clk.hedgeRefAux) ∧
    (s.clk.pcieRefAux = true → t.clk.auxrefLostSeen = true)) ∧
  (∀ s, s.clk.rootLock = true → s.clk.auxrefPresent = false → ∃ t, exec .auxrefRelock s = .next t ∧ t.clk.auxrefPresent = true ∧
    t.clk.hedgeHold = s.clk.hedgeHold &&& ~~~ s.clk.hedgeRefAux) ∧
  (∀ (h : Fin 16) s, s.clk.hedgePllLock.getLsbD h = true → s.refHere (s.clk.hedgeRefAux.getLsbD h) = true →
    ∃ t, exec (.pllUnlock (some h)) s = .next t ∧ t.clk.hedgePllLock.getLsbD h = false ∧ t.clk.hedgeRefAux.getLsbD h = s.clk.laneRefSel) ∧
  (∀ s, s.clk.pciePllLock = true → s.refHere s.clk.pcieRefAux = true → ∃ t, exec (.pllUnlock none) s = .next t ∧
    t.clk.pciePllLock = false ∧ t.clk.pcieRestart = true ∧ t.pcie.up = false ∧ t.pcie.retraining = s.pcie.up) ∧
  (∀ (h : Fin 16) s, s.clk.hedgePllOn.getLsbD h = true → s.refHere (s.clk.hedgeRefAux.getLsbD h) = true → exec (.hedgePllLock h) s =
    .next { s with clk := { s.clk with hedgePllLock := s.clk.hedgePllLock ||| BitVec.ofNat 16 (2 ^ h.val) } }) ∧
  (∀ s, s.clk.held = false → s.clk.rootLock = true → ∃ t, exec .rootFault s = .next t ∧ t.clk.twinActive = true ∧
    t.clk.rootUnlockSeen = true ∧ t.boot.step = 1 ∧ t.clk.held = false ∧ t.fuses = s.fuses ∧ t.flash = s.flash ∧ t.mem.dram = []) ∧
  (∀ s, (restart s).alm.mirror = s.alm.mirror ∧ (restart s).alm.rn = s.alm.rn ∧ (restart s).gk.freezeCause = s.gk.freezeCause) ∧
  (∀ s, s.clk.held = false → ∃ t, exec .railDip s = .next t ∧ t.clk.held = true ∧ t.clk.railDipSeen = true ∧
    t.clk.twinActive = s.clk.twinActive) ∧
  (∀ s, s.clk.held = true → s.clk.porst = false → s.clk.outOfOrder = false → exec .railDipRecovery s =
    .next { s with clk := { s.clk with held := false }, boot := { s.boot with step := 1 } }) ∧
  (∀ s, ∃ t, exec .vddIoLoss s = .next t ∧ t.alm.mirror = [] ∧ t.fuses = s.fuses ∧ t.flash = s.flash ∧ t.boot.aoRestarted = true ∧
    t.kcp = State.reset.kcp ∧ t.pending = s.pending)

/-- R293, R358, R364, R369: the resets of PCI Express, from step 2 on, stop DMA and the rings, drop the held interrupts, and leave the dwell pipeline, the plan and the
bytes of memory as they are; PERST_N and a link that goes down also take the link down, and before step 2 PERST_N is only noted. BUS_MASTER_OFF stops the
device's writes, and BUS_MASTER_ENABLE_SET or release of PERST_N sets it going again, when held interrupts and writes go out but for masked vectors.
TRANSFER_COMPLETE ends the oldest transfer that is no drain once its DMA has been granted: read data go to host memory, and event 3 is raised; while the device
may not write it waits. JTAG_INSTRUCTION of EXTEST, CLAMP or HIGHZ selects it only under PORST_N or SAFE_STOP MODE 2 and otherwise BYPASS, other codes
BYPASS, and the rest themselves.
Rests on log 6. -/
def Obligations.PcieSideResets : Prop :=
  (∀ kind s, 2 ≤ s.boot.step → ∃ t, exec (.pcieReset kind) s = .next t ∧ (∀ r, (t.ring r).enable = false ∧ (t.ring r).mem = []) ∧
    t.pcie.busMaster = false ∧ t.pcie.transfers = [] ∧ t.pcie.heldVectors = [] ∧ t.kcp.host = s.kcp.host ∧ t.kcp.gk = s.kcp.gk ∧
    t.kcp.sys = s.kcp.sys ∧ t.mem.dram = s.mem.dram ∧ t.ingest = s.ingest ∧ t.rmw = s.rmw ∧ t.plan = s.plan ∧
    ((kind = .perst ∨ kind = .linkDown) → t.pcie.up = false) ∧ (kind = .perst → t.pcie.perst = true)) ∧
  (∀ s, s.boot.step < 2 → exec (.pcieReset .perst) s = .next { s with pcie := { s.pcie with perst := true } } ∧
    ∀ kind, kind ≠ .perst → exec (.pcieReset kind) s = .next s) ∧
  (∀ s, s.pcie.up = true → exec (.busMasterOff true) s = .next { s with pcie := { s.pcie with d3 := true } }) ∧
  (∀ s, s.pcie.up = true → exec (.busMasterOff false) s = .next { s with pcie := { s.pcie with busMaster := false } }) ∧
  (∀ s, s.pcie.up = true → exec .busMasterEnableSet s =
    .next (serve (flushVectors { s with pcie := { s.pcie with busMaster := true, d3 := false } }))) ∧
  (∀ s, s.pcie.up = false → exec .busMasterEnableSet s = .next s ∧ ∀ d3, exec (.busMasterOff d3) s = .next s) ∧
  (∀ s, s.msixOpen = true → (flushVectors s).pcie.heldWrites = [] ∧ (∀ v ∈ (flushVectors s).pcie.heldVectors, s.vectorMasked v = true)) ∧
  (∀ s, 3 ≤ s.boot.step → exec .pciePerstRelease s = .next { takeAborted 4 s with
    pcie := { s.pcie with perst := false, up := true }, clk := { s.clk with pciePllLock := true } }) ∧
  (∀ s, s.boot.step < 3 → exec .pciePerstRelease s = .next { takeAborted 4 s with pcie := { s.pcie with perst := false } }) ∧
  (∀ x xs s, s.pcie.transfers = x :: xs → (x.kind = .memRead ∨ x.kind = .almanac) → s.msixOpen = true → s.pcie.dmaStopped = false →
    (x.xfer = 0 ∨ ∀ ch, (s.reel ch).waiting.any (·.xfer = x.xfer) = false) →
    exec .transferComplete s = .next (raiseEvent 3 (x.got.foldl (fun s g => hostWrite (x.addr.toNat + g.1) g.2 s)
      (if x.data = [] then { s with pcie := { s.pcie with transfers := xs } }
       else hostWrite x.addr.toNat x.data { s with pcie := { s.pcie with transfers := xs } })))) ∧
  (∀ x xs s, s.pcie.transfers = x :: xs → (x.kind = .memWrite ∨ x.kind = .image ∨ x.kind = .replayInput) → s.msixOpen = true →
    s.pcie.dmaStopped = false → (x.xfer = 0 ∨ ∀ ch, (s.reel ch).waiting.any (·.xfer = x.xfer) = false) →
    exec .transferComplete s = .next (raiseEvent 3 { s with pcie := { s.pcie with transfers := xs } })) ∧
  (∀ s, (s.pcie.transfers = [] ∨ s.msixOpen = false ∨ s.pcie.dmaStopped = true) → exec .transferComplete s = .next s) ∧
  (∀ op x s, (op, x) ∈ [(JtagOp.extest, JtagOp.extest), (.clamp, .clamp), (.highz, .highz)] →
    (s.clk.porst = true ∨ (s.gk.stopped = true ∧ s.gk.mode = 2)) →
    exec (.jtagInstruction op) s = .next { s with jtag := { s.jtag with instr := x } }) ∧
  (∀ op s, op ∈ [JtagOp.extest, .clamp, .highz] → s.clk.porst = false → (s.gk.stopped = false ∨ s.gk.mode ≠ 2) →
    exec (.jtagInstruction op) s = .next { s with jtag := { s.jtag with instr := .bypass } }) ∧
  (∀ op s, op ∈ [JtagOp.bypass, .idcode, .samplePreload] →
    exec (.jtagInstruction op) s = .next { s with jtag := { s.jtag with instr := op } }) ∧
  (∀ n s, exec (.jtagInstruction (.other n)) s = .next { s with jtag := { s.jtag with instr := .bypass } })

/-- R325, R392, R393: while the groundskeeper serves: the temperature read takes the hottest sensor of each die that is read; a die at 110 °C or more trips,
which stops the device as SAFE_STOP MODE 2 does and holds bring-up; bring-up that is held goes on when every die is below 90 °C; below the trip nothing
stops and bring-up stays.
Rests on log 41. -/
def Obligations.TemperatureTrips : Prop :=
  (∀ rs s, s.gkServes = true → (∃ x ∈ rs, (1100 : Int) ≤ x.2 ∧ x.1.val < s.gk.temps.length) → ∃ t, exec (.tempSensorRead rs) s = .next t ∧
    t.gk.stopped = true ∧ 2 ≤ t.gk.mode ∧ t.gk.thermalTrip = true) ∧
  (∀ rs s, s.gkServes = true → (∀ x ∈ rs, x.2 < (900 : Int)) → (∀ x ∈ s.gk.temps, x < (900 : Int)) → s.boot.thermalHold = true →
    s.boot.step = 2 → ∃ t, exec (.tempSensorRead rs) s = .next t ∧ t.boot.step = 3 ∧ t.boot.thermalHold = false) ∧
  (∀ rs s, s.gkServes = true → (∀ x ∈ rs, x.2 < (1100 : Int)) → (∀ x ∈ s.gk.temps, x < (1100 : Int)) → s.boot.thermalHold = false →
    ∃ t, exec (.tempSensorRead rs) s = .next t ∧ t.gk.stopped = s.gk.stopped ∧ t.boot = s.boot ∧
      ∀ d < s.gk.temps.length, ((rs.filter fun r => r.1.val = d) = [] → t.gk.temps.getD d 0 = s.gk.temps.getD d 0) ∧
        ∀ x ∈ rs, x.1.val = d → x.2 ≤ t.gk.temps.getD d 0)

/-! ### Events of the plan and of the dwell pipeline -/

/-- R150, R152, R154, R157, R274: PLAN_READY with a requested plan, when none of another plan is still to pass the seam: a plan whose request is refused
changes no plan in force; a checked one is only reported; any other is published, and its request saved, where no forced event fell meanwhile. With a
forced plan, one that is refused is reported, and any other is published: at once where the F-engines see no change, otherwise, unless the device is
partitioned, as the plan that keeps what they see with a follower. A published plan is pending under a plan in force, and in force at once as a first plan
without an epoch mapping. PLAN_READY with no computation, or not served, changes nothing. SWITCH_SAMPLE_PUBLISH, without an epoch mapping, fixes the switch
sample of the pending plan or of the follower. FINAL under a provisional plan learns the history and starts the final re-plan; COOL, with no channel hot, ends the
derating and starts its re-plan; otherwise neither changes anything.
Rests on log 16 and 131. -/
def Obligations.PlanEventsAct : Prop :=
  (∀ j r s, s.tamzarServes = true → s.seam = none → s.plan.computing = some j → j.forced = false → j.also = none →
    (makePlan j.req j.version none j.place 1 false { s with plan := { s.plan with computing := none } }).2 = r → r ≠ 0 →
    ∃ t, exec .planReady s = .next t ∧ t.plan.refused = true ∧ t.plan.reason = r ∧ t.plan.active = s.plan.active ∧
      t.plan.computing = none ∧ t.plan.pendingPlan = s.plan.pendingPlan ∧ t.plan.request = s.plan.request) ∧
  (∀ j s, s.tamzarServes = true → s.seam = none → s.plan.computing = some j → j.forced = false → j.also = none → j.req.dryRun = true →
    (makePlan j.req j.version none j.place 1 false { s with plan := { s.plan with computing := none } }).2 = 0 →
    ∃ t, exec .planReady s = .next t ∧ (∃ q, t.plan.last = some (q, .checked)) ∧ t.plan.active = s.plan.active ∧
      t.plan.pendingPlan = s.plan.pendingPlan ∧ t.plan.request = s.plan.request ∧ t.plan.computing = none) ∧
  (∀ j q s, s.tamzarServes = true → s.seam = none → s.plan.computing = some j → j.forced = false → j.also = none → j.place = none →
    j.req.dryRun = false → makePlan j.req j.version none none 1 false { s with plan := { s.plan with computing := none } } = (q, 0) →
    (q.provisional && s.boot.learned) = false →
    let u := { s with plan := { s.plan with computing := none } }
    let v := { u with plan := { u.plan with request := some { j.req with start := none, dryRun := false } } }
    exec .planReady s = .next (publish (withSwitch { withDigest q u with requested := true } v) none v)) ∧
  (∀ q f s p, s.plan.active = some p → (publish q f s).plan.pendingPlan = some q ∧ (publish q f s).plan.follower = f ∧
    (publish q f s).plan.active = some p) ∧
  (∀ q s, s.plan.active = none → s.time.epochSet = false → (publish q none s).plan.active = some { q with reason := 0 } ∧
    (publish q none s).plan.pendingPlan = none) ∧
  (∀ j p q r s, s.tamzarServes = true → s.seam = none → s.plan.computing = some j → j.forced = true → s.plan.active = some p →
    makePlan { p.req with start := none } (learnedVersion j.version s) (some p) none j.cause true
      { s with plan := { s.plan with computing := none } } = (q, r) → r ≠ 0 →
    ∃ t, exec .planReady s = .next t ∧ t.plan.refused = true ∧ t.plan.reason = r ∧ t.plan.active = some p ∧ t.plan.computing = none ∧
      t.plan.pendingPlan = s.plan.pendingPlan) ∧
  (∀ j p q s, s.tamzarServes = true → s.seam = none → s.plan.computing = some j → j.forced = true → s.plan.active = some p →
    makePlan { p.req with start := none } (learnedVersion j.version s) (some p) none j.cause true
      { s with plan := { s.plan with computing := none } } = (q, 0) →
    seenChange p { q with req := { q.req with start := none } } = false →
    let u := { s with plan := { s.plan with computing := none } }
    exec .planReady s = .next (publish (withSwitch (withDigest { q with req := { q.req with start := none } } u) u) none u)) ∧
  (∀ j p q s, s.tamzarServes = true → s.seam = none → s.plan.computing = some j → j.forced = true → s.plan.active = some p →
    makePlan { p.req with start := none } (learnedVersion j.version s) (some p) none j.cause true
      { s with plan := { s.plan with computing := none } } = (q, 0) →
    seenChange p { q with req := { q.req with start := none } } = true → s.mesh.partitioned = false →
    ∃ t a f, exec .planReady s = .next t ∧ t.plan.active = some p ∧ t.plan.pendingPlan = some a ∧ t.plan.follower = some f ∧
      f.version = followerVersion (learnedVersion j.version s) ∧ a.req.sources = p.req.sources ∧ a.routes = p.routes ∧ a.blocks = p.blocks) ∧
  (∀ s, (s.plan.computing = none ∨ s.tamzarServes = false) → exec .planReady s = .next s) ∧
  (∀ p q s, s.tamzarServes = true → s.plan.active = some p → s.plan.follower = none → s.plan.pendingPlan = some q → q.wantsSwitch s = true →
    ∃ t, exec .switchSamplePublish s = .next t ∧
      (∃ n, t.plan.pendingPlan = some { q with switchSample := some n }) ∧ t.plan.active = some p) ∧
  (∀ p f s, s.tamzarServes = true → s.plan.active = some p → s.plan.follower = some f → f.wantsSwitch s = true →
    ∃ t, exec .switchSamplePublish s = .next t ∧
      (∃ n, t.plan.follower = some { f with switchSample := some n }) ∧ t.plan.active = some p ∧ t.plan.pendingPlan = s.plan.pendingPlan) ∧
  (∀ p s, s.tamzarServes = true → s.plan.active = some p → p.provisional = true → s.boot.learned = false →
    ∃ t, exec .final s = .next t ∧ t.boot.learned = true ∧ t.plan.activeSecs ≥ 3600 ∧ t.plan.active = some p ∧
      (s.plan.computing = none → s.plan.pendingPlan = none → ∃ j, t.plan.computing = some j ∧ j.forced = true ∧ j.cause = 2)) ∧
  (∀ s, (s.plan.active = none ∨ s.boot.learned = true ∨ s.tamzarServes = false) → exec .final s = .next s) ∧
  (∀ f p s, s.tamzarServes = true → s.plan.coolAt = some f → s.plan.derated = true → s.mem.chan.any (·.hot) = false → s.plan.active = some p →
    ∃ t, exec .cool s = .next t ∧ t.plan.derated = false ∧ t.plan.coolAt = none ∧ t.plan.active = some p ∧
      (s.plan.computing = none → s.plan.pendingPlan = none → ∃ j, t.plan.computing = some j ∧ j.forced = true ∧ j.cause = 7)) ∧
  (∀ s, (s.plan.coolAt = none ∨ s.plan.derated = false ∨ s.mem.chan.any (·.hot) = true) → exec .cool s = .next s)

/-- R42, R43, R46, R52, R196, R250: a sample packet on an open lane, its frame good and of its length, is judged by R42: on a lane without the ingest role it is
discarded; one whose check fails, or that is misrouted, in excess or behind, is counted and changes nothing else; an accepted one makes its stream known with
its next number and is classified. Classified, it is a packet of its dwell, block, sub-dwell and half: an expected dwell or one at most a cycle ahead
takes it, a dwell that is past is late. A packet taken into the arriving slot is stored there, and a second copy is discarded; a late one is counted, and every
1,000th in a row sets INGEST_BEHIND. A frame that fails is discarded under its own counter. An Ethernet frame that is received on a lane that is up is
counted; one with a bad FCS, a pause frame, a sample packet whose headers do not fit, and every other frame that is not for the lane are discarded under their own
counters; PTP on a PTP port and a question for the lane's address are taken, and a good sample packet on an ingest lane is judged as above.
Rests on log 32. -/
def Obligations.SamplePacketsAreJudged : Prop :=
  (∀ (l : Fin 128) b s, s.rxOpen l = true → b.length = 8244 → s.role l ≠ 1 → ∃ t, exec (.samplePacket l b true) s = .next t ∧
    t.ingest = s.ingest ∧ t.xa = s.xa ∧ t.lanes.sent = s.lanes.sent) ∧
  (∀ (l : Fin 128) b u s, s.rxOpen l = true → b.length = 8244 → s.role l = 1 →
    u = (if (s.lane l).fj then nextLink l (receivedOn l s) else receivedOn l s) →
    (checkPacket l b u = .bad → exec (.samplePacket l b true) s = .next (u.bump .lnInBadCheck)) ∧
    (checkPacket l b u = .misrouted → exec (.samplePacket l b true) s = .next (u.bump .lnInMisrouted)) ∧
    (checkPacket l b u = .excess → exec (.samplePacket l b true) s = .next (u.bump .lnInSourceExcess)) ∧
    (checkPacket l b u = .behind → exec (.samplePacket l b true) s = .next (onStream l (BitVec.ofNat 32 (fieldAt 28 4 b))
      (fun x => { x with seqBehind := x.seqBehind + 1 }) (u.bump .lnInSeqBehind)))) ∧
  (∀ (l : Fin 128) b gap nx s, s.rxOpen l = true → b.length = 8244 → s.role l = 1 →
    checkPacket l b (if (s.lane l).fj then nextLink l (receivedOn l s) else receivedOn l s) = .accept gap nx →
    ∃ t v, exec (.samplePacket l b true) s = .next t ∧ t = classifyPacket l b v ∧
      v.ingest.streams.any (fun x => x.lane = l.val && x.source = BitVec.ofNat 32 (fieldAt 28 4 b) && x.e = nx) = true) ∧
  (∀ l b s p e, s.planBySample (fieldAt 8 6 b) = some p → headerGood p b = true →
    p.blocks.findIdx (· = fieldAt 4 2 b) < p.blocks.length → p.layout.findIdx (· = fieldAt 6 2 b) ∈ p.order → s.ingest.expected = some e →
    ∃ d k st last, d.ver = p.version ∧ d.chan = p.layout.findIdx (· = fieldAt 6 2 b) ∧ d.sweep = fieldAt 8 6 b / p.req.T ∧
      k.block = p.blocks.findIdx (· = fieldAt 4 2 b) ∧ k.sub = fieldAt 8 6 b % p.req.T / 256 ∧ k.data = slice 48 8192 b ∧ st.lane = l ∧
      (0 ≤ s.dwellDist e d → s.dwellDist e d ≤ ((match s.planOf e.ver with | some q => q.order.length | none => 0 : Nat) : Int) →
        classifyPacket l b s = takePacket d k st last s) ∧
      (s.dwellDist e d < 0 → s.ingest.opened = true → classifyPacket l b s = onStream l (BitVec.ofNat 32 (fieldAt 28 4 b))
        (fun x => { x with late := x.late + 1 }) (latePacket s))) ∧
  (∀ d p k st i s, i < 3 → s.slotIn .arriving = some i → (s.slot i).dwell = some d → (s.slot i).state = .arriving → s.planOf d.ver = some p →
    (s.slot i).pkts.any (fun x => x.block = k.block && x.sub = k.sub && x.half = k.half) = false →
    (s.slot i).pkts.length + 1 < p.packets → s.ingest.cfgUsed.getLsbD 18 = false →
    ((takePacket d k st false s).slot i).pkts = (s.slot i).pkts ++ [k] ∧ (takePacket d k st false s).ingest.lateRun = 0 ∧
    (takePacket d k st false s).xa = s.xa) ∧
  (∀ d k st last i s, s.slotIn .arriving = some i → (s.slot i).dwell = some d →
    (s.slot i).pkts.any (fun x => x.block = k.block && x.sub = k.sub && x.half = k.half) = true →
    takePacket d k st last s = onStream st.lane st.source (fun x => { x with duplicate := x.duplicate + 1 }) (s.bump .lnInDuplicate)) ∧
  (∀ s, s.ingest.lateRun < 999 → (latePacket s).ingest = { s.ingest with lateRun := s.ingest.lateRun + 1 }) ∧
  (∀ s, s.ingest.lateRun = 999 → (latePacket s).ingest = { s.ingest with lateRun := 0, ingestBehind := true }) ∧
  (∀ (l : Fin 128) b ok s, s.rxOpen l = true → (s.lane l).fj = false → (ok = false ∨ b.length ≠ 8244) →
    exec (.samplePacket l b ok) s = .next (discardOn l (s.bump (if ok then .lnRxHeader else .lnRxFcs)))) ∧
  (∀ (l : Fin 128) b ok s, s.rxOpen l = true → (s.lane l).fj = true → (ok = false ∨ b.length ≠ 8244) →
    exec (.samplePacket l b ok) s = .next (discardOn l (s.bump .lnFjCheck))) ∧
  (∀ (l : Fin 128) b ok s, s.rxOpen l = false → exec (.samplePacket l b ok) s = .next s) ∧
  (∀ (l : Fin 128) b s, s.laneRuns = true → (s.lane l).state = .lock → (s.lane l).fj = false →
    exec (.ethernetFrame l b false) s = .next (discardOn l (s.bump .lnRxFcs))) ∧
  (∀ (l : Fin 128) b s, s.laneRuns = true → (s.lane l).state = .lock → (s.lane l).fj = false → (etherType b).1 = 0x8808 →
    exec (.ethernetFrame l b true) s = .next (discardOn l ((receivedOn l s).bump .lnRxPause))) ∧
  (∀ (l : Fin 128) b m s, s.laneRuns = true → (s.lane l).state = .lock → (s.lane l).fj = false → (etherType b).1 ≠ 0x8808 → ptpMessage b = some m →
    exec (.ethernetFrame l b true) s = .next (if (receivedOn l s).ptpPort l then takePtpFrame m (receivedOn l s)
      else discardOn l ((receivedOn l s).bump .lnRxOther))) ∧
  (∀ (l : Fin 128) b v6 ask target mac ip s, s.laneRuns = true → (s.lane l).state = .lock → (s.lane l).fj = false → (etherType b).1 ≠ 0x8808 →
    ptpMessage b = none → addressMessage b = some (v6, ask, target, mac, ip) →
    exec (.ethernetFrame l b true) s = .next (if ((receivedOn l s).lane l).owns v6 target then
      (if ask then answerAddress l v6 target mac ip (receivedOn l s) else receivedOn l s)
      else discardOn l ((receivedOn l s).bump .lnRxOther))) ∧
  (∀ (l : Fin 128) b u s, s.laneRuns = true → s.arraysRun = true → (s.lane l).state = .lock → (s.lane l).fj = false →
    (etherType b).1 ≠ 0x8808 → ptpMessage b = none → addressMessage b = none → udpOffset b = some u → beAt (u + 2) 2 b = (s.lane l).ingestPort →
    s.role l = 1 → frameGood l b (receivedOn l s) = true →
    exec (.ethernetFrame l b true) s = .next (samplePacket l (slice (u + 8) 8244 b) (receivedOn l s))) ∧
  (∀ (l : Fin 128) b u s, s.laneRuns = true → (s.lane l).state = .lock → (s.lane l).fj = false →
    (etherType b).1 ≠ 0x8808 → ptpMessage b = none → addressMessage b = none → udpOffset b = some u → beAt (u + 2) 2 b = (s.lane l).ingestPort →
    s.role l = 1 → frameGood l b (receivedOn l s) = false →
    exec (.ethernetFrame l b true) s = .next (discardOn l ((receivedOn l s).bump .lnRxHeader))) ∧
  (∀ (l : Fin 128) b s, s.laneRuns = true → (s.lane l).state = .lock → (s.lane l).fj = false →
    (etherType b).1 ≠ 0x8808 → ptpMessage b = none → addressMessage b = none →
    (s.role l ≠ 1 ∨ udpOffset b = none ∨ ∃ u, udpOffset b = some u ∧ beAt (u + 2) 2 b ≠ (s.lane l).ingestPort) →
    exec (.ethernetFrame l b true) s = .next (discardOn l ((receivedOn l s).bump .lnRxOther))) ∧
  (∀ (l : Fin 128) b ok s, (s.laneRuns = false ∨ (s.lane l).state ≠ .lock ∨ (s.lane l).fj = true) → exec (.ethernetFrame l b ok) s = .next s)

/-- R50, R51, R53: a slot that has taken a packet closes on a successor's grace, a stall or the limit, with its code and its missing packets
counted, and the next dwell is expected; a dwell of which nothing has come is absent after CLOSE_GRACE, and its slot takes the next dwell. With no slot
arriving, or nothing in it to close, nothing changes.
Rests on log 16. -/
def Obligations.SlotsClose : Prop :=
  (∀ i at_ s, s.arraysRun = true → s.slotIn .arriving = some i → (s.slot i).pkts ≠ [] → (s.slot i).graceAt = some at_ →
    exec .slotCloseSuccessor s = .next (closeSlot i 2 (s.waitFor at_ s.closeGrace))) ∧
  (∀ i s, s.arraysRun = true → s.slotIn .arriving = some i → (s.slot i).pkts ≠ [] →
    exec .slotCloseStall s = .next (closeSlot i 3 (s.waitFor (max (s.slot i).lastAt (s.slot i).openedAt) s.closeStall))) ∧
  (∀ i d p s, s.arraysRun = true → s.slotIn .arriving = some i → (s.slot i).pkts ≠ [] → (s.slot i).dwell = some d → s.planOf d.ver = some p →
    exec .slotCloseLimit s = .next (closeSlot i 4 (s.waitD p (s.slot i).openedAt 2))) ∧
  (∀ i code d p (s : State), i < 3 → (s.slot i).dwell = some d → s.planOf d.ver = some p → s.ingest.bay = [] →
    ((closeSlot i code s).slot i).state = .closed ∧ ((closeSlot i code s).slot i).close = code ∧
    ((closeSlot i code s).slot i).missing = p.packets - (s.slot i).pkts.length ∧
    ((closeSlot i code s).slot i).pkts = (s.slot i).pkts) ∧
  (∀ i at_ d s, i < 3 → s.arraysRun = true → s.slotIn .arriving = some i → (s.slot i).pkts = [] → (s.slot i).graceAt = some at_ →
    s.ingest.expected = some d → s.ingest.bay = [] →
    ∃ t, exec .dwellAbsentGrace s = .next t ∧ t.ingest.expected = some (s.nextDwell d) ∧ (t.slot i).dwell = some (s.nextDwell d) ∧
      (t.slot i).pkts = []) ∧
  (∀ s, s.slotIn .arriving = none → exec .slotCloseSuccessor s = .next s ∧ exec .slotCloseStall s = .next s ∧
    exec .slotCloseLimit s = .next s ∧ exec .dwellAbsentGrace s = .next s) ∧
  (∀ i s, s.slotIn .arriving = some i → (s.slot i).pkts = [] → exec .slotCloseSuccessor s = .next s ∧ exec .slotCloseStall s = .next s ∧
    exec .slotCloseLimit s = .next s)

/-- R24, R48, R71, R76, R81, R83, R109, R119, R127, R136: a dwell's compute ends and its slot is RETAINED, its dwell counted or, where correlation is off,
left uncorrelated; a boundary is made where the drain, the withheld sums and the beams allow it, and is otherwise held and counted; the drain ends; a
tie-break, a recomputation, a group of beams and a sieve output are taken in, and beams whose weights are bad are counted. With none of these in hand nothing changes.
Rests on log 39 and 123. -/
def Obligations.DwellsMoveThroughTheArrays : Prop :=
  (∀ d p ups ev s, s.arraysRun = true → s.xa.computing = some d → s.planOf d.ver = some p → s.xa.computingSlot < 3 →
    s.xa.uncorr = true → ∃ t, exec (.computeEnd ups ev) s = .next t ∧ t.xa.computing = none ∧
      (t.slot s.xa.computingSlot).state = .retained ∧ t.xa.dwellCount = s.xa.dwellCount ∧
      t.plan.uncorrelated = s.plan.uncorrelated + 1) ∧
  (∀ d p ups ev s, s.arraysRun = true → s.xa.computing = some d → s.planOf d.ver = some p → s.xa.computingSlot < 3 → s.xa.uncorr = false →
    s.plan.stopCorr = false → s.xa.replays = [] → ∃ t, exec (.computeEnd ups ev) s = .next t ∧ t.xa.computing = none ∧
      (t.slot s.xa.computingSlot).state = .retained ∧ t.xa.dwellCount = s.xa.dwellCount + 1) ∧
  (∀ ups ev s, (s.arraysRun = false ∨ s.xa.computing = none) → exec (.computeEnd ups ev) s = .next s) ∧
  (∀ i s, s.arraysRun = true → s.slotIn .closed = some i → s.xa.computing = none → s.xa.boundaryHeld = false →
    (s.xa.drain.isSome = true ∨ s.xa.withheld ≠ []) → s.beams.forming = none → exec .dwellBoundary s =
      .next (({ s with xa := { s.xa with boundaryHeld := true } }).bump .xaDrainHold)) ∧
  (∀ i d s, s.arraysRun = true → s.slotIn .closed = some i → s.xa.computing = none → s.xa.boundaryHeld = false →
    s.xa.drain = none → s.xa.withheld = [] → s.beams.forming = some d → exec .dwellBoundary s =
      .next (({ s with xa := { s.xa with boundaryHeld := true } }).bump .bfHold)) ∧
  (∀ i s, s.arraysRun = true → s.slotIn .closed = some i → s.xa.computing = none → s.xa.boundaryHeld = false → s.xa.drain = none →
    s.xa.withheld = [] → s.beams.forming = none → exec .dwellBoundary s = .next (boundary i s)) ∧
  (∀ s, (s.xa.computing.isSome = true ∨ s.arraysRun = false) → exec .dwellBoundary s = .next s) ∧
  (∀ x p s, s.arraysRun = true → s.xa.drain = some x → s.planOf x.dwell.ver = some p → s.xa.boundaryHeld = false → s.xa.staging = [] →
    s.rmw.pass = none → ∃ t, exec .drainEnd s = .next t ∧ t.xa.drain = none) ∧
  (∀ s, (s.xa.drain = none ∨ s.arraysRun = false) → exec .drainEnd s = .next s) ∧
  (∀ t0 (b : Fin 80) ups p i sp s, s.arraysRun = true → s.xa.tieBreaks.find? (·.shadow.bed = b.val) = some t0 →
    s.planOf t0.dwell.ver = some p → s.slotOf t0.dwell = some i → s.spareOf t0.helper = some sp → s.helperBusy t0 = false →
    exec (.tieBreakDone b ups) s = .next (releaseBoundary (advancePass (decideTie t0 (recompute p (s.slot i).pkts t0.shadow.deal sp t0.shadow.pos ups) s)))) ∧
  (∀ (b : Fin 80) ups s, s.xa.tieBreaks.find? (·.shadow.bed = b.val) = none → exec (.tieBreakDone b ups) s = .next s) ∧
  (∀ r x s, s.arraysRun = true → s.xa.replays = [r] → r.started = true → r.shares = [x] → s.staged r.dwell = none → s.rmw.pass = none →
    ∃ t, exec (.replayRecomputeDone r.cell x.1) s = .next t ∧ t.xa.replays = [{ r with shares := [], finished := r.finished ++ [x] }] ∧
      t.rmw = s.rmw) ∧
  (∀ cell spare s, s.xa.replays = [] → exec (.replayRecomputeDone cell spare) s = .next s) ∧
  (∀ d p bad s, s.arraysRun = true → s.beams.forming = some d → s.planOf d.ver = some p →
    exec (.beamGroupFormed bad) s = .next (if (formGroup p d (bad.foldl storeError s)).beams.group < p.req.T / 1024
      then formGroup p d (bad.foldl storeError s) else endForming p d (formGroup p d (bad.foldl storeError s)))) ∧
  (∀ b s, b ∈ (storeError s b).beams.weights.err ∧ (storeError s b).beams.forming = s.beams.forming) ∧
  (∀ bad s, (s.arraysRun = false ∨ s.beams.forming = none) → exec (.beamGroupFormed bad) s = .next s) ∧
  (∀ (i : Fin 64) o rest s, s.arraysRun = true → (s.sieve i).ready = o :: rest → i.val < s.riddle.sieves.length →
    ∃ t, exec (.sieveOutput i) s = .next t ∧ (t.sieve i).ready = rest) ∧
  (∀ (i : Fin 64) s, (s.sieve i).ready = [] → exec (.sieveOutput i) s = .next s)

/-- R94 to R97, R102, R335: a pass begins only when none runs: with room for its records, one of a FRESH channel whose integration goes on begins with
nothing to harvest. A chunk of a FRESH channel reads as zeros, and one of another channel as the sums that DRAM holds, when no unit of it is in error. A queued
chunk that commits stores its new sums, and marks them. A write that is not acknowledged is repeated, four times as it is and a fifth with the row's repair asked,
after which the sum is lost and the chunk closes. An engine reset repeats the writes in flight and loses no committed chunk. A dwell whose sums are not added
commits without a pass; a dwell whose chunks have all committed, with nothing to harvest, ends its pass and leaves staging. The flush of a channel that
starts anew while no lane takes its records, as when no plan names a destination, sets it FRESH, writes no byte and goes on to the next. With no pass, or no such chunk, nothing changes.
Rests on log 8 and 149. -/
def Obligations.RmwPassesCommit : Prop :=
  (∀ ps s, s.rmw.pass = some ps → exec .rmwPassStart s = .next s) ∧
  (∀ s, s.arraysRun = true → s.rmw.pass = none → s.xa.staging.find? (·.add) = none → exec .rmwPassStart s = .next s) ∧
  (∀ x p idx start c s, s.arraysRun = true → s.rmw.pass = none → s.xa.staging.find? (·.add) = some x → s.planOf x.dwell.ver = some p →
    integAt s.rmw.eras x.dwell.sweep = some (idx, start, c) → (s.chanDesc x.dwell.chan).fresh = true →
    (s.chanDesc x.dwell.chan).start = some start → s.harvestRoom [] = true → ∃ t, exec .rmwPassStart s = .next t ∧
      (∃ ps, t.rmw.pass = some ps ∧ ps.dwell = x.dwell ∧ ps.fresh = true ∧ ps.start = start ∧ ps.index = idx ∧ ps.harvest = none) ∧
      t.rmw.chan = x.dwell.chan) ∧
  (∀ pos errs ps p k s, s.arraysRun = true → s.rmw.pass = some ps → s.planOf ps.dwell.ver = some p →
    ps.flight.find? (·.pos = pos) = some k → k.old = none → (s.chanDesc ps.dwell.chan).fresh = true →
    exec (.chunkReadDone pos errs) s = .next (tryQueue p (s.setPass (some { ps with
      flight := ps.flight.map fun x => if x.pos = pos then { x with old := some (List.replicate 1024 (0, 0)), readUe := false } else x })))) ∧
  (∀ pos ps p k s, s.arraysRun = true → s.rmw.pass = some ps → s.planOf ps.dwell.ver = some p →
    ps.flight.find? (·.pos = pos) = some k → k.old = none → (s.chanDesc ps.dwell.chan).fresh = false → s.mem.poison = [] →
    exec (.chunkReadDone pos []) s = .next (tryQueue p ((memAccess 0 (p.chunkAddr ps.dwell.chan pos) p.Z s).setPass (some { ps with
      flight := ps.flight.map fun x => if x.pos = pos then { x with
        old := some (sumsOf p.req.long ((memAccess 0 (p.chunkAddr ps.dwell.chan pos) p.Z s).dramRead (p.chunkAddr ps.dwell.chan pos) p.Z))
        readUe := false } else x })))) ∧
  (∀ pos ps0 ps p k x b L s u, s.arraysRun = true → s.rmw.pass = some ps0 → s.planOf ps0.dwell.ver = some p → u = tryQueue p s →
    u.rmw.pass = some ps → u.staged ps0.dwell = some x →
    ps.flight.find? (·.pos = pos) = some k → x.pairs.find? (·.pos = pos) = some b → k.old = some L → k.queued = true →
    let N := newSums p.req.long (if ps.harvest.isSome then List.replicate 1024 (0, 0) else L) b.sums
    let v := writeMarks p ps k b N.2 false (dramStore (p.chunkAddr ps.dwell.chan pos) (sumBytes p.req.long N.1)
      (memAccess 0 (p.chunkAddr ps.dwell.chan pos) p.Z u))
    ps.dwell = ps0.dwell → exec (.chunkCommit pos) s = .next (closeChunk pos (if N.2 then v.bump .mcRmwSumClamp else v))) ∧
  (∀ pos ps s, s.rmw.pass = some ps → ∃ q, (closeChunk pos s).rmw.pass = some q ∧ q.committed = ps.committed ++ [pos] ∧ q.dwell = ps.dwell) ∧
  (∀ pos ps p k x b L s, s.arraysRun = true → s.rmw.pass = some ps → s.planOf ps.dwell.ver = some p → s.staged ps.dwell = some x →
    ps.flight.find? (·.pos = pos) = some k → x.pairs.find? (·.pos = pos) = some b → k.old = some L → k.queued = true →
    (k.fails < 4 → exec (.chunkWriteTimeout pos) s = .next (repeatChunk pos (countFail pos s))) ∧
    (k.fails = 4 → exec (.chunkWriteTimeout pos) s = .next (repeatChunk pos (askRepair (chanOf (p.chunkAddr ps.dwell.chan pos))
      (rowOf (p.chunkAddr ps.dwell.chan pos)) (countFail pos s)))) ∧
    (4 < k.fails → ∃ t q, exec (.chunkWriteTimeout pos) s = .next t ∧ t.rmw.pass = some q ∧ q.committed = ps.committed ++ [pos] ∧
      q.sumLost = true)) ∧
  (∀ ps s, s.arraysRun = true → s.rmw.pass = some ps → ∃ t, exec .rmwEngineReset s = .next t ∧ t.mem = s.mem ∧ t.xa = s.xa ∧
    ∃ q, t.rmw.pass = some q ∧ q.committed = ps.committed ∧ q.dwell = ps.dwell) ∧
  (∀ s pos errs, s.rmw.pass = none → exec (.chunkReadDone pos errs) s = .next s ∧ exec (.chunkCommit pos) s = .next s ∧
    exec (.chunkWriteTimeout pos) s = .next s ∧ exec .rmwEngineReset s = .next s) ∧
  (∀ x p s, s.arraysRun = true → s.rmw.pass = none → s.xa.staging = [x] → x.add = false → x.drained = true → x.pairs.all (·.ready) = true →
    s.planOf x.dwell.ver = some p → s.commitRoom = true → s.slotOf x.dwell = none →
    ∃ t, exec .dwellCommit s = .next t ∧ t.xa.staging = [] ∧ t.mem.dram = s.mem.dram ∧ t.rmw = s.rmw) ∧
  (∀ ps x p s, s.arraysRun = true → s.rmw.pass = some ps → s.planOf ps.dwell.ver = some p → s.staged ps.dwell = some x →
    x.pairs.length ≤ ps.committed.length → ps.harvest = none → s.commitRoom = true → s.slotOf ps.dwell = none → s.gk.commitWait = false →
    ps.dwell.chan < s.rmw.desc.length → ∃ t, exec .dwellCommit s = .next t ∧ t.rmw.pass = none ∧
      t.chanDesc ps.dwell.chan = descAfter ps (s.chanDesc ps.dwell.chan) ∧ t.xa.staging = s.xa.staging.filter (·.dwell != ps.dwell) ∧
      t.mem.dram = s.mem.dram) ∧
  (∀ ue c rest p k s, s.arraysRun = true → s.rmw.pass = none → s.xa.staging = [] → s.rmw.flushLeft = c :: rest → rest ≠ [] →
    s.rmw.flushPlan = some p → s.rmw.stopAt = some k → c < s.rmw.desc.length → s.classServed 3 = false →
    s.rmw.flush = {} → (∀ ch, (s.reel ch).waiting = []) →
    ∃ t, exec (.flushPass ue) s = .next t ∧ t.rmw.flushLeft = rest ∧ (t.chanDesc c).fresh = true ∧ t.mem.dram = s.mem.dram ∧ t.xa = s.xa) ∧
  (∀ ue s, s.rmw.flushLeft = [] → exec (.flushPass ue) s = .next s)

/-! ### Spares, supervisors and the caller role -/

/-- R82, R298, R299, R302, R304, R306, R308, R326. CELL_FAULT by ECC, supply or clock, and CELL_STALL_TIMEOUT of a cell that works, fault the cell: with no plan it is
retired (where nothing of it is left to drain) and the spare map stands; a cell that the plan deals is faulted and, where its bed has a spare that no graft takes, its
graft is scheduled; a spare leaves its bed without one. CELL_FAULT by its routine counts XA_ROUTINE_BAD and waits for the boundary under a plan, and faults the cell at
once without one. A cell that cannot fault, or does not work, is left as it was. ROTATION_PERIOD under a plan makes the rotation due from stripe 0, unless one is due or
the period is 0 under a plan that is not provisional. The first PHASE_FAULT of a powered stripe puts its spare phase in; a second one loses the stripe and stops the
correlation of a plan in force. STEWARD_STATUS notes the time; STEWARD_FAULT faults the steward once and no array. MARGIN_HOURLY takes one free reading, retires, in native
mode and with no plan, a cell below 10 ps, and raises, in the DX2-compatible mode, a stripe below 25 ps by one step up to 8. LOAM_SCRUB ages its corrections out and
starts the copy of a bank with 16 words corrected; LOAM_UNCORRECTABLE_READ starts that copy, or sets LOAM_NO_SPARE_SEEN where the group's spare is in use, and marks what the word
held (here a sieve's bank and a queued harvest); LOAM_BANK_COPY_DONE remaps the bank. None acts on a die that does not run.
Rests on log 70 and 127. -/
def Obligations.UnitsFailAndAreReplaced : Prop :=
  (∀ (c : Fin 1360) cause s, s.canFault c = true → cause ≠ .routine → exec (.cellFault c cause) s = .next (faultCell c s)) ∧
  (∀ (c : Fin 1360) s, s.canFault c = true → (s.plan.active.isSome = true ∨ s.plan.pendingPlan.isSome = true) → s.xa.routineBad.contains c.val = false →
    exec (.cellFault c .routine) s = .next { s.bump .xaRoutineBad with xa := { s.xa with routineBad := s.xa.routineBad ++ [c.val] } }) ∧
  (∀ (c : Fin 1360) s, s.canFault c = true → s.plan.active = none → s.plan.pendingPlan = none →
    exec (.cellFault c .routine) s = .next (faultCell c (s.bump .xaRoutineBad))) ∧
  (∀ (c : Fin 1360) s, s.canFault c = true → s.cellWorks c = true → exec (.cellStallTimeout c) s = .next (faultCell c s)) ∧
  (∀ (c : Fin 1360) cause s, s.canFault c = false → exec (.cellFault c cause) s = .next s) ∧
  (∀ (c : Fin 1360) s, (s.canFault c = false ∨ s.cellWorks c = false) → exec (.cellStallTimeout c) s = .next s) ∧
  (∀ c s, s.xa.drain = none → s.xa.withheld = [] → s.spareOf (bedOf c) ≠ some c → s.plan.active = none → s.cells.retired.contains c = false →
    (faultCell c s).cells.retired = s.cells.retired ++ [c] ∧ (faultCell c s).cells.spareMap = s.cells.spareMap ∧
    (faultCell c s).cells.powered = s.cells.powered) ∧
  (∀ c i p s, s.spareOf (bedOf c) ≠ some c → (s.spareOf (bedOf c)).isSome = true → s.graftingIn (bedOf c) = false → s.plan.active = some p →
    p.cellMap.findIdx? (· = c) = some i → (faultCell c s).xa.faulted = s.xa.faulted ++ [c] ∧
    (faultCell c s).cells.grafts = s.cells.grafts ++ [{ cell := c, decided := s.now }] ∧ (faultCell c s).cells.spareMap = s.cells.spareMap) ∧
  (∀ c s, s.spareOf (bedOf c) = some c → (faultCell c s).spareOf (bedOf c) = none ∧ (faultCell c s).cells.retired.contains c = true) ∧
  (∀ p s, s.dieRuns = true → s.plan.active = some p → s.cells.rotDue = none → (s.sup.rotationPeriod ≠ 0 ∨ p.provisional = true) →
    exec .rotationPeriod s = .next { s with cells := { s.cells with rotDue := some 0 } }) ∧
  (∀ s, (s.dieRuns = false ∨ s.plan.active = none ∨ s.cells.rotDue.isSome = true) → exec .rotationPeriod s = .next s) ∧
  (∀ p s, s.plan.active = some p → p.provisional = false → s.sup.rotationPeriod = 0 → exec .rotationPeriod s = .next s) ∧
  (∀ (st : Fin 10) s, s.dieRuns = true → s.cells.powered.getLsbD st = true → s.cells.sparePhaseIn.getLsbD st = false →
    ∃ t, exec (.phaseFault st) s = .next t ∧ t.cells.sparePhaseIn = s.cells.sparePhaseIn ||| BitVec.ofNat 10 (2 ^ st.val) ∧
      t.cells.powered = s.cells.powered ∧ t.cells.stripeLost = s.cells.stripeLost ∧ t.plan = s.plan) ∧
  (∀ (st : Fin 10) s, s.dieRuns = true → s.cells.powered.getLsbD st = true → s.cells.sparePhaseIn.getLsbD st = true →
    ∃ t, exec (.phaseFault st) s = .next t ∧ t.cells.stripeLost = s.cells.stripeLost ||| BitVec.ofNat 10 (2 ^ st.val) ∧
      t.cells.powered = s.cells.powered &&& ~~~ BitVec.ofNat 10 (2 ^ st.val) ∧
      (s.plan.active.isSome = true → t.plan.stopCorr = true)) ∧
  (∀ (st : Fin 10) s, (s.dieRuns = false ∨ s.cells.powered.getLsbD st = false) → exec (.phaseFault st) s = .next s) ∧
  (∀ (st : Fin 10) s, s.dieRuns = true → exec (.stewardStatus st) s =
    .next { s with cells := { s.cells with stewardAt := setAt st (fun _ => s.now) s.cells.stewardAt } }) ∧
  (∀ (st : Fin 10) own s, s.dieRuns = true → s.cells.stewardFault.getLsbD st = false → ∃ t, exec (.stewardFault st own) s = .next t ∧
    t.cells = { s.cells with stewardFault := s.cells.stewardFault ||| BitVec.ofNat 10 (2 ^ st.val) } ∧ t.xa = s.xa ∧ t.rmw = s.rmw) ∧
  (∀ (st : Fin 10) own s, s.cells.stewardFault.getLsbD st = true → exec (.stewardFault st own) s = .next s) ∧
  (∀ s, s.dieRuns = true → ∃ t, exec (.marginHourly [] []) s = .next t ∧ t.cells.margin = s.cells.margin ∧ t.cells.retired = s.cells.retired ∧
    t.freeCount = s.freeCount + 1) ∧
  (∀ c v s, s.dieRuns = true → s.cells.marginMode = false → s.plan.active = none → v < 10 → c < 1360 → s.spareOf (bedOf c) ≠ some c →
    s.cells.retired.contains c = false → s.xa.faulted.contains c = false →
    ∃ t, exec (.marginHourly [(c, v)] []) s = .next t ∧ t.cells.retired = s.cells.retired ++ [c] ∧ t.cells.margin = s.cells.margin) ∧
  (∀ v s, s.dieRuns = true → s.cells.marginMode = true → s.plan.active = none → s.cells.marginNext = [] → v < 25 → s.cells.margin.getD 0 0 < 8 →
    ∃ t, exec (.marginHourly [] [v]) s = .next t ∧ t.cells.margin = setAt 0 (fun _ => s.cells.margin.getD 0 0 + 1) s.cells.margin) ∧
  (∀ v s, s.dieRuns = true → s.cells.marginMode = true → s.plan.active = none → s.cells.marginNext = [] → v < 25 → s.cells.margin.getD 0 0 = 8 →
    ∃ t, exec (.marginHourly [] [v]) s = .next t ∧ t.cells.margin = s.cells.margin ∧ t.cells.marginExhausted = s.cells.marginExhausted ||| 1) ∧
  (∀ s, s.dieRuns = true → exec (.loamScrub [] []) s = .next { s.bumpBy .genLoamCe 0 with cells := { s.cells with
    loamCorr := s.cells.loamCorr.filter fun x => !s.passed x.2.2 (3600 * 10 ^ 9) } }) ∧
  (∀ (ws : List Nat) b s, s.dieRuns = true → b < 256 → ws.Nodup → 16 ≤ ws.length → s.cells.loamCopy = [] → s.cells.loamRemap = [] → s.cells.loamSpareUsed = 0 →
    ∃ t, exec (.loamScrub (ws.map fun w => (b, w)) []) s = .next t ∧ t.cells.loamCopy = [(b / 16, b)]) ∧
  (∀ pl (b : Fin 256) a s, s.dieRuns = true → ∃ t, exec (.loamUncorrectableRead pl b a) s = .next t ∧ t.cells.spareMap = s.cells.spareMap ∧
    t.cells.loamRemap = s.cells.loamRemap) ∧
  (∀ (b : Fin 256) a s, s.dieRuns = true → s.cells.loamCopy = [] → s.cells.loamRemap = [] → s.cells.loamSpareUsed = 0 →
    ∃ t, exec (.loamUncorrectableRead .placement b a) s = .next t ∧ t.cells.loamCopy = [(b.val / 16, b.val)]) ∧
  (∀ (b : Fin 256) a s, s.dieRuns = true → s.cells.loamCopy = [] → s.cells.loamSpareUsed.getLsbD (b.val / 16) = true →
    ∃ t, exec (.loamUncorrectableRead .placement b a) s = .next t ∧ t.cells.loamCopy = [] ∧ t.cells.loamNoSpareSeen = true) ∧
  (∀ i k (b : Fin 256) a s, s.dieRuns = true → (s.sieve i).bank = k → i < s.riddle.sieves.length →
    ∃ t, exec (.loamUncorrectableRead (.riddle i k) b a) s = .next t ∧ (t.sieve i).coefErr = true) ∧
  (∀ i (b : Fin 256) a s, s.dieRuns = true → ∃ t, exec (.loamUncorrectableRead (.harvestQueue i) b a) s = .next t ∧
    t.lanes.qHarvest = s.lanes.qHarvest.eraseIdx i) ∧
  (∀ (g : Fin 16) x s, s.dieRuns = true → s.cells.loamCopy.find? (·.1 = g.val) = some x → ∃ t, exec (.loamBankCopyDone g) s = .next t ∧
    t.cells.loamSpareUsed = s.cells.loamSpareUsed ||| BitVec.ofNat 16 (2 ^ g.val) ∧ t.cells.loamRemap = s.cells.loamRemap ++ [x] ∧
    t.cells.loamCopy = s.cells.loamCopy.filter (·.1 ≠ g.val)) ∧
  (∀ (g : Fin 16) s, s.cells.loamCopy.find? (·.1 = g.val) = none → exec (.loamBankCopyDone g) s = .next s) ∧
  (∀ (c : Fin 1360) (st : Fin 10) own cause pl (b : Fin 256) (g : Fin 16) a xs ys vs zs s, s.dieRuns = false → exec (.cellFault c cause) s = .next s ∧
    exec (.cellStallTimeout c) s = .next s ∧ exec (.stewardStatus st) s = .next s ∧ exec (.stewardFault st own) s = .next s ∧
    exec (.marginHourly xs ys) s = .next s ∧ exec (.loamScrub vs zs) s = .next s ∧ exec (.loamUncorrectableRead pl b a) s = .next s ∧
    exec (.loamBankCopyDone g) s = .next s)

/-- R310 to R316. LEASE_RENEW notes the renewal of a lease held for less than 200 µs since the last one, and otherwise changes nothing. LEASE_LAPSE of a held lease gives it, with
the next TERM, to the other core in STANDBY and resets the core that held it, or, with no core in STANDBY, leaves no holder and the TERM. NO_HOLDER_TIMEOUT resets the
last holder, NO_HOLDER_SECOND_TIMEOUT the other core, once each while no core holds the lease. A SELFTEST_CYCLE of a core in SELFTEST or STANDBY that passes takes a lease that
nobody holds; while one is held, and no firmware update runs, it makes STANDBY, and one that fails resets the core, or leaves it FAILED with the third failure in a row. REVERT
with REVERT_EN, a preferred core in STANDBY and no firmware update hands the lease over at once without a plan and at the next boundary with one. Where the conditions of a
command are not met it changes nothing.
Rests on log 16 and 23. -/
def Obligations.TheLeaseMovesBetweenTheCores : Prop :=
  (∀ s, s.dieRuns = true → s.leaseHeld = true → s.passed s.sup.renewedAt 200000 = false → exec .leaseRenew s =
    .next { s with sup := { s.sup with renewedAt := s.now } }) ∧
  (∀ s, (s.dieRuns = false ∨ s.leaseHeld = false ∨ s.passed s.sup.renewedAt 200000 = true) → exec .leaseRenew s = .next s) ∧
  (∀ s, s.dieRuns = true → s.leaseHeld = true → s.core (1 - s.leaseCore) = .standby →
    ∃ t, exec .leaseLapse s = .next t ∧ t.leaseHeld = true ∧ t.leaseCore = 1 - s.leaseCore ∧ t.leaseTerm = (s.leaseTerm + 1) % 2 ^ 24 ∧
      t.core t.leaseCore = .active ∧ t.core s.leaseCore = .boot ∧ t.sup.failoverSeen = true) ∧
  (∀ s, s.dieRuns = true → s.leaseHeld = true → s.core (1 - s.leaseCore) ≠ .standby →
    ∃ t, exec .leaseLapse s = .next t ∧ t.leaseHeld = false ∧ t.leaseCore = s.leaseCore ∧ t.leaseTerm = s.leaseTerm) ∧
  (∀ s, (s.dieRuns = false ∨ s.leaseHeld = false) → exec .leaseLapse s = .next s) ∧
  (∀ s, s.dieRuns = true → 3 < s.boot.step → s.leaseHeld = false → s.sup.noHolderStep = 0 → ∃ t, exec .noHolderTimeout s = .next t ∧
    t.core s.leaseCore = .boot ∧ t.sup.noHolderStep = 1 ∧ t.sup.noHolderSeen = true ∧ t.core (1 - s.leaseCore) = s.core (1 - s.leaseCore)) ∧
  (∀ s, (s.dieRuns = false ∨ s.leaseHeld = true ∨ s.sup.noHolderStep ≠ 0) → exec .noHolderTimeout s = .next s) ∧
  (∀ s, s.dieRuns = true → s.leaseHeld = false → s.sup.noHolderStep = 1 → ∃ t, exec .noHolderSecondTimeout s = .next t ∧
    t.core (1 - s.leaseCore) = .boot ∧ t.sup.noHolderStep = 2 ∧ t.core s.leaseCore = s.core s.leaseCore) ∧
  (∀ s, (s.dieRuns = false ∨ s.leaseHeld = true ∨ s.sup.noHolderStep ≠ 1) → exec .noHolderSecondTimeout s = .next s) ∧
  (∀ (c : Fin 2) s, s.clk.held = false → 3 ≤ s.boot.step → (s.core c = .selftest ∨ s.core c = .standby) → s.leaseHeld = false →
    ∃ t, exec (.selftestCycle c true) s = .next t ∧ t.core c = .active ∧ t.leaseHeld = true ∧ t.leaseCore = c.val ∧
      t.leaseTerm = (s.leaseTerm + 1) % 2 ^ 24) ∧
  (∀ (c : Fin 2) s, s.clk.held = false → 3 ≤ s.boot.step → (s.core c = .selftest ∨ s.core c = .standby) → s.leaseHeld = true →
    s.boot.fwUpdate ≠ 1 → ∃ t, exec (.selftestCycle c true) s = .next t ∧ t.core c = .standby ∧ t.sup.lease = s.sup.lease ∧ t.selfFails c = 0) ∧
  (∀ (c : Fin 2) s, s.clk.held = false → 3 ≤ s.boot.step → (s.core c = .selftest ∨ s.core c = .standby) → s.leaseHeld = true →
    s.boot.fwUpdate ≠ 1 → s.selfFails c < 2 → ∃ t, exec (.selftestCycle c false) s = .next t ∧ t.core c = .boot ∧
      t.selfFails c = s.selfFails c + 1 ∧ t.sup.lease = s.sup.lease) ∧
  (∀ (c : Fin 2) s, s.clk.held = false → 3 ≤ s.boot.step → (s.core c = .selftest ∨ s.core c = .standby) → s.boot.fwUpdate ≠ 1 →
    (2 ≤ s.selfFails c ∨ s.leaseHeld = false) → ∃ t, exec (.selftestCycle c false) s = .next t ∧ t.core c = .failed) ∧
  (∀ (c : Fin 2) ok s, (s.clk.held = true ∨ s.boot.step < 3 ∨ (s.core c ≠ .selftest ∧ s.core c ≠ .standby)) →
    exec (.selftestCycle c ok) s = .next s) ∧
  (∀ s, s.dieRuns = true → s.sup.cfg.getLsbD 1 = true → s.sup.preferredRetired = false → s.leaseHeld = true → s.leaseCore ≠ s.preferred →
    s.core s.preferred = .standby → s.boot.fwUpdate ≠ 1 → s.plan.active = none →
    ∃ t, exec .revert s = .next t ∧ t.leaseCore = s.preferred ∧ t.leaseHeld = true ∧ t.core s.leaseCore = .standby ∧ t.core s.preferred = .active) ∧
  (∀ s, s.dieRuns = true → s.sup.cfg.getLsbD 1 = true → s.sup.preferredRetired = false → s.leaseHeld = true → s.leaseCore ≠ s.preferred →
    s.core s.preferred = .standby → s.boot.fwUpdate ≠ 1 → s.plan.active.isSome = true →
    ∃ t, exec .revert s = .next t ∧ t.sup.handoverDue = 2 ∧ t.sup.lease = s.sup.lease) ∧
  (∀ s, (s.dieRuns = false ∨ s.sup.cfg.getLsbD 1 = false ∨ s.sup.preferredRetired = true ∨ s.leaseHeld = false ∨ s.leaseCore = s.preferred ∨
    s.core s.preferred ≠ .standby ∨ s.boot.fwUpdate = 1) → exec .revert s = .next s)

/-- R163, R259, R318 to R321. HEARTBEAT_SEND sends a heartbeat, at once or where one waits its turn, unless the device is founding a system. CALLER_LEASE_LAPSE at a device of a system that does not
hold the role makes it PARTITIONED under a lease without a holder and with its TERM, and a voter backs off. CALLER_CLAIM at the end of a back-off claims where the device's half
qualifies and waits on where it does not; CALLER_CLAIM_WIN makes a claimant the caller with TERM + 1; CALLER_HALF_LOST ends the role of a caller whose half no longer
qualifies, and the lease word stands. A HEARTBEAT that comes on an up mesh lane for the first time is flooded and taken; one seen before is not, one on a lane without the mesh role is counted;
one taken in a system is remembered, with its body. A lease word that wins is adopted from its holder, and the role and the claim end; one without its complement or
without a holder is not. DEVICE_LOST marks a device of the caller's system as lost, once.
Rests on log 16, 57, 62 and 115. -/
def Obligations.TheCallerRoleMoves : Prop :=
  (∀ s, s.laneRuns = true → s.mesh.founding = false → ∃ t, exec .heartbeatSend s = .next t ∧ t.mesh.hbAt = t.now ∧
    t.mesh.lease = s.mesh.lease ∧ t.mesh.caller = s.mesh.caller ∧ t.plan.active = s.plan.active) ∧
  (∀ s l, s.laneRuns = true → s.mesh.founding = false → s.passed s.mesh.hbAt 50000 = true → s.mesh.segment < 32 → s.upLanes = [l] → s.txOpen l = true → s.mesh.waiting = [] →
    (s.lane l).txFree ≤ s.now → ∃ t n d q, exec .heartbeatSend s = .next t ∧ t.mesh.tx = s.mesh.tx ++
      [{ lane := l, type := 0x11, src := s.srcIndex, dest := d, linkSeq := q, fseq := n, body := heartbeatBytes (heartbeatNow s) }]) ∧
  (∀ s, (s.laneRuns = false ∨ s.mesh.founding = true) → exec .heartbeatSend s = .next s) ∧
  (∀ s, s.laneRuns = true → s.mesh.caller = false → s.boot.system ≠ 0 → s.mesh.partitioned = false → leaseHolder s.callerLease ≠ 0x3FF →
    ∃ t, exec .callerLeaseLapse s = .next t ∧ t.mesh.partitioned = true ∧ t.mesh.partitionSeen = true ∧ leaseHolder t.callerLease = 0x3FF ∧
      callerTerm t.callerLease = callerTerm s.callerLease ∧ (s.isVoter = true ↔ t.mesh.backoff.isSome = true)) ∧
  (∀ s, (s.laneRuns = false ∨ s.mesh.caller = true ∨ s.boot.system = 0 ∨ s.mesh.partitioned = true ∨ leaseHolder s.callerLease = 0x3FF) →
    exec .callerLeaseLapse s = .next s) ∧
  (∀ f s, s.tamzarServes = true → s.mesh.backoff = some f → s.mesh.partitioned = true → s.mesh.claiming = none →
    (s.advanceTo f).qualifies (s.advanceTo f).now 250000 = true →
    ∃ t, exec .callerClaim s = .next t ∧ t.mesh.claiming = some t.now ∧ t.mesh.caller = s.mesh.caller ∧ t.mesh.lease = s.mesh.lease) ∧
  (∀ f s, s.tamzarServes = true → s.mesh.backoff = some f → s.mesh.partitioned = true → s.mesh.claiming = none →
    (s.advanceTo f).qualifies (s.advanceTo f).now 250000 = false → exec .callerClaim s = .next (s.advanceTo f)) ∧
  (∀ s, (s.tamzarServes = false ∨ s.mesh.backoff = none ∨ s.mesh.partitioned = false ∨ s.mesh.claiming.isSome = true) →
    exec .callerClaim s = .next s) ∧
  (∀ f s, s.tamzarServes = true → s.mesh.claiming = some f → ∃ t, exec .callerClaimWin s = .next t ∧
    t.mesh.caller = true ∧ t.mesh.partitioned = false ∧ t.mesh.claiming = none ∧ leaseHolder t.callerLease = s.mesh.index.toNat ∧
    callerTerm t.callerLease = (callerTerm s.callerLease + 1) % 2 ^ 22) ∧
  (∀ s, (s.tamzarServes = false ∨ s.mesh.claiming = none) → exec .callerClaimWin s = .next s) ∧
  (∀ s, s.mesh.caller = true → s.boot.system = 2 → s.tamzarServes = true → s.qualifies s.now 150000 = false →
    ∃ t, exec .callerHalfLost s = .next t ∧ t.mesh.caller = false ∧ t.mesh.carrying = false ∧ t.mesh.lease = s.mesh.lease) ∧
  (∀ s, (s.mesh.caller = false ∨ s.boot.system ≠ 2 ∨ s.tamzarServes = false) → exec .callerHalfLost s = .next s) ∧
  (∀ (l : Fin 128) src n b s, Claims.meshOpen l s → (src ≠ s.mesh.index.toNat ∨ s.boot.system ≠ 2) →
    s.mesh.seen.contains (Claims.beatFrame l src n b).key = false → exec (.heartbeat l src n true b) s =
      .next (takeHeartbeat src true b (floodFrom (Claims.beatFrame l src n b) s.time16
        (seeFrame (Claims.beatFrame l src n b).key (Claims.recv l s))))) ∧
  (∀ (l : Fin 128) src n b s, Claims.meshOpen l s → s.mesh.seen.contains (Claims.beatFrame l src n b).key = true →
    exec (.heartbeat l src n true b) s = .next (Claims.recv l s)) ∧
  (∀ (l : Fin 128) src n sys b s, s.fjOpen l = true → s.role l ≠ 3 → exec (.heartbeat l src n sys b) s =
    .next ((Claims.recv l s).bump .lnFjRole)) ∧
  (∀ (l : Fin 128) src n sys b s, s.fjOpen l = false → exec (.heartbeat l src n sys b) s = .next s) ∧
  (∀ src w b s, s.boot.system = 0 → takeHeartbeat src w b s = s) ∧
  (∀ src w b s, s.boot.system ≠ 0 → b.caller = false → (takeHeartbeat src w b s).mesh.heard.any (fun h => h.index = src && h.body == b) = true) ∧
  (∀ src b s, (b.leaseN ≠ ~~~ b.lease ∨ leaseHolder b.lease = 0x3FF) → hearLease src b s = s) ∧
  (∀ src b s, b.leaseN = ~~~ b.lease → leaseHolder b.lease = src → src ≠ 0x3FF → src ≠ s.mesh.index.toNat → s.leaseWins b.lease s.leaseSent = true →
    hearLease src b s = adoptLease b.lease s) ∧
  (∀ w s, leaseHolder w ≠ s.mesh.index.toNat → (adoptLease w s).callerLease = w ∧ (adoptLease w s).mesh.caller = false ∧
    (adoptLease w s).mesh.partitioned = false ∧ (adoptLease w s).mesh.claiming = none ∧ (adoptLease w s).mesh.backoff = none) ∧
  (∀ (i : BitVec 10) r s, s.mesh.system.find? (·.index = i.toNat) = some r → s.tiles = true → s.tamzarServes = true → s.mesh.partitioned = false →
    s.mesh.lost.contains i.toNat = false → i.toNat ≠ s.mesh.index.toNat → ∃ t, exec (.deviceLost i) s = .next t ∧
      t.mesh.lost = s.mesh.lost ++ [i.toNat] ∧ t.mesh.system = s.mesh.system) ∧
  (∀ (i : BitVec 10) s, (s.mesh.system.find? (·.index = i.toNat) = none ∨ s.tiles = false ∨ s.tamzarServes = false ∨ s.mesh.partitioned = true ∨
    s.mesh.lost.contains i.toNat = true ∨ i.toNat = s.mesh.index.toNat) → exec (.deviceLost i) s = .next s)

/-- R237, R238, R252, R254, R256, R260 to R262, R346. FJOTRANU_FRAME: a frame that fails its checks is discarded and counted, also in LN_FEC_UNCORR where a codeword is
uncorrectable; any other has its LINK_SEQ judged and is taken by its TYPE, here RECORD, LINK and DOZE; a mesh frame with HOPS 15 is counted. KCP_FRAME: a packet with SCOPE
DEVICE for this device, not seen before, is taken, and the lead sends it on under SCOPE 2 or 3; for another device it is sent on the lane of its route. KCP_REPLY_FRAME: a reply is
taken, and what is no reply is dropped. MESH_TRIGGER: a trigger not seen before is flooded and taken. SURVEY_FRAME: the caller absorbs the survey, its lead passes it on, others drop it.
SURVEY_SEND notes its time, and a member sends its survey. TIME_REQ is answered and TIME_EXCHANGE_SEND asks, each with the body of R260; TIME_RESP of the exchange that runs is
measured, and another's, or a late one, is dropped. Each of these frames on a lane without the mesh role is counted in LN_FJ_ROLE, and on a lane that is not open to Fjotranu frames it is nothing.
Rests on log 58, 59, 60 and 116. -/
def Obligations.MeshFramesAreTaken : Prop :=
  (∀ (l : Fin 128) h b c rx s, s.fjOpen l = true → frameChecks h b c false = false → exec (.fjotranuFrame l h b c false rx) s =
    .next (discardOn l (s.bump .lnFjCheck))) ∧
  (∀ (l : Fin 128) h b c rx s, s.fjOpen l = true → exec (.fjotranuFrame l h b c true rx) s =
    .next (discardOn l (((s.onLane l fun x => { x with codewordsBad := x.codewordsBad + 1 }).bump .lnFecUncorr).bump .lnFjCheck))) ∧
  (∀ (l : Fin 128) h b c rx s, s.fjOpen l = true → frameChecks h b c false = true → exec (.fjotranuFrame l h b c false rx) s =
    .next (frameByType l h b rx (linkNumber l (fieldAt 10 2 h) s))) ∧
  (∀ (l : Fin 128) h b rx s, fieldAt 1 1 h = 0x02 → s.role l = 2 → frameByType l h b rx s = receivedOn l s) ∧
  (∀ (l : Fin 128) h b rx s, fieldAt 1 1 h = 0x02 → s.role l ≠ 2 → frameByType l h b rx s = (receivedOn l s).bump .lnFjRole) ∧
  (∀ (l : Fin 128) h b rx s, fieldAt 1 1 h = 0x10 → frameByType l h b rx s = takeLink l (linkOf b) s) ∧
  (∀ (l : Fin 128) h b rx s, fieldAt 1 1 h = 0x18 → frameByType l h b rx s = takeDoze l (BitVec.ofNat 8 (fieldAt 0 1 b)) s) ∧
  (∀ (l : Fin 128) h b rx s, Claims.meshOpen l s → 0x11 ≤ fieldAt 1 1 h → fieldAt 1 1 h ≤ 0x17 → fieldAt 3 1 h = 15 →
    frameByType l h b rx s = (Claims.recv l s).bump .lnMeshHops) ∧
  (∀ (l : Fin 128) src n (d : BitVec 12) pk s, let f := Claims.packetFrame l src n d pk; let u := seeFrame f.key (Claims.recv l s)
    Claims.meshOpen l s → d.toNat / 1024 = 1 → s.boot.system = 2 → d.toNat % 1024 = s.mesh.index.toNat → src ≠ s.mesh.index.toNat →
    s.mesh.seen.contains f.key = false → kScope (kParse .mesh [] pk).2 = 1 → kTarget (kParse .mesh [] pk).2 = s.mesh.index.toNat →
    exec (.kcpFrame l src n d pk) s = .next (packetArrives (kParse .mesh [] pk) u)) ∧
  (∀ (l : Fin 128) src n (d : BitVec 12) pk s, let f := Claims.packetFrame l src n d pk; let u := seeFrame f.key (Claims.recv l s)
    Claims.meshOpen l s → d.toNat / 1024 = 1 → s.boot.system = 2 → d.toNat % 1024 = s.mesh.index.toNat → src ≠ s.mesh.index.toNat →
    s.mesh.seen.contains f.key = false → (kScope (kParse .mesh [] pk).2 = 3 ∨ (kScope (kParse .mesh [] pk).2 = 2 ∧
      kTarget (kParse .mesh [] pk).2 % 32 = s.mesh.segment)) → exec (.kcpFrame l src n d pk) s = .next (packetArrives (kParse .mesh [] pk)
        (leadSend (kScope (kParse .mesh [] pk).2) (kTarget (kParse .mesh [] pk).2) pk u))) ∧
  (∀ (l : Fin 128) src n (d : BitVec 12) pk r s, Claims.meshOpen l s → d.toNat / 1024 = 1 → d.toNat % 1024 ≠ s.mesh.index.toNat →
    (Claims.recv l s).routeLane (d.toNat % 1024) = some r → exec (.kcpFrame l src n d pk) s =
      .next (sendOn r (relayFrame (Claims.packetFrame l src n d pk) s.time16 (Claims.recv l s)) ((Claims.recv l s).bump .lnMeshRelayed))) ∧
  (∀ (l : Fin 128) src bs s, Claims.meshOpen l s → replyOf bs = none → exec (.kcpReplyFrame l src bs) s = .next (Claims.recv l s)) ∧
  (∀ (l : Fin 128) src bs r s, Claims.meshOpen l s → replyOf bs = some r →
    exec (.kcpReplyFrame l src bs) s = .next (takeReply src r (Claims.recv l s))) ∧
  (∀ (l : Fin 128) src n b s, Claims.meshOpen l s → (src ≠ s.mesh.index.toNat ∨ s.boot.system ≠ 2) →
    s.mesh.seen.contains (Claims.trigFrame l src n b).key = false → exec (.meshTrigger l src n b) s =
      .next (takeTrigger src b (floodFrom (Claims.trigFrame l src n b) s.time16
        (seeFrame (Claims.trigFrame l src n b).key (Claims.recv l s))))) ∧
  (∀ (l : Fin 128) src n b s, Claims.meshOpen l s → s.mesh.seen.contains (Claims.trigFrame l src n b).key = true →
    exec (.meshTrigger l src n b) s = .next (Claims.recv l s)) ∧
  (∀ (l : Fin 128) src bs s, Claims.meshOpen l s → s.boot.system = 2 → s.tamzarServes = true →
    s.mesh.caller = true → exec (.surveyFrame l src bs) s = .next (absorbSurvey (parseSurvey bs.length bs) (Claims.recv l s))) ∧
  (∀ (l : Fin 128) src bs s, Claims.meshOpen l s → s.boot.system = 2 → s.tamzarServes = true →
    s.mesh.caller = false → s.mesh.lead = true → exec (.surveyFrame l src bs) s =
      .next (surveyTo (leaseHolder s.callerLease) s.mesh.index.toNat bs (Claims.recv l s))) ∧
  (∀ (l : Fin 128) src bs s, Claims.meshOpen l s → (s.boot.system ≠ 2 ∨ s.tamzarServes = false ∨ (s.mesh.caller = false ∧ s.mesh.lead = false)) →
    exec (.surveyFrame l src bs) s = .next (Claims.recv l s)) ∧
  (∀ s, s.tamzarServes = true → s.boot.system = 2 → s.mesh.caller = true → ∃ t, exec .surveySend s = .next t ∧
    t.mesh = { s.mesh with surveySentAt := t.now }) ∧
  (∀ s, s.tamzarServes = true → s.boot.system = 2 → s.mesh.caller = false → s.mesh.lead = true →
    let u := s.waitFor s.mesh.surveySentAt (10 ^ 9)
    let v := { u with mesh := { u.mesh with surveySentAt := u.now } }
    exec .surveySend s = .next (surveyTo (leaseHolder s.callerLease) s.mesh.index.toNat (ownSurvey v) v)) ∧
  (∀ s, (s.tamzarServes = false ∨ s.boot.system ≠ 2) → exec .surveySend s = .next s) ∧
  (∀ (l : Fin 128) src b t4 t1 s, Claims.meshOpen l s → s.boot.system ≠ 0 →
    exec (.timeReq l src b t4 t1) s = .next (Claims.timeAnswer src b t4 t1 (Claims.recv l s))) ∧
  (∀ t3 s, s.laneRuns = true → s.boot.system ≠ 0 → s.mesh.caller = false →
    exec (.timeExchangeSend t3) s = .next (Claims.timeAsked t3 s)) ∧
  (∀ t3 s, (s.laneRuns = false ∨ s.boot.system = 0 ∨ s.mesh.caller = true) → exec (.timeExchangeSend t3) s = .next s) ∧
  (∀ (l : Fin 128) src b t2 s, Claims.meshOpen l s → (src ≠ s.timeParent ∨ b.exch ≠ s.time.exch ∨ s.passed s.time.exchFrc 10000002 = true) →
    exec (.timeResp l src b t2) s = .next (Claims.recv l s)) ∧
  (∀ (l : Fin 128) b t2 s, Claims.meshOpen l s → b.exch = s.time.exch →
    s.passed s.time.exchFrc 10000002 = false → b.notSynced = false → ∃ t, exec (.timeResp l s.timeParent b t2) s = .next t ∧
      t.time.meshSilent = false ∧ t.time.meshLast = s.now ∧ t.mesh.notSyncedLead = false) ∧
  (∀ (l : Fin 128) b t2 s, Claims.meshOpen l s → b.exch = s.time.exch → s.passed s.time.exchFrc 10000002 = false → b.notSynced = false →
    s.time.sources = [2] → s.time.meshSilent = false → s.time.source = 2 → s.mesh.notSyncedLead = false → s.time.state ≠ .unset → s.mesh.caller = false →
    ∃ u, exec (.timeResp l s.timeParent b t2) s = .next (measured 2 (Claims.meshError b t2 s - s.time.meshAsym) u) ∧ u.time.rate = s.time.rate ∧
      u.time.state = s.time.state ∧ u.time.offset = s.time.offset) ∧
  (∀ (l : Fin 128) src n d pk bs tb xb t1 t2 s, s.fjOpen l = true → s.role l ≠ 3 →
    exec (.kcpFrame l src n d pk) s = .next ((Claims.recv l s).bump .lnFjRole) ∧
    exec (.kcpReplyFrame l src bs) s = .next ((Claims.recv l s).bump .lnFjRole) ∧
    exec (.meshTrigger l src n tb) s = .next ((Claims.recv l s).bump .lnFjRole) ∧
    exec (.surveyFrame l src bs) s = .next ((Claims.recv l s).bump .lnFjRole) ∧
    exec (.timeReq l src xb t1 t2) s = .next ((Claims.recv l s).bump .lnFjRole) ∧
    exec (.timeResp l src xb t2) s = .next ((Claims.recv l s).bump .lnFjRole)) ∧
  (∀ (l : Fin 128) src n d pk bs h c bad rx tb xb t1 t2 s, s.fjOpen l = false → exec (.fjotranuFrame l h bs c bad rx) s = .next s ∧
    exec (.kcpFrame l src n d pk) s = .next s ∧ exec (.kcpReplyFrame l src bs) s = .next s ∧ exec (.meshTrigger l src n tb) s = .next s ∧
    exec (.surveyFrame l src bs) s = .next s ∧ exec (.timeReq l src xb t1 t2) s = .next s ∧ exec (.timeResp l src xb t2) s = .next s)

/-! ### Lanes, frames and time -/

/-- R246 to R248. LANE_TRAINING_DONE takes a lane from TRAIN to ALIGN; LANE_LOCK takes it from ALIGN, or from TRAIN while its partner dozes, to LOCK, with a record. LANE_LOCK_LOSS takes a
lane in LOCK to ALIGN, or to TRAIN with the signal lost, clears its streams and raises its flag, which a loss of signal announced by a DOZE notice does not; with the signal lost it takes a lane in
ALIGN to TRAIN. LANE_LOST, of a lane out of LOCK or with 5 exits in a second, marks it lost and, where the lane has a role, starts the re-plan of cause 5;
LANE_HEALTHY in LOCK ends that. SER_WINDOW in LOCK sets the lane's error ratio and DEGRADED. In any other case each changes nothing.
Rests on log 16. -/
def Obligations.LanesChangeState : Prop :=
  (∀ (l : Fin 128) s, s.laneRuns = true → (s.lane l).state = .train →
    exec (.laneTrainingDone l) s = .next (s.onLane l fun x => { x with state := .align })) ∧
  (∀ (l : Fin 128) s, (s.laneRuns = false ∨ (s.lane l).state ≠ .train) → exec (.laneTrainingDone l) s = .next s) ∧
  (∀ (l : Fin 128) s, s.laneRuns = true → ((s.lane l).state = .align ∨ ((s.lane l).state = .train ∧ (s.lane l).partnerDozes = true)) →
    exec (.laneLock l) s = .next (journalLane l 0 (s.onLane l fun x => { x with state := .lock, lockAt := s.now, partnerDozes := false }))) ∧
  (∀ (l : Fin 128) s, (s.laneRuns = false ∨ ((s.lane l).state ≠ .align ∧ ((s.lane l).state ≠ .train ∨ (s.lane l).partnerDozes = false))) →
    exec (.laneLock l) s = .next s) ∧
  (∀ (l : Fin 128) sig s, s.laneRuns = true → (s.lane l).state = .lock → (sig = false ∨ (s.lane l).partnerDozes = false) → l.val < s.lanes.lane.length →
    ∃ t, exec (.laneLockLoss l sig) s = .next t ∧ (t.lane l).state = (if sig then .train else .align) ∧
      (t.lane l).exits = (s.lane l).exits + 1 ∧ t.ingest.streams = s.ingest.streams.filter (·.lane ≠ l.val) ∧ t.lanes.lockLossSeen = true ∧
      t.plan = s.plan) ∧
  (∀ (l : Fin 128) s, s.laneRuns = true → (s.lane l).state = .lock → (s.lane l).partnerDozes = true → l.val < s.lanes.lane.length →
    ∃ t, exec (.laneLockLoss l true) s = .next t ∧ (t.lane l).state = .train ∧ (t.lane l).exits = (s.lane l).exits + 1 ∧
      t.ingest.streams = s.ingest.streams.filter (·.lane ≠ l.val) ∧ t.lanes.lockLossSeen = s.lanes.lockLossSeen ∧ t.plan = s.plan) ∧
  (∀ (l : Fin 128) s, s.laneRuns = true → (s.lane l).state = .align → l.val < s.lanes.lane.length →
    ∃ t, exec (.laneLockLoss l true) s = .next t ∧ (t.lane l).state = .train ∧ (t.lane l).exits = (s.lane l).exits ∧ t.ingest = s.ingest) ∧
  (∀ (l : Fin 128) sig s, (s.laneRuns = false ∨ ((s.lane l).state ≠ .lock ∧ (sig = false ∨ (s.lane l).state ≠ .align))) →
    exec (.laneLockLoss l sig) s = .next s) ∧
  (∀ (l : Fin 128) s, s.laneRuns = true → (s.lane l).lost = false → l.val < s.lanes.lane.length →
    (((s.lane l).state ≠ .off ∧ (s.lane l).state ≠ .lock ∧ (s.lane l).state ≠ .doze ∧ (s.lane l).partnerDozes = false) ∨
      5 ≤ ((s.lane l).recentExits.filter fun f => !(s.passed f (10 ^ 9))).length) → ∃ t, exec (.laneLost l) s = .next t ∧ (t.lane l).lost = true ∧
      t.lanes.lostSeen = true ∧ (s.role l ≠ 0 → s.plan.active.isSome = true → s.plan.computing = none → s.plan.pendingPlan = none →
        ∃ j, t.plan.computing = some j ∧ j.forced = true ∧ j.cause = 5)) ∧
  (∀ (l : Fin 128) s, (s.laneRuns = false ∨ (s.lane l).lost = true) → exec (.laneLost l) s = .next s) ∧
  (∀ (l : Fin 128) s, ((s.lane l).state = .off ∨ (s.lane l).state = .lock ∨ (s.lane l).state = .doze ∨ (s.lane l).partnerDozes = true) →
    ((s.lane l).recentExits.filter fun f => !(s.passed f (10 ^ 9))).length < 5 → exec (.laneLost l) s = .next s) ∧
  (∀ (l : Fin 128) s, s.laneRuns = true → (s.lane l).state = .lock → (s.lane l).lost = true → l.val < s.lanes.lane.length →
    ∃ t, exec (.laneHealthy l) s = .next t ∧ (t.lane l).lost = false ∧ (t.lane l).state = .lock ∧ t.plan.active = s.plan.active) ∧
  (∀ (l : Fin 128) s, (s.laneRuns = false ∨ (s.lane l).state ≠ .lock ∨ (s.lane l).lost = false) → exec (.laneHealthy l) s = .next s) ∧
  (∀ (l : Fin 128) errors symbols s, s.laneRuns = true → (s.lane l).state = .lock → 0 < symbols → l.val < s.lanes.lane.length →
    ∃ t, exec (.serWindow l errors symbols) s = .next t ∧ (t.lane l).degraded = decide (5 * symbols < errors * 100000) ∧
      (t.lane l).ser = BitVec.ofNat 32 (min (errors * 10 ^ 9 / symbols) (2 ^ 32 - 1)) ∧ (t.lane l).state = .lock) ∧
  (∀ (l : Fin 128) errors symbols s, (s.laneRuns = false ∨ (s.lane l).state ≠ .lock ∨ symbols = 0) →
    exec (.serWindow l errors symbols) s = .next s)

/-- R249, R255, R257, R263, R264, R266. LINK_FRAME and DOZE_FRAME on a lane open to Fjotranu frames are taken, and nothing on any other: the one notes the partner and ends the lane's silence, the
other says whether the partner dozes. LINK_FRAME_SEND from an open transmitter starts the LINK frame of R255 on a free lane and lets it wait on one that is sending; LINK_FRAME_TIMEOUT
after a LINK frame takes the mesh lane down. EGRESS_FRAME_SEND lets the lanes take records and starts the record that its lane holds, as the egress frame of its class in a RECORD frame or a UDP
packet; with none held it ends there. ARP_NS_REQUEST for an address of an Ethernet lane in LOCK is answered to the asker, an ARP request by the bytes given here, fewer than 1,000 times a second,
and otherwise, or for another address, not at all.
Rests on log 6, 15 and 116. -/
def Obligations.LanesSendAndTakeFrames : Prop :=
  (∀ (l : Fin 128) b s, s.fjOpen l = true → exec (.linkFrame l b) s = .next (takeLink l b (nextLink l s))) ∧
  (∀ (l : Fin 128) b s, s.fjOpen l = false → exec (.linkFrame l b) s = .next s) ∧
  (∀ (l : Fin 128) b s, l.val < s.lanes.lane.length → ((takeLink l b s).lane l).partnerBirth = b.birth ∧
    ((takeLink l b s).lane l).linkAt = some s.now ∧ ((takeLink l b s).lane l).meshUp = true) ∧
  (∀ (l : Fin 128) s, s.laneRuns = true → (s.lane l).fj = true → s.txOpen l = true → s.mesh.waiting = [] → (s.lane l).txFree ≤ s.now →
    ∃ t q, exec (.linkFrameSend l) s = .next t ∧ t.mesh.tx = s.mesh.tx ++ [{ Claims.linkBeat l s with linkSeq := q }] ∧ t.mesh.waiting = []) ∧
  (∀ (l : Fin 128) s, s.laneRuns = true → (s.lane l).fj = true → s.txOpen l = true → s.passed (s.lane l).linkSentAt 100000 = true →
    s.now < (s.lane l).txFree → ∃ t, exec (.linkFrameSend l) s = .next t ∧ t.mesh.tx = s.mesh.tx ∧
      t.mesh.waiting = s.mesh.waiting ++ [Claims.linkBeat l s]) ∧
  (∀ (l : Fin 128) s, (s.laneRuns = false ∨ (s.lane l).fj = false ∨ s.txOpen l = false) → exec (.linkFrameSend l) s = .next s) ∧
  (∀ (l : Fin 128) f s, s.laneRuns = true → (s.lane l).linkAt = some f → exec (.linkFrameTimeout l) s =
    .next ((s.waitFor f 1000000).onLane l fun x => { x with meshUp := false, linkAt := none })) ∧
  (∀ (l : Fin 128) s, (s.laneRuns = false ∨ (s.lane l).linkAt = none) → exec (.linkFrameTimeout l) s = .next s) ∧
  (∀ (l : Fin 128) flags s, s.fjOpen l = true → exec (.dozeFrame l flags) s = .next (takeDoze l flags (nextLink l s))) ∧
  (∀ (l : Fin 128) flags s, s.fjOpen l = false → exec (.dozeFrame l flags) s = .next s) ∧
  (∀ (l : Fin 128) (flags : Byte) s, l.val < s.lanes.lane.length → ((takeDoze l flags s).lane l).partnerDozes =
    (flags.getLsbD 0 || ((s.lane l).partnerDozes && !flags.getLsbD 1))) ∧
  (∀ (l : Fin 128) r s, s.laneRuns = true → s.gk.stopped = false → ((takeAll s).lane l).held = some r →
    exec (.egressFrameSend l) s = .next (takeAll (startRecord l r (takeAll s)))) ∧
  (∀ (l : Fin 128) s, s.laneRuns = true → s.gk.stopped = false → ((takeAll s).lane l).held = none → exec (.egressFrameSend l) s = .next (takeAll s)) ∧
  (∀ (l : Fin 128) s, (s.laneRuns = false ∨ s.gk.stopped = true) → exec (.egressFrameSend l) s = .next s) ∧
  (∀ (l : Fin 128) r s, let d := (s.lane l).dest r.cls; let pay := egressFrame d.destId (s.lane l).egSeq l r.cls r.data
    (startRecord l r s).lanes.sent = s.lanes.sent ++ [(l.val, if (s.lane l).fj then (recordFrame l pay s).wire else ethernetOut l d pay s)] ∧
    (l.val < s.lanes.lane.length → ((startRecord l r s).lane l).held = none ∧ ((startRecord l r s).lane l).egSeq = (s.lane l).egSeq + 1)) ∧
  (∀ l c r rest s, s.nextTaker = some l → s.nextClass l = some c → s.queue c = r :: rest → takeRecords 1 s =
    (s.setQueue c rest).onLane l fun x => { x with held := some r }) ∧
  (∀ (l : Fin 128) mac ip s, s.laneRuns = true → (s.lane l).fj = false → (s.lane l).state = .lock → (s.lane l).ipv4 ≠ zeros 4 →
    s.txOpen l = true → ((s.lane l).answers.filter fun f => !(s.passed f (10 ^ 9))).length < 1000 → ∃ t, exec (.arpNsRequest l false (s.lane l).ipv4 mac ip) s = .next t ∧
      t.lanes.sent = s.lanes.sent ++ [(l.val, Claims.arpReply l mac ip s)]) ∧
  (∀ (l : Fin 128) a mac ip s, s.laneRuns = true → (s.lane l).fj = false → (s.lane l).state = .lock → (s.lane l).ipv6 = some a →
    s.txOpen l = true → ((s.lane l).answers.filter fun f => !(s.passed f (10 ^ 9))).length < 1000 → ∃ t, exec (.arpNsRequest l true a mac ip) s = .next t ∧
      (∃ out, t.lanes.sent = s.lanes.sent ++ [(l.val, mac ++ s.macOf l ++ out)])) ∧
  (∀ (l : Fin 128) v6 a mac ip s, (s.laneRuns = false ∨ (s.lane l).fj = true ∨ (s.lane l).state ≠ .lock ∨ s.txOpen l = false ∨
    (s.lane l).owns v6 a = false ∨ 1000 ≤ ((s.lane l).answers.filter fun t => !(s.passed t (10 ^ 9))).length) →
    exec (.arpNsRequest l v6 a mac ip) s = .next s)

/-- R195 to R197, R201. PTP_ANNOUNCE of the device's domain, with an interval of 2^-3 to 2^4 s, is kept with its port, and a second one in time qualifies its master, which is then
followed; PTP_DELAY_REQ_SEND at a port with a master starts an exchange and PTP_DELAY_RESP from that master completes it; PTP_SYNC from it, with an interval of 2^-7 to 2 s, yields the
measurement of a completed exchange. A message of another domain, or with another interval, is discarded and counted; one that comes on no PTP port, from another master, or without an exchange
changes nothing. ANNOUNCE_RECEIPT_TIMEOUT forgets the master at that port; SOURCE_SILENT ends the use of MESH or of HOST (of PTP it only chooses again), and the source becomes the best that is left, with HOLD where none is;
HOLD_LIMIT_EXPIRY in HOLD or REFUSE ends SYNCED, and in no other state.
Rests on log 16, 21 and 43. -/
def Obligations.SourcesAreFollowed : Prop :=
  (∀ (l : Fin 128) m s, s.laneRuns = true → s.ptpPort l = true → (m.domain ≠ s.time.domain ∨ m.logInterval < -3 ∨ 4 < m.logInterval) →
    exec (.ptpAnnounce l m) s = .next (s.bump .tmPtpDiscard)) ∧
  (∀ (l : Fin 128) m s, s.laneRuns = true → s.ptpPort l = true → m.domain = s.time.domain → -3 ≤ m.logInterval → m.logInterval ≤ 4 →
    ∃ t, exec (.ptpAnnounce l m) s = .next t ∧ (∃ x ∈ t.time.masters, x.ann = m ∧ x.lane = l.val)) ∧
  (∀ (l : Fin 128) m x f s, s.laneRuns = true → s.ptpPort l = true → m.domain = s.time.domain → -3 ≤ m.logInterval → m.logInterval ≤ 4 →
    s.time.masters = [x] → x.ann.id = m.id → x.lane = l.val → x.heard = [f] → s.passed f (4 * intervalNs m.logInterval) = false →
    ∃ t, exec (.ptpAnnounce l m) s = .next t ∧ (∃ y ∈ t.time.masters, y.ann = m ∧ y.qualified = true) ∧ t.time.ptpMaster = some m.id) ∧
  (∀ (l : Fin 128) m s, (s.laneRuns = false ∨ s.ptpPort l = false) → exec (.ptpAnnounce l m) s = .next s) ∧
  (∀ (l : Fin 128) t3 s, s.laneRuns = true → s.ptpPort l = true → s.txOpen l = true → s.time.ptpMaster.isSome = true →
    ∃ t, exec (.ptpDelayReqSend l t3) s = .next t ∧ t.time.ptpExch.getLast? = some { lane := l, t3 := t3 }) ∧
  (∀ (l : Fin 128) t3 s, (s.laneRuns = false ∨ s.ptpPort l = false ∨ s.txOpen l = false ∨ s.time.ptpMaster = none) →
    exec (.ptpDelayReqSend l t3) s = .next s) ∧
  (∀ (l : Fin 128) id t4 c n x s, s.laneRuns = true → s.ptpPort l = true → s.time.ptpMaster = some id → s.time.ptpExch = [x] → x.lane = l.val →
    x.complete = false → ∃ t, exec (.ptpDelayResp l id s.time.domain t4 c n) s = .next t ∧ t.time.ptpExch = [{ x with
      t4 := t4, correction := c, complete := true, logInterval := clampInt (-7) 5 n }]) ∧
  (∀ (l : Fin 128) id d t4 c n s, s.laneRuns = true → s.ptpPort l = true → d ≠ s.time.domain →
    exec (.ptpDelayResp l id d t4 c n) s = .next (s.bump .tmPtpDiscard)) ∧
  (∀ (l : Fin 128) id t4 c n s, (s.laneRuns = false ∨ s.ptpPort l = false ∨ s.time.ptpMaster ≠ some id ∨ s.time.ptpExch = []) →
    exec (.ptpDelayResp l id s.time.domain t4 c n) s = .next s) ∧
  (∀ (l : Fin 128) id t1 t2 c n x s, s.laneRuns = true → s.ptpPort l = true → -7 ≤ n → n ≤ 1 → s.time.ptpMaster = some id → s.time.ptpExch = [x] →
    x.lane = l.val → x.complete = true → exec (.ptpSync l id s.time.domain t1 t2 c n) s =
      .next (measured 1 (((t2 - t1 - c) - (x.t4 - x.t3 - x.correction)) / 2 - s.asymmetryOf l) s)) ∧
  (∀ (l : Fin 128) id d t1 t2 c n s, s.laneRuns = true → s.ptpPort l = true → (d ≠ s.time.domain ∨ n < -7 ∨ 1 < n) →
    exec (.ptpSync l id d t1 t2 c n) s = .next (s.bump .tmPtpDiscard)) ∧
  (∀ (l : Fin 128) id t1 t2 c n s, -7 ≤ n → n ≤ 1 → (s.laneRuns = false ∨ s.ptpPort l = false ∨ s.time.ptpMaster ≠ some id ∨ s.time.ptpExch = []) →
    exec (.ptpSync l id s.time.domain t1 t2 c n) s = .next s) ∧
  (∀ (l : Fin 128) id s, s.clk.held = false → (s.time.masters.any fun m => m.ann.id = id && m.lane = l.val) = true →
    ∃ t, exec (.announceReceiptTimeout l id) s = .next t ∧
      t.time.masters = s.time.masters.filter fun m => !(m.ann.id = id && m.lane = l.val)) ∧
  (∀ (l : Fin 128) id s, (s.clk.held = true ∨ (s.time.masters.any fun m => m.ann.id = id && m.lane = l.val) = false) →
    exec (.announceReceiptTimeout l id) s = .next s) ∧
  (∀ s, s.clk.held = false → ∃ t, exec (.sourceSilent 2) s = .next t ∧ t.time.meshSilent = true ∧ t.time.source ≠ 2 ∧ t.time.offset = s.time.offset) ∧
  (∀ s, s.clk.held = false → ∃ t, exec (.sourceSilent 3) s = .next t ∧ t.time.hostSilent = true ∧ t.time.source ≠ 3 ∧ t.time.offset = s.time.offset) ∧
  (∀ s, s.clk.held = false → exec (.sourceSilent 1) s = .next (chooseSource s)) ∧
  (∀ k s, (s.clk.held = true ∨ k = 0 ∨ 3 < k) → exec (.sourceSilent k) s = .next s) ∧
  (∀ s, (chooseSource s).time.source = s.bestSource ∧ (chooseSource s).time.offset = s.time.offset) ∧
  (∀ s, s.bestSource = 0 → s.time.state = .lock → (chooseSource s).time.state = .hold) ∧
  (∀ s, s.clk.held = false → (s.time.state = .hold ∨ s.time.state = .refuse) → ∃ t, exec .holdLimitExpiry s = .next t ∧
    t.time.state = .unsynced ∧ t.time.synced = false ∧ t.time.offset = s.time.offset) ∧
  (∀ s, (s.clk.held = true ∨ (s.time.state ≠ .hold ∧ s.time.state ≠ .refuse)) → exec .holdLimitExpiry s = .next s)

/-- R192, R193, R202 to R204. FRC and DRIFT go on by the TCLK periods that pass, with RATE signed. The first measurement of the source in use, and the one after a step was asked for, steps OFFSET by -e; one beyond
the jump threshold changes no OFFSET, refuses a locked time and leaves an unsynced one as it is; one within it is accepted without a step, keeps RATE within 200 ppm, takes HOLD back to LOCK or
ACQUIRE and, as the eighth in a row within LOCK_THR, ACQUIRE to LOCK. Another source's measurement is not used.
Rests on log 10. -/
def Obligations.MeasurementsMoveTime : Prop :=
  (∀ f (s : State), s.time.frcOn = true → s.now < f → f < 2 ^ 64 → (s.advanceTo f).now = f ∧ (s.advanceTo f).time.drift =
    s.time.drift + BitVec.ofInt 104 (((f - s.now : Nat) : Int) * (2 * s.time.rate.toInt)) ∧ (s.advanceTo f).time.offset = s.time.offset ∧
    (s.advanceTo f).time.rate = s.time.rate) ∧
  (∀ src e s, s.time.source ≠ src → measured src e s = s) ∧
  (∀ e s, (s.time.state = .unset ∨ s.time.stepNext = true) →
    (measured s.time.source e s).time.offset = s.time.offset + BitVec.ofInt 104 (-e * 2 ^ 24) ∧
    (measured s.time.source e s).time.state = .acquire ∧ (measured s.time.source e s).time.stepNext = false) ∧
  (∀ e s, s.time.state = .lock → s.time.stepNext = false → (s.jumpThr16 < e ∨ e < -s.jumpThr16) →
    (measured s.time.source e s).time.offset = s.time.offset ∧ (measured s.time.source e s).time.state = .refuse ∧
    (measured s.time.source e s).time.jumpRefusedSeen = true) ∧
  (∀ e s, s.time.state = .unsynced → s.time.stepNext = false → (s.jumpThr16 < e ∨ e < -s.jumpThr16) →
    (measured s.time.source e s).time.offset = s.time.offset ∧ (measured s.time.source e s).time.state = .unsynced ∧
    (measured s.time.source e s).time.rate = s.time.rate) ∧
  (∀ e s, s.time.state = .lock → s.time.stepNext = false → ¬ (s.jumpThr16 < e ∨ e < -s.jumpThr16) →
    (measured s.time.source e s).time.offset = s.time.offset ∧ (measured s.time.source e s).time.state = .lock ∧
    -219902325 ≤ (measured s.time.source e s).time.rate.toInt ∧ (measured s.time.source e s).time.rate.toInt ≤ 219902325) ∧
  (∀ e s, s.time.state = .acquire → s.time.stepNext = false → ¬ (s.jumpThr16 < e ∨ e < -s.jumpThr16) → 7 ≤ s.time.goodRun →
    -(s.time.lockThr * 2 ^ 16 : Int) ≤ e → e ≤ s.time.lockThr * 2 ^ 16 →
    (measured s.time.source e s).time.state = .lock ∧ (measured s.time.source e s).time.synced = true ∧
    (measured s.time.source e s).time.offset = s.time.offset) ∧
  (∀ e s, s.time.state = .hold → s.time.stepNext = false → ¬ (s.jumpThr16 < e ∨ e < -s.jumpThr16) →
    (measured s.time.source e s).time.state = if s.time.synced then .lock else .acquire)

/-- R134, R173, R174, R190, R199. SYNC_EDGE with a level of 2 samples or more captures the edge, whatever runs of the dies, and keeps OFFSET; with an epoch mapping it leaves a
reset of each sieve with SYNC_EN, without one of none; a shorter one, or one in a held chip, is nothing. TRIG_EDGE
with a level shorter than 2 samples counts a glitch; a longer one keeps the level and, where the level changes and the selection at the edge counts it, is a trigger 4 ns before
its first sample. TDC_EDGE that the selection counts is a trigger at its time, and one within 20 ns of the last one counted is only counted as dead time. A trigger is judged with an epoch
mapping and nothing without one. TDC_CALIBRATION in range exchanges the channels; one out of range marks the fault of the channel at rest, after which neither acts. Where the dies do not run no trigger edge acts.
Rests on log 37 and 129. -/
def Obligations.EdgesAreTimed : Prop :=
  (∀ f n s, s.clk.held = false → 2 ≤ n → ∃ t, exec (.syncEdge f n) s = .next t ∧ t.time.syncFrc = f ∧ t.time.prevSyncFrc = s.time.syncFrc ∧
    t.time.syncEdgeSeen = true ∧ t.time.offset = s.time.offset) ∧
  (∀ f n i s, let x := s.sampleAtOrAfter (s.timeAtFrc f.toNat - 4 * 2 ^ 16)
    s.dieRuns = true → 2 ≤ n → s.time.epochSet = true → i < 64 → i < s.riddle.sieves.length → ((s.sieve i).cfgAt x).syncEn = true →
    ∃ t, exec (.syncEdge f n) s = .next t ∧ t.riddle.syncSeen = true ∧ (t.sieve i).pend = insertPend { at_ := x, reset := true } (s.sieve i).pend) ∧
  (∀ f n s, s.clk.held = false → s.time.epochSet = false → ∃ t, exec (.syncEdge f n) s = .next t ∧ t.riddle = s.riddle) ∧
  (∀ f n s, (n < 2 ∨ s.clk.held = true) → exec (.syncEdge f n) s = .next s) ∧
  (∀ line r f n s, s.dieRuns = true → n < 2 → exec (.trigEdge line r f n) s = .next (s.bump .cfTrigGlitch)) ∧
  (∀ (line : Fin 8) r f n s, s.dieRuns = true → 2 ≤ n → s.cf.trigLevel.getLsbD line ≠ r →
    edgeCounts ((s.edgesAt f.toNat).toNat / 4 ^ (line.val + 1) % 4) r = true →
    exec (.trigEdge line r f n) s = .next (hardTrig (s.timeAtFrc f.toNat - 4 * 2 ^ 16) 1 line.val (Claims.withLevel line r s))) ∧
  (∀ (line : Fin 8) r f n s, s.dieRuns = true → 2 ≤ n → (s.cf.trigLevel.getLsbD line = r ∨
    edgeCounts ((s.edgesAt f.toNat).toNat / 4 ^ (line.val + 1) % 4) r = false) →
    exec (.trigEdge line r f n) s = .next (Claims.withLevel line r s)) ∧
  (∀ r n s, edgeCounts ((s.edgesAt (n / 512)).toNat % 4) r = false → exec (.tdcEdge r n) s = .next s) ∧
  (∀ r n f s, s.dieRuns = true → edgeCounts ((s.edgesAt (n / 512)).toNat % 4) r = true → s.cf.lastTdc = some f → n < f + 5120 →
    exec (.tdcEdge r n) s = .next (s.bump .cfTdcDeadtime)) ∧
  (∀ r n s, s.dieRuns = true → edgeCounts ((s.edgesAt (n / 512)).toNat % 4) r = true →
    (s.cf.lastTdc = none ∨ ∃ f, s.cf.lastTdc = some f ∧ f + 5120 ≤ n) →
    exec (.tdcEdge r n) s = .next (hardTrig (s.timeAtFrc (n / 512) + (n % 512 * 256 : Nat)) 0 0 { s with cf := { s.cf with lastTdc := some n } })) ∧
  (∀ t16 kind line s, s.time.epochSet = true →
    hardTrig t16 kind line s = (judgeTrig (fun _ => true) (s.trigAt t16 kind line) 0 s).1) ∧
  (∀ t16 kind line s, s.time.epochSet = false → hardTrig t16 kind line s = s) ∧
  (∀ s, s.dieRuns = true → s.cf.chFault = false → exec (.tdcCalibration true) s =
    .next { s with cf := { s.cf with calDone := true, calAt := some s.now, activeCh := !s.cf.activeCh } }) ∧
  (∀ s, s.dieRuns = true → s.cf.chFault = false → ∃ t, exec (.tdcCalibration false) s = .next t ∧
    t.cf = { s.cf with chFault := true } ∧ t.time = s.time) ∧
  (∀ ok s, s.cf.chFault = true → exec (.tdcCalibration ok) s = .next s) ∧
  (∀ line r ok f n m s, s.dieRuns = false → exec (.trigEdge line r f n) s = .next s ∧ exec (.tdcEdge r m) s = .next s ∧
    exec (.tdcCalibration ok) s = .next s)

/-! ### Memory controllers, the almanac, replay and cues -/

/-- R274 to R277, R280, R281, R284 to R288, R293. REFRESH_TICK on a busy port adds a refresh owed, due beyond the postponement; on an idle port it pays it at once. REFRESH_ISSUE pays one, with the write-delay
shifts that wait. MR4_READ above 1x makes a channel hot, doubles its debt and derates the first; at most 1x makes it cool, with half the debt and, with the last, the cooling; where nothing changes it keeps the reading;
over-temperature trips the chip. ZQ_CALIBRATION notes its time and DQS_OSCILLATOR a shift beyond 32 for the next refresh. SCRUB_READ goes to the next unit, and after the last one counts a pass, whatever
it finds; without an error it does no more than access its unit. ROW_REPAIR of a row that asked for it maps the row to the next spare row of its bank, poisons the lost units and leaves none where the bank or the remap table has no room. MEM_TRAIN_DONE judges
the channels in training by their eyes. All but the repair keep the poison, and all keep the contents of DRAM. MASTER_RESET_BURST notes where the burst was cut. With DRAM down none acts, nor a burst cut on a die that does not run.
Rests on log 20 and 41. -/
def Obligations.MemoryControllersKeepDram : Prop :=
  (∀ (c : Fin 16) s, s.dramUp = true → exec (.refreshTick c true) s = .next (s.onChan c fun x => { x with
    debt := (s.memChan c).debt + 1, postpone := s.sup.refreshPostpone,
    due := max x.due ((s.memChan c).debt + 1 - s.sup.refreshPostpone), timerAt := s.now })) ∧
  (∀ (c : Fin 16) s, s.dramUp = true → s.mem.chan.length = 16 → s.portBusy c = false → (s.memChan c).debt + 1 ≤ s.sup.refreshPostpone → (s.memChan c).due = 0 →
    ∃ t, exec (.refreshTick c false) s = .next t ∧ (t.memChan c).debt = (s.memChan c).debt ∧ (t.memChan c).refab = (s.memChan c).refab + 1 ∧
      t.mem.dram = s.mem.dram ∧ t.mem.poison = s.mem.poison) ∧
  (∀ (c : Fin 16) forced s, s.dramUp = true → s.mem.chan.length = 16 → 0 < (s.memChan c).debt → (forced = true → 0 < (s.memChan c).due) →
    (forced = false → (s.memChan c).due = 0 → s.portBusy c = false) →
    ∃ t, exec (.refreshIssue c forced) s = .next t ∧ (t.memChan c).debt = (s.memChan c).debt - 1 ∧ (t.memChan c).due = (s.memChan c).due - 1 ∧
      (t.memChan c).refab = (s.memChan c).refab + 1 ∧ (t.memChan c).dqsPend = [] ∧ t.mem.dram = s.mem.dram ∧ t.mem.poison = s.mem.poison ∧
      (∀ die d, (s.memChan c).dqsPend = [(die, d)] → (s.memChan c).dqsShift = [] → (t.memChan c).dqsShift = [(die, d)])) ∧
  (∀ (c : Fin 16) forced s, ((s.memChan c).debt = 0 ∨ (forced = true ∧ (s.memChan c).due = 0) ∨
    (forced = false ∧ (s.memChan c).due = 0 ∧ s.portBusy c = true)) → exec (.refreshIssue c forced) s = .next s) ∧
  (∀ (c : Fin 16) rates s, s.dramUp = true → s.mem.chan.length = 16 → rates.any (fun r => decide (1 < r)) = true → (s.memChan c).hot = false →
    ∃ t, exec (.mr4Read c rates false) s = .next t ∧ (t.memChan c).hot = true ∧ (t.memChan c).debt = 2 * (s.memChan c).debt ∧
      (t.memChan c).trefi = 1950 ∧ t.mem.hotSeen = true ∧ t.mem.dram = s.mem.dram ∧ t.mem.poison = s.mem.poison ∧
      (s.mem.chan.any (·.hot) = false → t.plan.derated = true)) ∧
  (∀ (c : Fin 16) rates s, s.dramUp = true → s.mem.chan.length = 16 → rates.any (fun r => decide (1 < r)) = false → (s.memChan c).hot = true →
    ∃ t, exec (.mr4Read c rates false) s = .next t ∧ (t.memChan c).hot = false ∧ (t.memChan c).debt = ((s.memChan c).debt + 1) / 2 ∧
      (t.memChan c).trefi = 3900 ∧ (t.mem.chan.any (·.hot) = false → t.plan.coolAt = some s.now) ∧ t.mem.dram = s.mem.dram ∧ t.mem.poison = s.mem.poison) ∧
  (∀ (c : Fin 16) rates s, s.dramUp = true → rates.any (fun r => decide (1 < r)) = (s.memChan c).hot → exec (.mr4Read c rates false) s =
    .next (s.onChan c fun x => { x with mr4 := rates.foldl max 0, mr4At := s.now })) ∧
  (∀ (c : Fin 16) rates s, s.dramUp = true → s.mem.chan.length = 16 → ∃ t, exec (.mr4Read c rates true) s = .next t ∧
    t.gk.thermalTrip = true ∧ t.gk.thermtripN = false ∧ (t.memChan c).overtemp = true ∧ t.mem.dram = s.mem.dram ∧ t.mem.poison = s.mem.poison) ∧
  (∀ (c : Fin 16) b s, s.dramUp = true → exec (.zqCalibration c b) s =
    .next (s.onChan c fun x => if b then { x with zqB := s.now } else { x with zqA := s.now })) ∧
  (∀ (c : Fin 16) die drift s, s.dramUp = true → die < 6 → (32 < drift ∨ drift < -32) → exec (.dqsOscillator c die drift) s =
    .next (s.onChan c fun x => { x with dqsPend := x.dqsPend.filter (·.1 ≠ die) ++ [(die, drift)] })) ∧
  (∀ (c : Fin 16) die drift s, ((-32 ≤ drift ∧ drift ≤ 32) ∨ 6 ≤ die) → exec (.dqsOscillator c die drift) s = .next s) ∧
  (∀ (c : Fin 16) g s, s.dramUp = true → s.mem.poison.contains (unitOf (scrubAddr c (s.memChan c).scrubUnit)) = false →
    (s.memChan c).scrubUnit + 1 < 2 ^ 27 → exec (.scrubRead c [] g) s =
      .next ((memAccess 7 (scrubAddr c (s.memChan c).scrubUnit) 64 s).onChan c fun x => { x with scrubUnit := (s.memChan c).scrubUnit + 1 })) ∧
  (∀ (c : Fin 16) errs g s, s.dramUp = true → s.mem.chan.length = 16 → ∃ t, exec (.scrubRead c errs g) s = .next t ∧ t.mem.dram = s.mem.dram ∧
    t.mem.poison = s.mem.poison ∧ ((s.memChan c).scrubUnit + 1 < 2 ^ 27 → (t.memChan c).scrubUnit = (s.memChan c).scrubUnit + 1) ∧
    (2 ^ 27 ≤ (s.memChan c).scrubUnit + 1 → (t.memChan c).scrubUnit = 0 ∧ (t.memChan c).passes = (s.memChan c).passes + 1 ∧ (t.memChan c).watch = [])) ∧
  (∀ (c : Fin 16) row lost sp s, s.dramUp = true → s.mem.chan.length = 16 → (s.memChan c).repairAsked.contains row = true →
    (s.memChan c).nextSpare (bankOf row) = some sp → ((s.memChan c).remaps.length < 256 ∨ ((s.memChan c).remaps.find? (·.row = row)).isSome = true) →
    ∃ t, exec (.rowRepair c row lost) s = .next t ∧
      (t.memChan c).remapOf row = some { row := row, spare := sp, complement := ~~~ BitVec.ofNat 64 (row + 2 ^ 32 * sp) } ∧
      (∀ u, u < 128 → u ∈ lost → t.mem.poison.contains (rowBase c row / 64 + u) = true) ∧
      (t.memChan c).repairAsked.contains row = false ∧ t.mem.remapSeen = true ∧ t.mem.dram = s.mem.dram) ∧
  (∀ (c : Fin 16) row lost s, s.dramUp = true → s.mem.chan.length = 16 → (s.memChan c).repairAsked.contains row = true →
    ((s.memChan c).nextSpare (bankOf row) = none ∨ (256 ≤ (s.memChan c).remaps.length ∧ (s.memChan c).remaps.find? (·.row = row) = none)) →
    ∃ t, exec (.rowRepair c row lost) s = .next t ∧ t.mem.noSpareSeen = true ∧
      (t.memChan c).lastRepair = 3 ∧ (t.memChan c).remaps = (s.memChan c).remaps ∧ t.mem.dram = s.mem.dram) ∧
  (∀ (c : Fin 16) row lost s, (s.memChan c).repairAsked.contains row = false → exec (.rowRepair c row lost) s = .next s) ∧
  (∀ eyes s, s.dramUp = true → s.mem.training ≠ 0 → s.mem.chan.length = 16 → ∃ t, exec (.memTrainDone eyes) s = .next t ∧ t.mem.training = 0 ∧
    (∀ i, i < 16 → (t.memChan i).trained = if s.mem.training.getLsbD i then eyesGood (eyes.getD i {}) else (s.memChan i).trained) ∧
    t.mem.trainFail = t.mem.chan.any (fun x => !x.trained) ∧ t.mem.dram = s.mem.dram ∧ t.mem.poison = s.mem.poison) ∧
  (∀ eyes s, s.mem.training = 0 → exec (.memTrainDone eyes) s = .next s) ∧
  (∀ (m : Fin 8) (g : Fin 22) a done total s, s.dieRuns = true → done ≤ total → ∃ t, exec (.masterResetBurst m g a done total) s = .next t ∧
    t.tl.aborted = s.tl.aborted ++ [{ master := m, target := g, addr := a, written := done }] ∧ t.tl.abortedSeen = true ∧ t.mem = s.mem) ∧
  (∀ (m : Fin 8) (g : Fin 22) a done total s, (s.dieRuns = false ∨ total < done) → exec (.masterResetBurst m g a done total) s = .next s) ∧
  (∀ (c : Fin 16) b rates ot die drift errs row lost eyes s, s.dramUp = false → exec (.refreshTick c b) s = .next s ∧
    exec (.refreshIssue c b) s = .next s ∧ exec (.mr4Read c rates ot) s = .next s ∧ exec (.zqCalibration c b) s = .next s ∧
    exec (.dqsOscillator c die drift) s = .next s ∧ exec (.scrubRead c errs b) s = .next s ∧ exec (.rowRepair c row lost) s = .next s ∧
    exec (.memTrainDone eyes) s = .next s)

/-- R333, R337, R339, R351. ALMANAC_RECORD: a record that waits alone enters the empty queue with its number, and nothing happens where nothing waits. CHECKPOINT_BEGIN, when one is due and
its sweep begins, begins it, once for a sweep. FREEZE_ACK_TIMEOUT answers the freezes that wait with the span in force, and they wait no more; FREEZE_ACKNOWLEDGE freezes DRAM and answers them.
REPLAY_DWELL goes on by one dwell of the running plan: past the last sweep the replay ends; a dwell that no record names is counted as absent and has no result; one whose input is short makes it wait for
input; what does not fit the result buffer makes it wait there. Each changes nothing where its conditions are not met.
Rests on log 94, 96 and 99. -/
def Obligations.AlmanacAndReplayGoOn : Prop :=
  (∀ r s, s.clk.held = false → s.alm.waiting = [r] → s.alm.queue = [] → s.alm.ckptLeft = [] → s.alm.ckptCrc = none → r.size ≤ 2 ^ 20 →
    ∃ t, exec .almanacRecord s = .next t ∧ t.alm.waiting = [] ∧ (∃ n, t.alm.queue.getLast? = some { r with rn := n } ∧ t.alm.rn = n)) ∧
  (∀ s, (s.clk.held = true ∨ (s.alm.waiting = [] ∧ s.alm.ckptLeft = [] ∧ s.alm.ckptCrc = none)) → exec .almanacRecord s = .next s) ∧
  (∀ p k s, s.tamzarServes = true → s.ckptBusy = false → s.ckptDue = true → s.sweepStart = some (p, k) → s.alm.ckptSweep ≠ some k →
    ∃ t, exec .checkpointBegin s = .next t ∧ t.alm.ckptSweep = some k ∧ t.alm.ckptAt = s.now ∧ t.plan = s.plan ∧ t.mem = s.mem) ∧
  (∀ s, (s.tamzarServes = false ∨ s.ckptBusy = true ∨ s.ckptDue = false ∨ s.sweepStart = none ∨ ∃ p k, s.sweepStart = some (p, k) ∧ s.alm.ckptSweep = some k) →
    exec .checkpointBegin s = .next s) ∧
  (∀ s, s.alm.freezeAsked = true → s.alm.freezeReplies ≠ [] → exec .freezeAckTimeout s =
    .next (answerFreezes (s.waitFor s.alm.freezeAt 1000000))) ∧
  (∀ s, (s.alm.freezeAsked = false ∨ s.alm.freezeReplies = []) → exec .freezeAckTimeout s = .next s) ∧
  (∀ s, (answerFreezes s).alm.freezeReplies = [] ∧ (answerFreezes s).kcp.executing = false) ∧
  (∀ k y s, s.alm.freezeReplies = [(k, y)] → answerFreezes s = commitReply (freezeCtx k) (ansOk s.spanInForce) (2 * bitOf y)
    (oweLess k.path { s with alm := { s.alm with freezeReplies := [] }, kcp := { s.kcp with executing := false } })) ∧
  (∀ s, s.alm.freezeAsked = true → s.dramUp = true → ∃ t, exec .freezeAcknowledge s = .next t ∧ t.gk.dramFrozen = true ∧
    t.alm.freezeAsked = false ∧ t.alm.freezeReplies = [] ∧ t.alm.dramSpan.isSome = true ∧ t.alm.ownRing.isSome = true) ∧
  (∀ s, (s.alm.freezeAsked = false ∨ s.dramUp = false) → exec .freezeAcknowledge s = .next s) ∧
  (∀ p s, s.tamzarServes = true → (s.rpl.state = 2 ∨ s.rpl.state = 3) → s.rpl.plan = some p → s.rpl.outbox = [] →
    versionAt s.image_.1 p { ver := p.version, chan := p.order.getD s.rpl.chanPos 0, sweep := s.rpl.sweep } = p.version.toNat →
    let u := replayNext s.image_.1 p s
    exec .replayDwell s = .next (Claims.resultsOut (resultFill u.rpl.outbox u))) ∧
  (∀ rs p s, s.rpl.lastSample / p.req.T < s.rpl.sweep → replayNext rs p s = endReplay 5 0 (flushReplay p (s.rpl.lastSample / p.req.T + 1) s)) ∧
  (∀ rs p s, s.rpl.sweep ≤ s.rpl.lastSample / p.req.T → rs.all (fun r => r.type != 0x20) = true → s.rpl.chanPos + 1 < p.order.length →
    (replayNext rs p s).rpl = { s.rpl with
      dwellsAbsent := s.rpl.dwellsAbsent + 1, chanPos := s.rpl.chanPos + 1, nextSample := s.rpl.sweep * p.req.T } ∧ (replayNext rs p s).mem = s.mem) ∧
  (∀ rs p r s, s.rpl.sweep ≤ s.rpl.lastSample / p.req.T → s.rpl.input = true → s.rpl.units = [] → s.rpl.blocks = [] →
    rs.find? (fun r => r.type = 0x20 && (decide (fieldAt 0 2 r.body = p.sysChan (p.order.getD s.rpl.chanPos 0)) &&
      decide (fieldAt 4 4 r.body = s.rpl.sweep % 2 ^ 32))) = some r → replayNext rs p s = setReplay 3 0 s) ∧
  (∀ s, (s.replaying = false ∨ s.tamzarServes = false) → exec .replayDwell s = .next s)

/-- R209 to R213, R215. A cue whose point is judged and whose command is accepted enters the table with its point, its reply cut to 4,064 bytes; a table of 512 refuses it; a cue in device time needs
SYNCED, and one that is past is LATE without LATE_OK. CUE_PASS_TO_HARDWARE passes a SWEEP or SAMPLE cue one dwell period before its sweep, drops one that is broken or TENTATIVE, and changes nothing before that, of a TIME cue or of
one that is not in the table. CUE_RUN of a TIME cue runs those of its point that were accepted no later, in order; of one that waits in hardware it runs those due with it, of one that has not passed it passes those first,
and of none it runs nothing. At its point a cue leaves the table and acts, or, where its command is no longer valid, only leaves it. SYSTEM_CUE_TIMEOUT of a system cue that is not settled
cancels it, and its entry leaves the table; of any other it changes nothing.
Rests on log 7, 16, 102, 120 and 121. -/
def Obligations.CuesAreHeldAndRun : Prop :=
  (∀ op cls (c : Ctx) pt s, let c' := { c with cueId := s.cues.nextId }
    cuePoint cls c.k s = .inl pt → statusRefused (op.accept c' pt.point s).2.status = false → s.cueFill < 512 → pt.lateRun = false →
    runCue op cls c s = (addCue cls c' pt (c.path == .mesh && decide (2 ≤ kScope c.k)) (op.accept c' pt.point s).1,
      { (op.accept c' pt.point s).2 with result := (cuePrefix pt ++ (op.accept c' pt.point s).2.result).take 4064 })) ∧
  (∀ op cls (c : Ctx) pt s, let c' := { c with cueId := s.cues.nextId }
    cuePoint cls c.k s = .inl pt → statusRefused (op.accept c' pt.point s).2.status = false → 512 ≤ s.cueFill →
    (runCue op cls c s).2 = ansBusy 512 ∧ (runCue op cls c s).1.cues.entries = s.cues.entries) ∧
  (∀ cls (c : Ctx) pt b s, ∃ e, (addCue cls c pt b s).cues.entries = s.cues.entries ++ [e] ∧ e.point = BitVec.ofNat 64 pt.point ∧ e.seq = c.k.seq ∧
    e.opcode = c.code ∧ e.cls = cls ∧ e.tentative = b ∧ e.system = b ∧ e.good = true) ∧
  (∀ cls (k : KcpIn) s, k.executeAt.getLsbD 63 = false → s.time.synced = false → cuePoint cls k s = .inr (ansRefuse .notSynced)) ∧
  (∀ (k : KcpIn) s, k.executeAt.getLsbD 63 = false → s.time.synced = true → s.time16 ≤ (k.executeAt.toNat : Int) * 2 ^ 16 →
    cuePoint .time k s = .inl { point := k.executeAt.toNat }) ∧
  (∀ (k : KcpIn) s, k.executeAt.getLsbD 63 = false → s.time.synced = true → (k.executeAt.toNat : Int) * 2 ^ 16 < s.time16 → kLateOk k = false →
    cuePoint .time k s = .inr (ansRefuse .late)) ∧
  (∀ y seq e s, s.cueEntry y seq = some e → s.dieRuns = true → e.cls ≠ .time → e.point.toNat / s.planT ≤ s.comingSweep → e.good = true →
    e.tentative = false → exec (.cuePassToHardware y seq) s = .next { s with cues := { s.cues with
      entries := s.cues.entries.filter (·.id ≠ e.id), hw := s.cues.hw ++ [e] } }) ∧
  (∀ y seq e s, s.cueEntry y seq = some e → s.dieRuns = true → e.cls ≠ .time → e.point.toNat / s.planT ≤ s.comingSweep →
    (e.good = false ∨ e.tentative = true) → ∃ t, exec (.cuePassToHardware y seq) s = .next t ∧
      (t.cues.entries.any fun x => decide (x.id = e.id)) = false ∧ t.cues.hw = s.cues.hw) ∧
  (∀ y seq e s, s.cueEntry y seq = some e → (s.dieRuns = false ∨ e.cls = .time ∨ s.comingSweep < e.point.toNat / s.planT) →
    exec (.cuePassToHardware y seq) s = .next s) ∧
  (∀ y seq s, s.cueEntry y seq = none → exec (.cuePassToHardware y seq) s = .next s) ∧
  (∀ y seq e s, s.cueEntry y seq = some e → e.cls = .time → exec (.cueRun y seq) s =
    .next ((Claims.sameTime e s).foldl (fun (s : State) x => runTimeCue x s) s)) ∧
  (∀ e s, s.tamzarServes = true → e.good = true → e.tentative = false → runTimeCue e s =
    runEntry s.srcTamzar (bitOf (s.cues.stepped.contains e.id)) (s.advanceTo (s.timeCueFrc e)).now e (s.advanceTo (s.timeCueFrc e))) ∧
  (∀ e s, s.tamzarServes = true → (e.good = false ∨ e.tentative = true) →
    ((runTimeCue e s).cues.entries.any fun x => decide (x.id = e.id)) = false ∧ (runTimeCue e s).cues.hw = s.cues.hw) ∧
  (∀ y seq e d s, s.cueEntry y seq = none → s.cues.hw.find? (fun x => x.seq = seq && x.system == y) = some e → s.cuesUpTo e = [d] →
    exec (.cueRun y seq) s = .next (runEntry 2 0 d.point.toNat d s)) ∧
  (∀ y seq e s, s.cueEntry y seq = some e → e.cls ≠ .time → (s.cues.entries.filter fun x => decide (x.id ≤ e.id) && x.point == e.point) = [e] →
    exec (.cueRun y seq) s = .next (runUpTo e (passEntry e s))) ∧
  (∀ y seq s, s.cueEntry y seq = none → s.cues.hw.find? (fun x => x.seq = seq && x.system == y) = none → exec (.cueRun y seq) s = .next s) ∧
  (∀ src o f e q code k op s, s.cues.packets.find? (·.1 = e.id) = some (q, code, k) → opOf e.opcode = some op →
    (op.accept (cueCtx op k e.id) e.point.toNat s).2.status ≠ .badParam → runEntry src o f e s =
      op.atPoint (cueCtx op k e.id) (journalCue src o f e ((cueLeaves e s).bump .tmCueRun))) ∧
  (∀ src o f e q code k op s, s.cues.packets.find? (·.1 = e.id) = some (q, code, k) → opOf e.opcode = some op →
    (op.accept (cueCtx op k e.id) e.point.toNat s).2.status = .badParam → runEntry src o f e s =
      journalCue src 4 f e (dropUnits e.id (cueLeaves e s))) ∧
  (∀ e s, (cueLeaves e s).cues.entries = s.cues.entries.filter (·.id ≠ e.id) ∧ (cueLeaves e s).cues.hw = s.cues.hw.filter (·.id ≠ e.id) ∧
    (e.system, e.seq) ∈ (cueLeaves e s).cues.done) ∧
  (∀ seq c s, (s.cues.system.find? fun x => x.seq = seq && !x.settled) = some c → s.tamzarServes = true →
    exec (.systemCueTimeout seq) s = .next (settleSystemCue c false (s.waitFor c.sentAt 2000000))) ∧
  (∀ seq s, ((s.cues.system.find? fun x => x.seq = seq && !x.settled) = none ∨ s.tamzarServes = false) → exec (.systemCueTimeout seq) s = .next s) ∧
  (∀ c e s, s.cueEntry true c.seq = some e → (settleSystemCue c false s).cues.entries = s.cues.entries.filter (·.id ≠ e.id) ∧
    (settleSystemCue c false s).cues.system = s.cues.system.map fun x => if x.seq = c.seq then { x with settled := true, cancelled := true } else x)

/-! ### Every packet and every step -/

/-- A step with a command at the front of the queue is that command's meaning on the state with the queue's rest. On an empty queue a step is the tick of one TCLK period, which goes on
to a next state and changes nothing while the dies are held in reset: the model's choice (log 1). -/
def Obligations.StepRunsTheFrontCommand : Prop :=
  (∀ c rest s, s.pending = c :: rest → step s = exec c { s with pending := rest }) ∧
  (∀ c s, step { s with pending := c :: s.pending } = exec c s) ∧
  (∀ s, s.pending = [] → step s = .next (tick s)) ∧
  (∀ s, s.clk.held = true → tick s = s)

/-- R192, R194, R195, R212, R216, R224, R369, R386: what reset leaves: the dies in reset before step CLOCKS, FRC and OFFSET 0, time UNSET with
the default sources and limits, no plan, no cue, every ring disabled, every lane OFF, memory in canonical form.
Rests on log 2. -/
def Obligations.ResetLeavesTheMachineOff : Prop :=
  State.reset.pending = [] ∧ State.reset.clk.held = true ∧ State.reset.boot.step = 0 ∧ State.reset.time.frc = 0 ∧ State.reset.time.offset = 0 ∧
  State.reset.time.state = .unset ∧ State.reset.time.synced = false ∧ State.reset.time.sources = [1, 3] ∧ State.reset.time.servoTau = 4000 ∧
  State.reset.time.lockThr = 100 ∧ State.reset.time.holdLimit = 60 ∧ State.reset.time.segAlign = true ∧ State.reset.jumpThr16 = 1000 * 2 ^ 16 ∧
  State.reset.plan.active = none ∧ State.reset.plan.pendingPlan = none ∧ State.reset.cueFill = 0 ∧ Canonical State.reset ∧
  (∀ r, (State.reset.ring r).enable = false ∧ (State.reset.ring r).prod = 0 ∧ (State.reset.ring r).cons = 0) ∧
  (∀ l, (State.reset.lane l).state = .off) ∧ (∀ p, (State.reset.series p).started = false) ∧
  (∀ f, State.reset.advanceTo f = State.reset)

/-- R231, R233. A packet whose number has executed, of an opcode that a series numbers, is answered with the stored reply and DUPLICATE, whatever NO_REPLY says, counted in KCP_DUPLICATE and not executed
again. A commit stores its reply, in the series of its path, and sends it unless NO_REPLY suppresses it. The first number of a series, a number ahead, one within the last 1,024 and one behind them fall as
R231 says; a number behind them is refused with SEQ_STALE and never entered. -/
def Obligations.DuplicatesAreAnsweredFromTheRecord : Prop :=
  (∀ op k s rep, earlyCheck op.code (some op) k = none → kJournalOnly k = false → op.xo = false → seqCase (s.series k.path) k.seq = .executed (some rep) →
    kcpTake op.code (some op) k s = sendReply k.path (kOrigin k) { rep with rflags := rep.rflags ||| 1 } ((countTaken s).bump .kcpDuplicate)) ∧
  (∀ k c a f s, c.k = k → c.path = k.path → c.own = false → k.path ≠ .mesh → (k.seq, none) ∈ (s.series k.path).done →
    (k.seq, some (mkReply k.path c.code k a f s)) ∈ ((commitReply c a f s).series k.path).done) ∧
  (∀ c a f s, kNoReply c.k = true → quietStatus a.status = true → c.path ≠ .mesh → c.own = false →
    commitReply c a f s = (fun t => t.setSeries c.path ((t.series c.path).store c.k.seq (mkReply c.path c.code c.k a f s)))
      (journalCommit c.path c.k (mkReply c.path c.code c.k a f s) s)) ∧
  (∀ (x : Series) seq, x.started = false → seqCase x seq = .first ∧ (x.enter seq).h = seq) ∧
  (∀ (x : Series) seq, x.started = true → 1 ≤ (seq - x.h).toNat → (seq - x.h).toNat ≤ 2 ^ 31 - 1 →
    seqCase x seq = .ahead ((seq - x.h).toNat - 1) ∧ (x.enter seq).h = seq) ∧
  (∀ (x : Series) seq, x.started = true → (x.h - seq).toNat ≤ 1023 → x.done.find? (·.1 = seq) = none →
    seqCase x seq = .within ∧ (x.enter seq).h = x.h) ∧
  (∀ (x : Series) seq rep, x.started = true → (x.h - seq).toNat ≤ 1023 → x.done.find? (·.1 = seq) = some (seq, rep) → seqCase x seq = .executed rep) ∧
  (∀ (x : Series) seq, x.started = true → 1023 < (x.h - seq).toNat → (x.h - seq).toNat ≤ 2 ^ 31 → seqCase x seq = .stale) ∧
  (∀ (x : Series) seq, (x.enter seq).started = true ∧ (seq, none) ∈ (x.enter seq).done) ∧
  (∀ op k s, earlyCheck op.code (some op) k = none → kJournalOnly k = false → op.xo = false → seqCase (s.series k.path) k.seq = .stale →
    ∃ a u, a.status = .badParam ∧ a.detail = 3 ∧ kcpTake op.code (some op) k s = sendReply k.path (kOrigin k) (mkReply k.path op.code k a 0 u) u)

/-- R228, R230, R235, R237. The checks of a packet in their order: MAGIC_VER and PLEN, which halt its ring; the CRC; the complement; the opcode and its path; the header's fields; the form of its
parameters. A packet that passes them all, and whose number is to execute, enters its series and goes on; one refused earlier enters none. Then comes authority: a joining device and one that is not the caller refuse an S
opcode or a SCOPE with NO_TOKEN; a PARTITIONED device refuses those, a RESTEP and the cancelling of a system cue, with PARTITIONED; a relayed packet whose ORIGIN does not hold the caller lease is refused and counted, and one
that is a cue of the system is refused by a PARTITIONED device. A packet that passes this, and is neither relayed nor a cue, is run.
Rests on log 86. -/
def Obligations.PacketsAreCheckedInOrder : Prop :=
  (∀ code op? k, k.magicVer ≠ 0xCA51 → earlyCheck code op? k = some { status := .badOpcode, detail := 5 }) ∧
  (∀ code op? k, k.magicVer = 0xCA51 → (4064 < k.plen.toNat ∨ k.plen.toNat % 4 ≠ 0) →
    earlyCheck code op? k = some { status := .badLength, detail := 1, arg := 16 }) ∧
  (∀ code op? k, k.magicVer = 0xCA51 → k.plen.toNat ≤ 4064 → k.plen.toNat % 4 = 0 → k.crc ≠ kCrc code k →
    earlyCheck code op? k = some { status := .badLength, detail := 6 }) ∧
  (∀ code op? k, k.magicVer = 0xCA51 → k.plen.toNat ≤ 4064 → k.plen.toNat % 4 = 0 → k.crc = kCrc code k → k.opcodeN ≠ ~~~ code →
    earlyCheck code op? k = some { status := .badComplement }) ∧
  (∀ code k, Claims.framed code k → earlyCheck code none k = some { status := .badOpcode }) ∧
  (∀ op k, Claims.framed op.code k → op.allowed k.path = false → earlyCheck op.code (some op) k = some { status := .badOpcode, detail := 2 }) ∧
  (∀ op k, Claims.framed op.code k → op.allowed k.path = true → (32 ≤ k.flags.toNat ∨ (kExecAt k = true ∧ op.cue = none) ∨ (kRestep k = true ∧ op.code ≠ 0x0604)) →
    earlyCheck op.code (some op) k = some (ansField 6)) ∧
  (∀ op k o, Claims.framed op.code k → op.allowed k.path = true → headerFault op k = some o → earlyCheck op.code (some op) k = some (ansField o)) ∧
  (∀ op k, k.flags.toNat < 32 → (kExecAt k = true → op.cue.isSome = true) → kRestep k = false → k.res0 ≠ 0 → headerFault op k = some 18) ∧
  (∀ op k, k.flags.toNat < 32 → (kExecAt k = true → op.cue.isSome = true) → kRestep k = false → k.res0 = 0 → k.path ≠ .mesh →
    (kOrigin k ≠ 0 ∨ (op.never = true ∧ kScope k ≠ 0)) → headerFault op k = some 20) ∧
  (∀ op k, Claims.framed op.code k → op.allowed k.path = true → headerFault op k = none → op.buffered k.path = false → op.form (kBody k) = false →
    earlyCheck op.code (some op) k = some { status := .badLength, detail := 1, arg := 16 }) ∧
  (∀ op k, Claims.framed op.code k → op.allowed k.path = true → headerFault op k = none → (k.path = .gkr ∨ k.path = .smbus) → 64 < k.plen.toNat →
    earlyCheck op.code (some op) k = some { status := .badLength, detail := 1, arg := 16 }) ∧
  (∀ op k, Claims.framed op.code k → op.allowed k.path = true → headerFault op k = none → op.buffered k.path = false → op.form (kBody k) = true →
    k.plen.toNat ≤ 64 → earlyCheck op.code (some op) k = none) ∧
  (∀ code op? k a s, k.path ≠ .mesh → earlyCheck code op? k = some a → (kcpTake code op? k s).kcp.host = s.kcp.host ∧
    (kcpTake code op? k s).kcp.gk = s.kcp.gk ∧ (kcpTake code op? k s).kcp.sys = s.kcp.sys) ∧
  (∀ code op? k r s, pathRing k.path = some r → k.magicVer ≠ 0xCA51 → ((kcpTake code op? k s).ring r).halted = true ∧
    ((kcpTake code op? k s).ring r).haltCause = 1) ∧
  (∀ code op? k r s, pathRing k.path = some r → k.magicVer = 0xCA51 → (4064 < k.plen.toNat ∨ k.plen.toNat % 4 ≠ 0) →
    ((kcpTake code op? k s).ring r).halted = true ∧ ((kcpTake code op? k s).ring r).haltCause = 2) ∧
  (∀ op k s, earlyCheck op.code (some op) k = none → kJournalOnly k = false → op.xo = false → (seqCase (s.series k.path) k.seq = .first ∨
    seqCase (s.series k.path) k.seq = .within ∨ ∃ n, seqCase (s.series k.path) k.seq = .ahead n) →
    kcpTake op.code (some op) k s = finishPacket op (op.ctx k) (enterPacket op k (countTaken s))) ∧
  (∀ op c s, c.path ≠ .mesh → s.boot.system = 1 → (op.sys = true ∨ kScope c.k ≠ 0) →
    lateSteps op c s = (s, { status := .noToken, detail := 4, arg := 0x3FF })) ∧
  (∀ op c s, c.path ≠ .mesh → s.boot.system = 2 → s.mesh.caller = false → s.mesh.partitioned = false → (op.sys = true ∨ kScope c.k ≠ 0) →
    lateSteps op c s = (s, { status := .noToken, detail := 4, arg := leaseHolder s.callerLease })) ∧
  (∀ op c s, c.path ≠ .mesh → s.boot.system ≠ 1 → s.mesh.partitioned = true → (op.sys = true ∨ kScope c.k ≠ 0 ∨
    (op.code = 0x0604 ∧ kRestep c.k = true) ∨ (op.code = 0x0606 ∧ fieldAt 4 1 c.par = 1)) → lateSteps op c s = (s, ansRefuse .partitioned)) ∧
  (∀ op c s, c.path = .mesh → kOrigin c.k ≠ leaseHolder s.callerLease → s.mesh.partitioned = false → lateSteps op c s =
    (s.bump .kcpMeshNoToken, { status := .noToken, detail := 4, arg := leaseHolder s.callerLease })) ∧
  (∀ op c s, c.path = .mesh → s.mesh.partitioned = true → kExecAt c.k = true → 2 ≤ kScope c.k → lateSteps op c s = (s, ansRefuse .partitioned)) ∧
  (∀ op c s, authority op c s = none → relays c s = false → kExecAt c.k = false → op.fault c s = false → op.code ≠ 0x0405 → lateSteps op c s = op.run c s)

/-- R4, R218: the bytes of a packet, whatever its fields hold and whatever follows it, are read back as that packet. -/
def Obligations.PacketBytesAreReadBack : Prop :=
  ∀ path dma code (k : KcpIn) rest, k.path = path → k.dma = dma → k.params.length = k.plen.toNat →
    (kWire code k ++ rest).length = 36 + k.plen.toNat + rest.length ∧ kParse path dma (kWire code k ++ rest) = (code, k)

/-- Every step, whatever command it takes, keeps the memory's canonical form, the fuses, and the queue behind the command; none stops. -/
def Obligations.EveryStepKeepsTheMachine : Prop :=
  ∀ s, ∃ t, step s = .next t ∧ t.fuses = s.fuses ∧ t.pending = s.pending.tail ∧ (Canonical s → Canonical t)
end

