-- ==== Sys2Proof/Laws/Bytes.lean ====
section
/-! SUPPORT. Small facts about byte strings: lengths, parts of a joined string, and little-endian numbers read back. -/

namespace Sys2Proof

@[simp] theorem length_le : ∀ (n v : Nat), (le n v).length = n
  | 0, _ => rfl
  | n + 1, v => by simp [le, length_le n]

@[simp] theorem length_zeros (n : Nat) : (zeros n).length = n := List.length_replicate

@[simp] theorem length_fit : ∀ (n : Nat) (bs : List Byte), (fit n bs).length = n
  | 0, _ => rfl
  | n + 1, [] => by simp [fit, length_fit n]
  | n + 1, b :: bs => by simp [fit, length_fit n]

@[simp] theorem length_slice (o n : Nat) (bs : List Byte) : (slice o n bs).length = n := length_fit n _

/-- The first bytes of a joined string are its first part. -/
theorem fit_append : ∀ (a b : List Byte), fit a.length (a ++ b) = a
  | [], _ => rfl
  | x :: a, b => by simp [fit, fit_append a b]

theorem fit_self (a : List Byte) : fit a.length a = a := by
  have h := fit_append a []
  rwa [List.append_nil] at h

/-- A string's own bytes. -/
theorem slice_front {n : Nat} (a b : List Byte) (h : a.length = n) : slice 0 n (a ++ b) = a := by
  subst h; exact fit_append a b

/-- What lies after a first part. -/
theorem slice_after {o : Nat} (n : Nat) (a b : List Byte) (h : a.length = o) : slice o n (a ++ b) = slice 0 n b := by
  unfold slice; rw [List.drop_left' h, List.drop_zero]

/-- What lies in the first part. -/
theorem slice_before {o n : Nat} (a b : List Byte) (h : o + n ≤ a.length) : slice o n (a ++ b) = slice o n a := by
  unfold slice
  rw [List.drop_append_of_le_length (by omega)]
  have : ∀ (n : Nat) (a : List Byte), n ≤ a.length → fit n (a ++ b) = fit n a := by
    intro n
    induction n with
    | zero => intro a _; rfl
    | succ n ih => intro a ha; cases a with
      | nil => simp at ha
      | cons x a => simp only [List.cons_append, fit, ih a (by simpa using ha)]
  exact this n _ (by rw [List.length_drop]; omega)

theorem fieldAt_after {o : Nat} (n : Nat) (a b : List Byte) (h : a.length = o) : fieldAt o n (a ++ b) = fieldAt 0 n b := by
  unfold fieldAt; rw [slice_after n a b h]

theorem fieldAt_before {o n : Nat} (a b : List Byte) (h : o + n ≤ a.length) : fieldAt o n (a ++ b) = fieldAt o n a := by
  unfold fieldAt; rw [slice_before a b h]

/-- Little-endian bytes hold the number that they were made from. -/
theorem unle_le : ∀ (n v : Nat), unle (le n v) = v % 256 ^ n
  | 0, v => by simp [le, unle, Nat.mod_one]
  | n + 1, v => by
    rw [le, unle, unle_le n, BitVec.toNat_ofNat, Nat.pow_succ 256 n, Nat.mul_comm (256 ^ n) 256, Nat.mod_mul]

end Sys2Proof
end

