-- ==== Sys2Proof/Laws/Quiet.lean ====
section
/-! SUPPORT. What the shared operations of the journal, the vectors and the replies can change, said once for each. -/

namespace Sys2Proof
open Sys2Proof.Machine Sys2Proof.Safety

theorem Safety.Logs.refl (s : State) : Logs s s := ⟨s.ctr, s.alm, s.pcie, s.kcp, s.smb, rfl⟩

theorem Safety.Logs.trans {s t u : State} (h : Logs s t) (g : Logs t u) : Logs s u := by
  obtain ⟨_, _, _, _, _, rfl⟩ := h
  obtain ⟨a, b, c, d, e, rfl⟩ := g
  exact ⟨a, b, c, d, e, rfl⟩

end Sys2Proof

namespace Sys2Proof.Laws
open Sys2Proof Sys2Proof.Machine Sys2Proof.Safety

theorem logs_bumpBy (s : State) (c : Ctr) (n : Nat) : Logs s (s.bumpBy c n) := ⟨_, s.alm, s.pcie, s.kcp, s.smb, rfl⟩

theorem logs_bump (s : State) (c : Ctr) : Logs s (s.bump c) := logs_bumpBy s c 1

theorem logs_setRing (s : State) (r : RingId) (x : Ring) : Logs s (s.setRing r x) := by
  cases r <;> exact ⟨s.ctr, s.alm, s.pcie, _, s.smb, rfl⟩

theorem logs_setSeries (s : State) (p : Path) (x : Series) : Logs s (s.setSeries p x) := by
  cases p <;> exact ⟨s.ctr, s.alm, s.pcie, _, s.smb, rfl⟩

theorem logs_sendVector (v : Nat) (s : State) : Logs s (sendVector v s) := by
  unfold sendVector
  split
  · exact ⟨s.ctr, s.alm, _, s.kcp, s.smb, rfl⟩
  · split
    · exact Safety.Logs.refl s
    · exact ⟨s.ctr, s.alm, _, s.kcp, s.smb, rfl⟩

theorem logs_raiseEvent (i : Nat) (s : State) : Logs s (raiseEvent i s) := by
  unfold raiseEvent
  split
  · exact Safety.Logs.refl s
  · have h : Logs s { s with pcie := { s.pcie with event := s.pcie.event ||| BitVec.ofNat 15 (2 ^ i) } } :=
      ⟨s.ctr, s.alm, _, s.kcp, s.smb, rfl⟩
    dsimp only
    split
    · exact h.trans (logs_sendVector _ _)
    · exact h

theorem logs_hostWrite (a : Nat) (bs : List Byte) (s : State) : Logs s (hostWrite a bs s) := by
  unfold hostWrite
  split <;> exact ⟨s.ctr, s.alm, _, s.kcp, s.smb, rfl⟩

theorem logs_startTransfer (x : Transfer) (s : State) : Logs s (startTransfer x s) := ⟨s.ctr, s.alm, _, s.kcp, s.smb, rfl⟩

theorem logs_placeRecord (r : AlmRec) (s : State) : Logs s (placeRecord r s) := by
  unfold placeRecord mirrorCopy
  dsimp only
  split <;> exact ⟨s.ctr, _, s.pcie, s.kcp, s.smb, rfl⟩

theorem logs_padRing (s : State) : Logs s (padRing s) := by
  unfold padRing
  dsimp only
  split
  · exact ⟨s.ctr, _, s.pcie, s.kcp, s.smb, rfl⟩
  · exact logs_placeRecord _ s

theorem logs_acceptRecord (r : AlmRec) (s : State) : Logs s (acceptRecord r s) := by
  unfold acceptRecord
  dsimp only
  split
  · exact ((logs_padRing s).trans (logs_placeRecord _ _)).trans (logs_bump _ _)
  · exact (logs_placeRecord _ _).trans (logs_bump _ _)

theorem logs_record (type src : Nat) (body : List Byte) (s : State) (flags : Nat) : Logs s (record type src body s flags) := by
  unfold record
  dsimp only
  generalize { rn := 0, frc := s.time.frc, type := BitVec.ofNat 16 type, src := BitVec.ofNat 8 src, flags := _, body := body : AlmRec } = r
  by_cases h : s.queueRoom r = true
  · rw [if_pos h]; exact logs_acceptRecord r s
  · rw [if_neg h]; exact ⟨_, _, s.pcie, s.kcp, s.smb, rfl⟩

theorem logs_foldl {α : Type} (f : State → α → State) (h : ∀ s a, Logs s (f s a)) (xs : List α) (s : State) :
    Logs s (xs.foldl f s) := by
  induction xs generalizing s with
  | nil => exact Safety.Logs.refl s
  | cons a as ih => exact (h s a).trans (ih _)

theorem logs_journalReceive (p : Path) (code : BitVec 16) (k : KcpIn) (b : Bool) (s : State) :
    Logs s (journalReceive p code k b s) := by
  unfold journalReceive
  dsimp only
  split
  · exact (logs_record _ _ _ _ _).trans (logs_foldl _ (fun s _ => logs_record _ _ _ s _) _ _)
  · exact logs_record _ _ _ _ _

theorem logs_journalCommit (p : Path) (k : KcpIn) (r : Reply) (s : State) : Logs s (journalCommit p k r s) :=
  logs_record _ _ _ _ _

theorem logs_ringVector (r : RingId) (s : State) : Logs s (ringVector r s) := logs_sendVector _ s

theorem logs_gkWrite (off : Nat) (bs : List Byte) (s : State) : Logs s (gkWrite off bs s) := ⟨s.ctr, s.alm, s.pcie, _, s.smb, rfl⟩

theorem logs_writeback (r : RingId) (s : State) : Logs s (writeback r s) := by
  cases r
  case gkr => exact logs_gkWrite _ _ s
  all_goals exact logs_hostWrite _ _ s

theorem logs_haltRing (r : RingId) (cause : Nat) (s : State) : Logs s (haltRing r cause s) :=
  ((logs_setRing s r _).trans (logs_bump _ _)).trans (logs_ringVector r _)

theorem logs_ringWrite {put : Nat → List Byte → State → State} (hp : ∀ a bs s, Logs s (put a bs s)) (base size pos : Nat)
    (bs : List Byte) (s : State) : Logs s (ringWrite put base size pos bs s) := by
  unfold ringWrite
  dsimp only
  split
  · exact hp _ _ s
  · exact (hp _ _ s).trans (hp _ _ _)

theorem logs_ringReply (r : RingId) (rep : Reply) (s : State) : Logs s (ringReply r rep s) := by
  unfold ringReply
  dsimp only
  split
  · refine Safety.Logs.trans ?_ (logs_ringVector r _)
    refine Safety.Logs.trans ?_ (logs_writeback r _)
    refine Safety.Logs.trans ?_ (logs_setRing _ r _)
    cases r
    case gkr => exact logs_ringWrite logs_gkWrite _ _ _ _ s
    all_goals exact logs_ringWrite logs_hostWrite _ _ _ _ s
  · exact Safety.Logs.refl s

theorem logs_arrived (k : KcpIn) (s : State) : Logs s (Safety.arrived k s) := by
  unfold Safety.arrived
  dsimp only
  split
  · exact logs_setRing _ _ _
  · split
    · exact ⟨s.ctr, s.alm, s.pcie, s.kcp, _, rfl⟩
    · exact logs_bump _ _

theorem logs_countTaken (s : State) : Logs s (countTaken s) := ⟨_, s.alm, s.pcie, _, s.smb, rfl⟩

theorem logs_enterPacket (op : OpDef) (k : KcpIn) (s : State) : Logs s (enterPacket op k s) := by
  unfold enterPacket
  dsimp only
  refine Safety.Logs.trans ?_ (logs_journalReceive _ _ _ _ _)
  refine Safety.Logs.trans ?_ (logs_setSeries _ _ _)
  split
  · exact logs_bumpBy _ _ _
  · exact Safety.Logs.refl s

/-- A packet that has arrived and been entered has changed nothing but the record of commands, the journal and the counts. -/
theorem logs_entered (op : OpDef) (k : KcpIn) (s : State) : Logs s (Safety.entered op k s) := by
  unfold Safety.entered
  split
  · exact ((logs_arrived k s).trans (logs_countTaken _)).trans (logs_journalReceive _ _ _ _ _)
  · exact ((logs_arrived k s).trans (logs_countTaken _)).trans (logs_enterPacket op k _)

/-- A reply on a ring or over SMBus changes nothing but the host side and the command record. -/
theorem logs_sendReply (p : Path) (origin : Nat) (rep : Reply) (s : State) (h : p ≠ .mesh) : Logs s (sendReply p origin rep s) := by
  cases p
  case mesh => exact absurd rfl h
  case smbus => exact ⟨s.ctr, s.alm, s.pcie, s.kcp, _, rfl⟩
  all_goals exact logs_ringReply _ rep s

/-- Committing an answer on a ring or over SMBus likewise. -/
theorem logs_commitReply (c : Ctx) (a : Answer) (flags : Nat) (s : State) (h : c.path ≠ .mesh) : Logs s (commitReply c a flags s) := by
  unfold commitReply
  dsimp only
  have h1 : ∀ t, Logs s t → Logs s (if c.own = true then t else t.setSeries c.path ((t.series c.path).store c.k.seq
      (mkReply c.path c.code c.k a flags s))) := by
    intro t ht
    split
    · exact ht
    · exact ht.trans (logs_setSeries _ _ _)
  have h2 := h1 _ (logs_journalCommit c.path c.k (mkReply c.path c.code c.k a flags s) s)
  split
  · exact h2
  · exact h2.trans (logs_sendReply _ _ _ _ h)

end Sys2Proof.Laws
end

