-- ==== Sys2Proof/Laws/State.lean ====
section
/-! SUPPORT. What each update of one part of the state leaves as it was: one lemma for each update and each field that it does not touch. -/

namespace Sys2Proof.Laws
open Sys2Proof Sys2Proof.Machine

@[simp] theorem bumpBy_clk (s : State) (c : Ctr) (n : Nat) : (s.bumpBy c n).clk = s.clk := rfl
@[simp] theorem bumpBy_boot (s : State) (c : Ctr) (n : Nat) : (s.bumpBy c n).boot = s.boot := rfl
@[simp] theorem bumpBy_fuses (s : State) (c : Ctr) (n : Nat) : (s.bumpBy c n).fuses = s.fuses := rfl
@[simp] theorem bumpBy_flash (s : State) (c : Ctr) (n : Nat) : (s.bumpBy c n).flash = s.flash := rfl
@[simp] theorem bumpBy_time (s : State) (c : Ctr) (n : Nat) : (s.bumpBy c n).time = s.time := rfl
@[simp] theorem bumpBy_cues (s : State) (c : Ctr) (n : Nat) : (s.bumpBy c n).cues = s.cues := rfl
@[simp] theorem bumpBy_kcp (s : State) (c : Ctr) (n : Nat) : (s.bumpBy c n).kcp = s.kcp := rfl
@[simp] theorem bumpBy_smb (s : State) (c : Ctr) (n : Nat) : (s.bumpBy c n).smb = s.smb := rfl
@[simp] theorem bumpBy_rwc (s : State) (c : Ctr) (n : Nat) : (s.bumpBy c n).rwc = s.rwc := rfl
@[simp] theorem bumpBy_pcie (s : State) (c : Ctr) (n : Nat) : (s.bumpBy c n).pcie = s.pcie := rfl
@[simp] theorem bumpBy_plan (s : State) (c : Ctr) (n : Nat) : (s.bumpBy c n).plan = s.plan := rfl
@[simp] theorem bumpBy_ingest (s : State) (c : Ctr) (n : Nat) : (s.bumpBy c n).ingest = s.ingest := rfl
@[simp] theorem bumpBy_xa (s : State) (c : Ctr) (n : Nat) : (s.bumpBy c n).xa = s.xa := rfl
@[simp] theorem bumpBy_rmw (s : State) (c : Ctr) (n : Nat) : (s.bumpBy c n).rmw = s.rmw := rfl
@[simp] theorem bumpBy_beams (s : State) (c : Ctr) (n : Nat) : (s.bumpBy c n).beams = s.beams := rfl
@[simp] theorem bumpBy_riddle (s : State) (c : Ctr) (n : Nat) : (s.bumpBy c n).riddle = s.riddle := rfl
@[simp] theorem bumpBy_cf (s : State) (c : Ctr) (n : Nat) : (s.bumpBy c n).cf = s.cf := rfl
@[simp] theorem bumpBy_lanes (s : State) (c : Ctr) (n : Nat) : (s.bumpBy c n).lanes = s.lanes := rfl
@[simp] theorem bumpBy_mesh (s : State) (c : Ctr) (n : Nat) : (s.bumpBy c n).mesh = s.mesh := rfl
@[simp] theorem bumpBy_mem (s : State) (c : Ctr) (n : Nat) : (s.bumpBy c n).mem = s.mem := rfl
@[simp] theorem bumpBy_tl (s : State) (c : Ctr) (n : Nat) : (s.bumpBy c n).tl = s.tl := rfl
@[simp] theorem bumpBy_cells (s : State) (c : Ctr) (n : Nat) : (s.bumpBy c n).cells = s.cells := rfl
@[simp] theorem bumpBy_sup (s : State) (c : Ctr) (n : Nat) : (s.bumpBy c n).sup = s.sup := rfl
@[simp] theorem bumpBy_gk (s : State) (c : Ctr) (n : Nat) : (s.bumpBy c n).gk = s.gk := rfl
@[simp] theorem bumpBy_alm (s : State) (c : Ctr) (n : Nat) : (s.bumpBy c n).alm = s.alm := rfl
@[simp] theorem bumpBy_rpl (s : State) (c : Ctr) (n : Nat) : (s.bumpBy c n).rpl = s.rpl := rfl
@[simp] theorem bumpBy_jtag (s : State) (c : Ctr) (n : Nat) : (s.bumpBy c n).jtag = s.jtag := rfl
@[simp] theorem bumpBy_freeCount (s : State) (c : Ctr) (n : Nat) : (s.bumpBy c n).freeCount = s.freeCount := rfl
@[simp] theorem bumpBy_pending (s : State) (c : Ctr) (n : Nat) : (s.bumpBy c n).pending = s.pending := rfl

@[simp] theorem bump_clk (s : State) (c : Ctr) : (s.bump c).clk = s.clk := rfl
@[simp] theorem bump_boot (s : State) (c : Ctr) : (s.bump c).boot = s.boot := rfl
@[simp] theorem bump_fuses (s : State) (c : Ctr) : (s.bump c).fuses = s.fuses := rfl
@[simp] theorem bump_flash (s : State) (c : Ctr) : (s.bump c).flash = s.flash := rfl
@[simp] theorem bump_time (s : State) (c : Ctr) : (s.bump c).time = s.time := rfl
@[simp] theorem bump_cues (s : State) (c : Ctr) : (s.bump c).cues = s.cues := rfl
@[simp] theorem bump_kcp (s : State) (c : Ctr) : (s.bump c).kcp = s.kcp := rfl
@[simp] theorem bump_smb (s : State) (c : Ctr) : (s.bump c).smb = s.smb := rfl
@[simp] theorem bump_rwc (s : State) (c : Ctr) : (s.bump c).rwc = s.rwc := rfl
@[simp] theorem bump_pcie (s : State) (c : Ctr) : (s.bump c).pcie = s.pcie := rfl
@[simp] theorem bump_plan (s : State) (c : Ctr) : (s.bump c).plan = s.plan := rfl
@[simp] theorem bump_ingest (s : State) (c : Ctr) : (s.bump c).ingest = s.ingest := rfl
@[simp] theorem bump_xa (s : State) (c : Ctr) : (s.bump c).xa = s.xa := rfl
@[simp] theorem bump_rmw (s : State) (c : Ctr) : (s.bump c).rmw = s.rmw := rfl
@[simp] theorem bump_beams (s : State) (c : Ctr) : (s.bump c).beams = s.beams := rfl
@[simp] theorem bump_riddle (s : State) (c : Ctr) : (s.bump c).riddle = s.riddle := rfl
@[simp] theorem bump_cf (s : State) (c : Ctr) : (s.bump c).cf = s.cf := rfl
@[simp] theorem bump_lanes (s : State) (c : Ctr) : (s.bump c).lanes = s.lanes := rfl
@[simp] theorem bump_mesh (s : State) (c : Ctr) : (s.bump c).mesh = s.mesh := rfl
@[simp] theorem bump_mem (s : State) (c : Ctr) : (s.bump c).mem = s.mem := rfl
@[simp] theorem bump_tl (s : State) (c : Ctr) : (s.bump c).tl = s.tl := rfl
@[simp] theorem bump_cells (s : State) (c : Ctr) : (s.bump c).cells = s.cells := rfl
@[simp] theorem bump_sup (s : State) (c : Ctr) : (s.bump c).sup = s.sup := rfl
@[simp] theorem bump_gk (s : State) (c : Ctr) : (s.bump c).gk = s.gk := rfl
@[simp] theorem bump_alm (s : State) (c : Ctr) : (s.bump c).alm = s.alm := rfl
@[simp] theorem bump_rpl (s : State) (c : Ctr) : (s.bump c).rpl = s.rpl := rfl
@[simp] theorem bump_jtag (s : State) (c : Ctr) : (s.bump c).jtag = s.jtag := rfl
@[simp] theorem bump_freeCount (s : State) (c : Ctr) : (s.bump c).freeCount = s.freeCount := rfl
@[simp] theorem bump_pending (s : State) (c : Ctr) : (s.bump c).pending = s.pending := rfl

@[simp] theorem clearCounters_clk (s : State) (lo hi : Nat) : (s.clearCounters lo hi).clk = s.clk := rfl
@[simp] theorem clearCounters_boot (s : State) (lo hi : Nat) : (s.clearCounters lo hi).boot = s.boot := rfl
@[simp] theorem clearCounters_fuses (s : State) (lo hi : Nat) : (s.clearCounters lo hi).fuses = s.fuses := rfl
@[simp] theorem clearCounters_flash (s : State) (lo hi : Nat) : (s.clearCounters lo hi).flash = s.flash := rfl
@[simp] theorem clearCounters_time (s : State) (lo hi : Nat) : (s.clearCounters lo hi).time = s.time := rfl
@[simp] theorem clearCounters_cues (s : State) (lo hi : Nat) : (s.clearCounters lo hi).cues = s.cues := rfl
@[simp] theorem clearCounters_kcp (s : State) (lo hi : Nat) : (s.clearCounters lo hi).kcp = s.kcp := rfl
@[simp] theorem clearCounters_smb (s : State) (lo hi : Nat) : (s.clearCounters lo hi).smb = s.smb := rfl
@[simp] theorem clearCounters_rwc (s : State) (lo hi : Nat) : (s.clearCounters lo hi).rwc = s.rwc := rfl
@[simp] theorem clearCounters_pcie (s : State) (lo hi : Nat) : (s.clearCounters lo hi).pcie = s.pcie := rfl
@[simp] theorem clearCounters_plan (s : State) (lo hi : Nat) : (s.clearCounters lo hi).plan = s.plan := rfl
@[simp] theorem clearCounters_ingest (s : State) (lo hi : Nat) : (s.clearCounters lo hi).ingest = s.ingest := rfl
@[simp] theorem clearCounters_xa (s : State) (lo hi : Nat) : (s.clearCounters lo hi).xa = s.xa := rfl
@[simp] theorem clearCounters_rmw (s : State) (lo hi : Nat) : (s.clearCounters lo hi).rmw = s.rmw := rfl
@[simp] theorem clearCounters_beams (s : State) (lo hi : Nat) : (s.clearCounters lo hi).beams = s.beams := rfl
@[simp] theorem clearCounters_riddle (s : State) (lo hi : Nat) : (s.clearCounters lo hi).riddle = s.riddle := rfl
@[simp] theorem clearCounters_cf (s : State) (lo hi : Nat) : (s.clearCounters lo hi).cf = s.cf := rfl
@[simp] theorem clearCounters_lanes (s : State) (lo hi : Nat) : (s.clearCounters lo hi).lanes = s.lanes := rfl
@[simp] theorem clearCounters_mesh (s : State) (lo hi : Nat) : (s.clearCounters lo hi).mesh = s.mesh := rfl
@[simp] theorem clearCounters_mem (s : State) (lo hi : Nat) : (s.clearCounters lo hi).mem = s.mem := rfl
@[simp] theorem clearCounters_tl (s : State) (lo hi : Nat) : (s.clearCounters lo hi).tl = s.tl := rfl
@[simp] theorem clearCounters_cells (s : State) (lo hi : Nat) : (s.clearCounters lo hi).cells = s.cells := rfl
@[simp] theorem clearCounters_sup (s : State) (lo hi : Nat) : (s.clearCounters lo hi).sup = s.sup := rfl
@[simp] theorem clearCounters_gk (s : State) (lo hi : Nat) : (s.clearCounters lo hi).gk = s.gk := rfl
@[simp] theorem clearCounters_alm (s : State) (lo hi : Nat) : (s.clearCounters lo hi).alm = s.alm := rfl
@[simp] theorem clearCounters_rpl (s : State) (lo hi : Nat) : (s.clearCounters lo hi).rpl = s.rpl := rfl
@[simp] theorem clearCounters_jtag (s : State) (lo hi : Nat) : (s.clearCounters lo hi).jtag = s.jtag := rfl
@[simp] theorem clearCounters_freeCount (s : State) (lo hi : Nat) : (s.clearCounters lo hi).freeCount = s.freeCount := rfl
@[simp] theorem clearCounters_pending (s : State) (lo hi : Nat) : (s.clearCounters lo hi).pending = s.pending := rfl

@[simp] theorem setRing_clk (s : State) (r : RingId) (x : Ring) : (s.setRing r x).clk = s.clk := by cases r <;> rfl
@[simp] theorem setRing_boot (s : State) (r : RingId) (x : Ring) : (s.setRing r x).boot = s.boot := by cases r <;> rfl
@[simp] theorem setRing_fuses (s : State) (r : RingId) (x : Ring) : (s.setRing r x).fuses = s.fuses := by cases r <;> rfl
@[simp] theorem setRing_flash (s : State) (r : RingId) (x : Ring) : (s.setRing r x).flash = s.flash := by cases r <;> rfl
@[simp] theorem setRing_time (s : State) (r : RingId) (x : Ring) : (s.setRing r x).time = s.time := by cases r <;> rfl
@[simp] theorem setRing_cues (s : State) (r : RingId) (x : Ring) : (s.setRing r x).cues = s.cues := by cases r <;> rfl
@[simp] theorem setRing_smb (s : State) (r : RingId) (x : Ring) : (s.setRing r x).smb = s.smb := by cases r <;> rfl
@[simp] theorem setRing_rwc (s : State) (r : RingId) (x : Ring) : (s.setRing r x).rwc = s.rwc := by cases r <;> rfl
@[simp] theorem setRing_pcie (s : State) (r : RingId) (x : Ring) : (s.setRing r x).pcie = s.pcie := by cases r <;> rfl
@[simp] theorem setRing_plan (s : State) (r : RingId) (x : Ring) : (s.setRing r x).plan = s.plan := by cases r <;> rfl
@[simp] theorem setRing_ingest (s : State) (r : RingId) (x : Ring) : (s.setRing r x).ingest = s.ingest := by cases r <;> rfl
@[simp] theorem setRing_xa (s : State) (r : RingId) (x : Ring) : (s.setRing r x).xa = s.xa := by cases r <;> rfl
@[simp] theorem setRing_rmw (s : State) (r : RingId) (x : Ring) : (s.setRing r x).rmw = s.rmw := by cases r <;> rfl
@[simp] theorem setRing_beams (s : State) (r : RingId) (x : Ring) : (s.setRing r x).beams = s.beams := by cases r <;> rfl
@[simp] theorem setRing_riddle (s : State) (r : RingId) (x : Ring) : (s.setRing r x).riddle = s.riddle := by cases r <;> rfl
@[simp] theorem setRing_cf (s : State) (r : RingId) (x : Ring) : (s.setRing r x).cf = s.cf := by cases r <;> rfl
@[simp] theorem setRing_lanes (s : State) (r : RingId) (x : Ring) : (s.setRing r x).lanes = s.lanes := by cases r <;> rfl
@[simp] theorem setRing_mesh (s : State) (r : RingId) (x : Ring) : (s.setRing r x).mesh = s.mesh := by cases r <;> rfl
@[simp] theorem setRing_mem (s : State) (r : RingId) (x : Ring) : (s.setRing r x).mem = s.mem := by cases r <;> rfl
@[simp] theorem setRing_tl (s : State) (r : RingId) (x : Ring) : (s.setRing r x).tl = s.tl := by cases r <;> rfl
@[simp] theorem setRing_cells (s : State) (r : RingId) (x : Ring) : (s.setRing r x).cells = s.cells := by cases r <;> rfl
@[simp] theorem setRing_sup (s : State) (r : RingId) (x : Ring) : (s.setRing r x).sup = s.sup := by cases r <;> rfl
@[simp] theorem setRing_gk (s : State) (r : RingId) (x : Ring) : (s.setRing r x).gk = s.gk := by cases r <;> rfl
@[simp] theorem setRing_alm (s : State) (r : RingId) (x : Ring) : (s.setRing r x).alm = s.alm := by cases r <;> rfl
@[simp] theorem setRing_rpl (s : State) (r : RingId) (x : Ring) : (s.setRing r x).rpl = s.rpl := by cases r <;> rfl
@[simp] theorem setRing_jtag (s : State) (r : RingId) (x : Ring) : (s.setRing r x).jtag = s.jtag := by cases r <;> rfl
@[simp] theorem setRing_ctr (s : State) (r : RingId) (x : Ring) : (s.setRing r x).ctr = s.ctr := by cases r <;> rfl
@[simp] theorem setRing_freeCount (s : State) (r : RingId) (x : Ring) : (s.setRing r x).freeCount = s.freeCount := by cases r <;> rfl
@[simp] theorem setRing_pending (s : State) (r : RingId) (x : Ring) : (s.setRing r x).pending = s.pending := by cases r <;> rfl

@[simp] theorem setSeries_clk (s : State) (p : Path) (x : Series) : (s.setSeries p x).clk = s.clk := by cases p <;> rfl
@[simp] theorem setSeries_boot (s : State) (p : Path) (x : Series) : (s.setSeries p x).boot = s.boot := by cases p <;> rfl
@[simp] theorem setSeries_fuses (s : State) (p : Path) (x : Series) : (s.setSeries p x).fuses = s.fuses := by cases p <;> rfl
@[simp] theorem setSeries_flash (s : State) (p : Path) (x : Series) : (s.setSeries p x).flash = s.flash := by cases p <;> rfl
@[simp] theorem setSeries_time (s : State) (p : Path) (x : Series) : (s.setSeries p x).time = s.time := by cases p <;> rfl
@[simp] theorem setSeries_cues (s : State) (p : Path) (x : Series) : (s.setSeries p x).cues = s.cues := by cases p <;> rfl
@[simp] theorem setSeries_smb (s : State) (p : Path) (x : Series) : (s.setSeries p x).smb = s.smb := by cases p <;> rfl
@[simp] theorem setSeries_rwc (s : State) (p : Path) (x : Series) : (s.setSeries p x).rwc = s.rwc := by cases p <;> rfl
@[simp] theorem setSeries_pcie (s : State) (p : Path) (x : Series) : (s.setSeries p x).pcie = s.pcie := by cases p <;> rfl
@[simp] theorem setSeries_plan (s : State) (p : Path) (x : Series) : (s.setSeries p x).plan = s.plan := by cases p <;> rfl
@[simp] theorem setSeries_ingest (s : State) (p : Path) (x : Series) : (s.setSeries p x).ingest = s.ingest := by cases p <;> rfl
@[simp] theorem setSeries_xa (s : State) (p : Path) (x : Series) : (s.setSeries p x).xa = s.xa := by cases p <;> rfl
@[simp] theorem setSeries_rmw (s : State) (p : Path) (x : Series) : (s.setSeries p x).rmw = s.rmw := by cases p <;> rfl
@[simp] theorem setSeries_beams (s : State) (p : Path) (x : Series) : (s.setSeries p x).beams = s.beams := by cases p <;> rfl
@[simp] theorem setSeries_riddle (s : State) (p : Path) (x : Series) : (s.setSeries p x).riddle = s.riddle := by cases p <;> rfl
@[simp] theorem setSeries_cf (s : State) (p : Path) (x : Series) : (s.setSeries p x).cf = s.cf := by cases p <;> rfl
@[simp] theorem setSeries_lanes (s : State) (p : Path) (x : Series) : (s.setSeries p x).lanes = s.lanes := by cases p <;> rfl
@[simp] theorem setSeries_mesh (s : State) (p : Path) (x : Series) : (s.setSeries p x).mesh = s.mesh := by cases p <;> rfl
@[simp] theorem setSeries_mem (s : State) (p : Path) (x : Series) : (s.setSeries p x).mem = s.mem := by cases p <;> rfl
@[simp] theorem setSeries_tl (s : State) (p : Path) (x : Series) : (s.setSeries p x).tl = s.tl := by cases p <;> rfl
@[simp] theorem setSeries_cells (s : State) (p : Path) (x : Series) : (s.setSeries p x).cells = s.cells := by cases p <;> rfl
@[simp] theorem setSeries_sup (s : State) (p : Path) (x : Series) : (s.setSeries p x).sup = s.sup := by cases p <;> rfl
@[simp] theorem setSeries_gk (s : State) (p : Path) (x : Series) : (s.setSeries p x).gk = s.gk := by cases p <;> rfl
@[simp] theorem setSeries_alm (s : State) (p : Path) (x : Series) : (s.setSeries p x).alm = s.alm := by cases p <;> rfl
@[simp] theorem setSeries_rpl (s : State) (p : Path) (x : Series) : (s.setSeries p x).rpl = s.rpl := by cases p <;> rfl
@[simp] theorem setSeries_jtag (s : State) (p : Path) (x : Series) : (s.setSeries p x).jtag = s.jtag := by cases p <;> rfl
@[simp] theorem setSeries_ctr (s : State) (p : Path) (x : Series) : (s.setSeries p x).ctr = s.ctr := by cases p <;> rfl
@[simp] theorem setSeries_freeCount (s : State) (p : Path) (x : Series) : (s.setSeries p x).freeCount = s.freeCount := by cases p <;> rfl
@[simp] theorem setSeries_pending (s : State) (p : Path) (x : Series) : (s.setSeries p x).pending = s.pending := by cases p <;> rfl

@[simp] theorem setHolder_clk (s : State) (p : BusPath) (h : Option (BitVec 16 × W32)) : (s.setHolder p h).clk = s.clk := by cases p <;> rfl
@[simp] theorem setHolder_boot (s : State) (p : BusPath) (h : Option (BitVec 16 × W32)) : (s.setHolder p h).boot = s.boot := by cases p <;> rfl
@[simp] theorem setHolder_fuses (s : State) (p : BusPath) (h : Option (BitVec 16 × W32)) : (s.setHolder p h).fuses = s.fuses := by cases p <;> rfl
@[simp] theorem setHolder_flash (s : State) (p : BusPath) (h : Option (BitVec 16 × W32)) : (s.setHolder p h).flash = s.flash := by cases p <;> rfl
@[simp] theorem setHolder_time (s : State) (p : BusPath) (h : Option (BitVec 16 × W32)) : (s.setHolder p h).time = s.time := by cases p <;> rfl
@[simp] theorem setHolder_cues (s : State) (p : BusPath) (h : Option (BitVec 16 × W32)) : (s.setHolder p h).cues = s.cues := by cases p <;> rfl
@[simp] theorem setHolder_kcp (s : State) (p : BusPath) (h : Option (BitVec 16 × W32)) : (s.setHolder p h).kcp = s.kcp := by cases p <;> rfl
@[simp] theorem setHolder_smb (s : State) (p : BusPath) (h : Option (BitVec 16 × W32)) : (s.setHolder p h).smb = s.smb := by cases p <;> rfl
@[simp] theorem setHolder_pcie (s : State) (p : BusPath) (h : Option (BitVec 16 × W32)) : (s.setHolder p h).pcie = s.pcie := by cases p <;> rfl
@[simp] theorem setHolder_plan (s : State) (p : BusPath) (h : Option (BitVec 16 × W32)) : (s.setHolder p h).plan = s.plan := by cases p <;> rfl
@[simp] theorem setHolder_ingest (s : State) (p : BusPath) (h : Option (BitVec 16 × W32)) : (s.setHolder p h).ingest = s.ingest := by cases p <;> rfl
@[simp] theorem setHolder_xa (s : State) (p : BusPath) (h : Option (BitVec 16 × W32)) : (s.setHolder p h).xa = s.xa := by cases p <;> rfl
@[simp] theorem setHolder_rmw (s : State) (p : BusPath) (h : Option (BitVec 16 × W32)) : (s.setHolder p h).rmw = s.rmw := by cases p <;> rfl
@[simp] theorem setHolder_beams (s : State) (p : BusPath) (h : Option (BitVec 16 × W32)) : (s.setHolder p h).beams = s.beams := by cases p <;> rfl
@[simp] theorem setHolder_riddle (s : State) (p : BusPath) (h : Option (BitVec 16 × W32)) : (s.setHolder p h).riddle = s.riddle := by cases p <;> rfl
@[simp] theorem setHolder_cf (s : State) (p : BusPath) (h : Option (BitVec 16 × W32)) : (s.setHolder p h).cf = s.cf := by cases p <;> rfl
@[simp] theorem setHolder_lanes (s : State) (p : BusPath) (h : Option (BitVec 16 × W32)) : (s.setHolder p h).lanes = s.lanes := by cases p <;> rfl
@[simp] theorem setHolder_mesh (s : State) (p : BusPath) (h : Option (BitVec 16 × W32)) : (s.setHolder p h).mesh = s.mesh := by cases p <;> rfl
@[simp] theorem setHolder_mem (s : State) (p : BusPath) (h : Option (BitVec 16 × W32)) : (s.setHolder p h).mem = s.mem := by cases p <;> rfl
@[simp] theorem setHolder_tl (s : State) (p : BusPath) (h : Option (BitVec 16 × W32)) : (s.setHolder p h).tl = s.tl := by cases p <;> rfl
@[simp] theorem setHolder_cells (s : State) (p : BusPath) (h : Option (BitVec 16 × W32)) : (s.setHolder p h).cells = s.cells := by cases p <;> rfl
@[simp] theorem setHolder_sup (s : State) (p : BusPath) (h : Option (BitVec 16 × W32)) : (s.setHolder p h).sup = s.sup := by cases p <;> rfl
@[simp] theorem setHolder_gk (s : State) (p : BusPath) (h : Option (BitVec 16 × W32)) : (s.setHolder p h).gk = s.gk := by cases p <;> rfl
@[simp] theorem setHolder_alm (s : State) (p : BusPath) (h : Option (BitVec 16 × W32)) : (s.setHolder p h).alm = s.alm := by cases p <;> rfl
@[simp] theorem setHolder_rpl (s : State) (p : BusPath) (h : Option (BitVec 16 × W32)) : (s.setHolder p h).rpl = s.rpl := by cases p <;> rfl
@[simp] theorem setHolder_jtag (s : State) (p : BusPath) (h : Option (BitVec 16 × W32)) : (s.setHolder p h).jtag = s.jtag := by cases p <;> rfl
@[simp] theorem setHolder_ctr (s : State) (p : BusPath) (h : Option (BitVec 16 × W32)) : (s.setHolder p h).ctr = s.ctr := by cases p <;> rfl
@[simp] theorem setHolder_freeCount (s : State) (p : BusPath) (h : Option (BitVec 16 × W32)) : (s.setHolder p h).freeCount = s.freeCount := by cases p <;> rfl
@[simp] theorem setHolder_pending (s : State) (p : BusPath) (h : Option (BitVec 16 × W32)) : (s.setHolder p h).pending = s.pending := by cases p <;> rfl

@[simp] theorem onLane_clk (s : State) (l : Nat) (f : Lane → Lane) : (s.onLane l f).clk = s.clk := rfl
@[simp] theorem onLane_boot (s : State) (l : Nat) (f : Lane → Lane) : (s.onLane l f).boot = s.boot := rfl
@[simp] theorem onLane_fuses (s : State) (l : Nat) (f : Lane → Lane) : (s.onLane l f).fuses = s.fuses := rfl
@[simp] theorem onLane_flash (s : State) (l : Nat) (f : Lane → Lane) : (s.onLane l f).flash = s.flash := rfl
@[simp] theorem onLane_time (s : State) (l : Nat) (f : Lane → Lane) : (s.onLane l f).time = s.time := rfl
@[simp] theorem onLane_cues (s : State) (l : Nat) (f : Lane → Lane) : (s.onLane l f).cues = s.cues := rfl
@[simp] theorem onLane_kcp (s : State) (l : Nat) (f : Lane → Lane) : (s.onLane l f).kcp = s.kcp := rfl
@[simp] theorem onLane_smb (s : State) (l : Nat) (f : Lane → Lane) : (s.onLane l f).smb = s.smb := rfl
@[simp] theorem onLane_rwc (s : State) (l : Nat) (f : Lane → Lane) : (s.onLane l f).rwc = s.rwc := rfl
@[simp] theorem onLane_pcie (s : State) (l : Nat) (f : Lane → Lane) : (s.onLane l f).pcie = s.pcie := rfl
@[simp] theorem onLane_plan (s : State) (l : Nat) (f : Lane → Lane) : (s.onLane l f).plan = s.plan := rfl
@[simp] theorem onLane_ingest (s : State) (l : Nat) (f : Lane → Lane) : (s.onLane l f).ingest = s.ingest := rfl
@[simp] theorem onLane_xa (s : State) (l : Nat) (f : Lane → Lane) : (s.onLane l f).xa = s.xa := rfl
@[simp] theorem onLane_rmw (s : State) (l : Nat) (f : Lane → Lane) : (s.onLane l f).rmw = s.rmw := rfl
@[simp] theorem onLane_beams (s : State) (l : Nat) (f : Lane → Lane) : (s.onLane l f).beams = s.beams := rfl
@[simp] theorem onLane_riddle (s : State) (l : Nat) (f : Lane → Lane) : (s.onLane l f).riddle = s.riddle := rfl
@[simp] theorem onLane_cf (s : State) (l : Nat) (f : Lane → Lane) : (s.onLane l f).cf = s.cf := rfl
@[simp] theorem onLane_mesh (s : State) (l : Nat) (f : Lane → Lane) : (s.onLane l f).mesh = s.mesh := rfl
@[simp] theorem onLane_mem (s : State) (l : Nat) (f : Lane → Lane) : (s.onLane l f).mem = s.mem := rfl
@[simp] theorem onLane_tl (s : State) (l : Nat) (f : Lane → Lane) : (s.onLane l f).tl = s.tl := rfl
@[simp] theorem onLane_cells (s : State) (l : Nat) (f : Lane → Lane) : (s.onLane l f).cells = s.cells := rfl
@[simp] theorem onLane_sup (s : State) (l : Nat) (f : Lane → Lane) : (s.onLane l f).sup = s.sup := rfl
@[simp] theorem onLane_gk (s : State) (l : Nat) (f : Lane → Lane) : (s.onLane l f).gk = s.gk := rfl
@[simp] theorem onLane_alm (s : State) (l : Nat) (f : Lane → Lane) : (s.onLane l f).alm = s.alm := rfl
@[simp] theorem onLane_rpl (s : State) (l : Nat) (f : Lane → Lane) : (s.onLane l f).rpl = s.rpl := rfl
@[simp] theorem onLane_jtag (s : State) (l : Nat) (f : Lane → Lane) : (s.onLane l f).jtag = s.jtag := rfl
@[simp] theorem onLane_ctr (s : State) (l : Nat) (f : Lane → Lane) : (s.onLane l f).ctr = s.ctr := rfl
@[simp] theorem onLane_freeCount (s : State) (l : Nat) (f : Lane → Lane) : (s.onLane l f).freeCount = s.freeCount := rfl
@[simp] theorem onLane_pending (s : State) (l : Nat) (f : Lane → Lane) : (s.onLane l f).pending = s.pending := rfl

@[simp] theorem setQueue_clk (s : State) (c : Nat) (q : List EgRec) : (s.setQueue c q).clk = s.clk := by unfold State.setQueue; split <;> rfl
@[simp] theorem setQueue_boot (s : State) (c : Nat) (q : List EgRec) : (s.setQueue c q).boot = s.boot := by unfold State.setQueue; split <;> rfl
@[simp] theorem setQueue_fuses (s : State) (c : Nat) (q : List EgRec) : (s.setQueue c q).fuses = s.fuses := by unfold State.setQueue; split <;> rfl
@[simp] theorem setQueue_flash (s : State) (c : Nat) (q : List EgRec) : (s.setQueue c q).flash = s.flash := by unfold State.setQueue; split <;> rfl
@[simp] theorem setQueue_time (s : State) (c : Nat) (q : List EgRec) : (s.setQueue c q).time = s.time := by unfold State.setQueue; split <;> rfl
@[simp] theorem setQueue_cues (s : State) (c : Nat) (q : List EgRec) : (s.setQueue c q).cues = s.cues := by unfold State.setQueue; split <;> rfl
@[simp] theorem setQueue_kcp (s : State) (c : Nat) (q : List EgRec) : (s.setQueue c q).kcp = s.kcp := by unfold State.setQueue; split <;> rfl
@[simp] theorem setQueue_smb (s : State) (c : Nat) (q : List EgRec) : (s.setQueue c q).smb = s.smb := by unfold State.setQueue; split <;> rfl
@[simp] theorem setQueue_rwc (s : State) (c : Nat) (q : List EgRec) : (s.setQueue c q).rwc = s.rwc := by unfold State.setQueue; split <;> rfl
@[simp] theorem setQueue_pcie (s : State) (c : Nat) (q : List EgRec) : (s.setQueue c q).pcie = s.pcie := by unfold State.setQueue; split <;> rfl
@[simp] theorem setQueue_plan (s : State) (c : Nat) (q : List EgRec) : (s.setQueue c q).plan = s.plan := by unfold State.setQueue; split <;> rfl
@[simp] theorem setQueue_ingest (s : State) (c : Nat) (q : List EgRec) : (s.setQueue c q).ingest = s.ingest := by unfold State.setQueue; split <;> rfl
@[simp] theorem setQueue_xa (s : State) (c : Nat) (q : List EgRec) : (s.setQueue c q).xa = s.xa := by unfold State.setQueue; split <;> rfl
@[simp] theorem setQueue_rmw (s : State) (c : Nat) (q : List EgRec) : (s.setQueue c q).rmw = s.rmw := by unfold State.setQueue; split <;> rfl
@[simp] theorem setQueue_beams (s : State) (c : Nat) (q : List EgRec) : (s.setQueue c q).beams = s.beams := by unfold State.setQueue; split <;> rfl
@[simp] theorem setQueue_riddle (s : State) (c : Nat) (q : List EgRec) : (s.setQueue c q).riddle = s.riddle := by unfold State.setQueue; split <;> rfl
@[simp] theorem setQueue_cf (s : State) (c : Nat) (q : List EgRec) : (s.setQueue c q).cf = s.cf := by unfold State.setQueue; split <;> rfl
@[simp] theorem setQueue_mesh (s : State) (c : Nat) (q : List EgRec) : (s.setQueue c q).mesh = s.mesh := by unfold State.setQueue; split <;> rfl
@[simp] theorem setQueue_mem (s : State) (c : Nat) (q : List EgRec) : (s.setQueue c q).mem = s.mem := by unfold State.setQueue; split <;> rfl
@[simp] theorem setQueue_tl (s : State) (c : Nat) (q : List EgRec) : (s.setQueue c q).tl = s.tl := by unfold State.setQueue; split <;> rfl
@[simp] theorem setQueue_cells (s : State) (c : Nat) (q : List EgRec) : (s.setQueue c q).cells = s.cells := by unfold State.setQueue; split <;> rfl
@[simp] theorem setQueue_sup (s : State) (c : Nat) (q : List EgRec) : (s.setQueue c q).sup = s.sup := by unfold State.setQueue; split <;> rfl
@[simp] theorem setQueue_gk (s : State) (c : Nat) (q : List EgRec) : (s.setQueue c q).gk = s.gk := by unfold State.setQueue; split <;> rfl
@[simp] theorem setQueue_alm (s : State) (c : Nat) (q : List EgRec) : (s.setQueue c q).alm = s.alm := by unfold State.setQueue; split <;> rfl
@[simp] theorem setQueue_rpl (s : State) (c : Nat) (q : List EgRec) : (s.setQueue c q).rpl = s.rpl := by unfold State.setQueue; split <;> rfl
@[simp] theorem setQueue_jtag (s : State) (c : Nat) (q : List EgRec) : (s.setQueue c q).jtag = s.jtag := by unfold State.setQueue; split <;> rfl
@[simp] theorem setQueue_ctr (s : State) (c : Nat) (q : List EgRec) : (s.setQueue c q).ctr = s.ctr := by unfold State.setQueue; split <;> rfl
@[simp] theorem setQueue_freeCount (s : State) (c : Nat) (q : List EgRec) : (s.setQueue c q).freeCount = s.freeCount := by unfold State.setQueue; split <;> rfl
@[simp] theorem setQueue_pending (s : State) (c : Nat) (q : List EgRec) : (s.setQueue c q).pending = s.pending := by unfold State.setQueue; split <;> rfl

@[simp] theorem onChan_clk (s : State) (c : Nat) (f : MemChan → MemChan) : (s.onChan c f).clk = s.clk := rfl
@[simp] theorem onChan_boot (s : State) (c : Nat) (f : MemChan → MemChan) : (s.onChan c f).boot = s.boot := rfl
@[simp] theorem onChan_fuses (s : State) (c : Nat) (f : MemChan → MemChan) : (s.onChan c f).fuses = s.fuses := rfl
@[simp] theorem onChan_flash (s : State) (c : Nat) (f : MemChan → MemChan) : (s.onChan c f).flash = s.flash := rfl
@[simp] theorem onChan_time (s : State) (c : Nat) (f : MemChan → MemChan) : (s.onChan c f).time = s.time := rfl
@[simp] theorem onChan_cues (s : State) (c : Nat) (f : MemChan → MemChan) : (s.onChan c f).cues = s.cues := rfl
@[simp] theorem onChan_kcp (s : State) (c : Nat) (f : MemChan → MemChan) : (s.onChan c f).kcp = s.kcp := rfl
@[simp] theorem onChan_smb (s : State) (c : Nat) (f : MemChan → MemChan) : (s.onChan c f).smb = s.smb := rfl
@[simp] theorem onChan_rwc (s : State) (c : Nat) (f : MemChan → MemChan) : (s.onChan c f).rwc = s.rwc := rfl
@[simp] theorem onChan_pcie (s : State) (c : Nat) (f : MemChan → MemChan) : (s.onChan c f).pcie = s.pcie := rfl
@[simp] theorem onChan_plan (s : State) (c : Nat) (f : MemChan → MemChan) : (s.onChan c f).plan = s.plan := rfl
@[simp] theorem onChan_ingest (s : State) (c : Nat) (f : MemChan → MemChan) : (s.onChan c f).ingest = s.ingest := rfl
@[simp] theorem onChan_xa (s : State) (c : Nat) (f : MemChan → MemChan) : (s.onChan c f).xa = s.xa := rfl
@[simp] theorem onChan_rmw (s : State) (c : Nat) (f : MemChan → MemChan) : (s.onChan c f).rmw = s.rmw := rfl
@[simp] theorem onChan_beams (s : State) (c : Nat) (f : MemChan → MemChan) : (s.onChan c f).beams = s.beams := rfl
@[simp] theorem onChan_riddle (s : State) (c : Nat) (f : MemChan → MemChan) : (s.onChan c f).riddle = s.riddle := rfl
@[simp] theorem onChan_cf (s : State) (c : Nat) (f : MemChan → MemChan) : (s.onChan c f).cf = s.cf := rfl
@[simp] theorem onChan_lanes (s : State) (c : Nat) (f : MemChan → MemChan) : (s.onChan c f).lanes = s.lanes := rfl
@[simp] theorem onChan_mesh (s : State) (c : Nat) (f : MemChan → MemChan) : (s.onChan c f).mesh = s.mesh := rfl
@[simp] theorem onChan_tl (s : State) (c : Nat) (f : MemChan → MemChan) : (s.onChan c f).tl = s.tl := rfl
@[simp] theorem onChan_cells (s : State) (c : Nat) (f : MemChan → MemChan) : (s.onChan c f).cells = s.cells := rfl
@[simp] theorem onChan_sup (s : State) (c : Nat) (f : MemChan → MemChan) : (s.onChan c f).sup = s.sup := rfl
@[simp] theorem onChan_gk (s : State) (c : Nat) (f : MemChan → MemChan) : (s.onChan c f).gk = s.gk := rfl
@[simp] theorem onChan_alm (s : State) (c : Nat) (f : MemChan → MemChan) : (s.onChan c f).alm = s.alm := rfl
@[simp] theorem onChan_rpl (s : State) (c : Nat) (f : MemChan → MemChan) : (s.onChan c f).rpl = s.rpl := rfl
@[simp] theorem onChan_jtag (s : State) (c : Nat) (f : MemChan → MemChan) : (s.onChan c f).jtag = s.jtag := rfl
@[simp] theorem onChan_ctr (s : State) (c : Nat) (f : MemChan → MemChan) : (s.onChan c f).ctr = s.ctr := rfl
@[simp] theorem onChan_freeCount (s : State) (c : Nat) (f : MemChan → MemChan) : (s.onChan c f).freeCount = s.freeCount := rfl
@[simp] theorem onChan_pending (s : State) (c : Nat) (f : MemChan → MemChan) : (s.onChan c f).pending = s.pending := rfl

@[simp] theorem dramWrite_clk (s : State) (a : Nat) (bs : List Byte) : (s.dramWrite a bs).clk = s.clk := rfl
@[simp] theorem dramWrite_boot (s : State) (a : Nat) (bs : List Byte) : (s.dramWrite a bs).boot = s.boot := rfl
@[simp] theorem dramWrite_fuses (s : State) (a : Nat) (bs : List Byte) : (s.dramWrite a bs).fuses = s.fuses := rfl
@[simp] theorem dramWrite_flash (s : State) (a : Nat) (bs : List Byte) : (s.dramWrite a bs).flash = s.flash := rfl
@[simp] theorem dramWrite_time (s : State) (a : Nat) (bs : List Byte) : (s.dramWrite a bs).time = s.time := rfl
@[simp] theorem dramWrite_cues (s : State) (a : Nat) (bs : List Byte) : (s.dramWrite a bs).cues = s.cues := rfl
@[simp] theorem dramWrite_kcp (s : State) (a : Nat) (bs : List Byte) : (s.dramWrite a bs).kcp = s.kcp := rfl
@[simp] theorem dramWrite_smb (s : State) (a : Nat) (bs : List Byte) : (s.dramWrite a bs).smb = s.smb := rfl
@[simp] theorem dramWrite_rwc (s : State) (a : Nat) (bs : List Byte) : (s.dramWrite a bs).rwc = s.rwc := rfl
@[simp] theorem dramWrite_pcie (s : State) (a : Nat) (bs : List Byte) : (s.dramWrite a bs).pcie = s.pcie := rfl
@[simp] theorem dramWrite_plan (s : State) (a : Nat) (bs : List Byte) : (s.dramWrite a bs).plan = s.plan := rfl
@[simp] theorem dramWrite_ingest (s : State) (a : Nat) (bs : List Byte) : (s.dramWrite a bs).ingest = s.ingest := rfl
@[simp] theorem dramWrite_xa (s : State) (a : Nat) (bs : List Byte) : (s.dramWrite a bs).xa = s.xa := rfl
@[simp] theorem dramWrite_rmw (s : State) (a : Nat) (bs : List Byte) : (s.dramWrite a bs).rmw = s.rmw := rfl
@[simp] theorem dramWrite_beams (s : State) (a : Nat) (bs : List Byte) : (s.dramWrite a bs).beams = s.beams := rfl
@[simp] theorem dramWrite_riddle (s : State) (a : Nat) (bs : List Byte) : (s.dramWrite a bs).riddle = s.riddle := rfl
@[simp] theorem dramWrite_cf (s : State) (a : Nat) (bs : List Byte) : (s.dramWrite a bs).cf = s.cf := rfl
@[simp] theorem dramWrite_lanes (s : State) (a : Nat) (bs : List Byte) : (s.dramWrite a bs).lanes = s.lanes := rfl
@[simp] theorem dramWrite_mesh (s : State) (a : Nat) (bs : List Byte) : (s.dramWrite a bs).mesh = s.mesh := rfl
@[simp] theorem dramWrite_tl (s : State) (a : Nat) (bs : List Byte) : (s.dramWrite a bs).tl = s.tl := rfl
@[simp] theorem dramWrite_cells (s : State) (a : Nat) (bs : List Byte) : (s.dramWrite a bs).cells = s.cells := rfl
@[simp] theorem dramWrite_sup (s : State) (a : Nat) (bs : List Byte) : (s.dramWrite a bs).sup = s.sup := rfl
@[simp] theorem dramWrite_gk (s : State) (a : Nat) (bs : List Byte) : (s.dramWrite a bs).gk = s.gk := rfl
@[simp] theorem dramWrite_alm (s : State) (a : Nat) (bs : List Byte) : (s.dramWrite a bs).alm = s.alm := rfl
@[simp] theorem dramWrite_rpl (s : State) (a : Nat) (bs : List Byte) : (s.dramWrite a bs).rpl = s.rpl := rfl
@[simp] theorem dramWrite_jtag (s : State) (a : Nat) (bs : List Byte) : (s.dramWrite a bs).jtag = s.jtag := rfl
@[simp] theorem dramWrite_ctr (s : State) (a : Nat) (bs : List Byte) : (s.dramWrite a bs).ctr = s.ctr := rfl
@[simp] theorem dramWrite_freeCount (s : State) (a : Nat) (bs : List Byte) : (s.dramWrite a bs).freeCount = s.freeCount := rfl
@[simp] theorem dramWrite_pending (s : State) (a : Nat) (bs : List Byte) : (s.dramWrite a bs).pending = s.pending := rfl

@[simp] theorem onRegion_clk (s : State) (i : Nat) (f : Region → Region) : (s.onRegion i f).clk = s.clk := rfl
@[simp] theorem onRegion_boot (s : State) (i : Nat) (f : Region → Region) : (s.onRegion i f).boot = s.boot := rfl
@[simp] theorem onRegion_fuses (s : State) (i : Nat) (f : Region → Region) : (s.onRegion i f).fuses = s.fuses := rfl
@[simp] theorem onRegion_flash (s : State) (i : Nat) (f : Region → Region) : (s.onRegion i f).flash = s.flash := rfl
@[simp] theorem onRegion_time (s : State) (i : Nat) (f : Region → Region) : (s.onRegion i f).time = s.time := rfl
@[simp] theorem onRegion_cues (s : State) (i : Nat) (f : Region → Region) : (s.onRegion i f).cues = s.cues := rfl
@[simp] theorem onRegion_kcp (s : State) (i : Nat) (f : Region → Region) : (s.onRegion i f).kcp = s.kcp := rfl
@[simp] theorem onRegion_smb (s : State) (i : Nat) (f : Region → Region) : (s.onRegion i f).smb = s.smb := rfl
@[simp] theorem onRegion_rwc (s : State) (i : Nat) (f : Region → Region) : (s.onRegion i f).rwc = s.rwc := rfl
@[simp] theorem onRegion_pcie (s : State) (i : Nat) (f : Region → Region) : (s.onRegion i f).pcie = s.pcie := rfl
@[simp] theorem onRegion_plan (s : State) (i : Nat) (f : Region → Region) : (s.onRegion i f).plan = s.plan := rfl
@[simp] theorem onRegion_ingest (s : State) (i : Nat) (f : Region → Region) : (s.onRegion i f).ingest = s.ingest := rfl
@[simp] theorem onRegion_xa (s : State) (i : Nat) (f : Region → Region) : (s.onRegion i f).xa = s.xa := rfl
@[simp] theorem onRegion_rmw (s : State) (i : Nat) (f : Region → Region) : (s.onRegion i f).rmw = s.rmw := rfl
@[simp] theorem onRegion_beams (s : State) (i : Nat) (f : Region → Region) : (s.onRegion i f).beams = s.beams := rfl
@[simp] theorem onRegion_riddle (s : State) (i : Nat) (f : Region → Region) : (s.onRegion i f).riddle = s.riddle := rfl
@[simp] theorem onRegion_lanes (s : State) (i : Nat) (f : Region → Region) : (s.onRegion i f).lanes = s.lanes := rfl
@[simp] theorem onRegion_mesh (s : State) (i : Nat) (f : Region → Region) : (s.onRegion i f).mesh = s.mesh := rfl
@[simp] theorem onRegion_mem (s : State) (i : Nat) (f : Region → Region) : (s.onRegion i f).mem = s.mem := rfl
@[simp] theorem onRegion_tl (s : State) (i : Nat) (f : Region → Region) : (s.onRegion i f).tl = s.tl := rfl
@[simp] theorem onRegion_cells (s : State) (i : Nat) (f : Region → Region) : (s.onRegion i f).cells = s.cells := rfl
@[simp] theorem onRegion_sup (s : State) (i : Nat) (f : Region → Region) : (s.onRegion i f).sup = s.sup := rfl
@[simp] theorem onRegion_gk (s : State) (i : Nat) (f : Region → Region) : (s.onRegion i f).gk = s.gk := rfl
@[simp] theorem onRegion_alm (s : State) (i : Nat) (f : Region → Region) : (s.onRegion i f).alm = s.alm := rfl
@[simp] theorem onRegion_rpl (s : State) (i : Nat) (f : Region → Region) : (s.onRegion i f).rpl = s.rpl := rfl
@[simp] theorem onRegion_jtag (s : State) (i : Nat) (f : Region → Region) : (s.onRegion i f).jtag = s.jtag := rfl
@[simp] theorem onRegion_ctr (s : State) (i : Nat) (f : Region → Region) : (s.onRegion i f).ctr = s.ctr := rfl
@[simp] theorem onRegion_freeCount (s : State) (i : Nat) (f : Region → Region) : (s.onRegion i f).freeCount = s.freeCount := rfl
@[simp] theorem onRegion_pending (s : State) (i : Nat) (f : Region → Region) : (s.onRegion i f).pending = s.pending := rfl

@[simp] theorem onSieve_clk (s : State) (i : Nat) (f : Sieve → Sieve) : (s.onSieve i f).clk = s.clk := rfl
@[simp] theorem onSieve_boot (s : State) (i : Nat) (f : Sieve → Sieve) : (s.onSieve i f).boot = s.boot := rfl
@[simp] theorem onSieve_fuses (s : State) (i : Nat) (f : Sieve → Sieve) : (s.onSieve i f).fuses = s.fuses := rfl
@[simp] theorem onSieve_flash (s : State) (i : Nat) (f : Sieve → Sieve) : (s.onSieve i f).flash = s.flash := rfl
@[simp] theorem onSieve_time (s : State) (i : Nat) (f : Sieve → Sieve) : (s.onSieve i f).time = s.time := rfl
@[simp] theorem onSieve_cues (s : State) (i : Nat) (f : Sieve → Sieve) : (s.onSieve i f).cues = s.cues := rfl
@[simp] theorem onSieve_kcp (s : State) (i : Nat) (f : Sieve → Sieve) : (s.onSieve i f).kcp = s.kcp := rfl
@[simp] theorem onSieve_smb (s : State) (i : Nat) (f : Sieve → Sieve) : (s.onSieve i f).smb = s.smb := rfl
@[simp] theorem onSieve_rwc (s : State) (i : Nat) (f : Sieve → Sieve) : (s.onSieve i f).rwc = s.rwc := rfl
@[simp] theorem onSieve_pcie (s : State) (i : Nat) (f : Sieve → Sieve) : (s.onSieve i f).pcie = s.pcie := rfl
@[simp] theorem onSieve_plan (s : State) (i : Nat) (f : Sieve → Sieve) : (s.onSieve i f).plan = s.plan := rfl
@[simp] theorem onSieve_ingest (s : State) (i : Nat) (f : Sieve → Sieve) : (s.onSieve i f).ingest = s.ingest := rfl
@[simp] theorem onSieve_xa (s : State) (i : Nat) (f : Sieve → Sieve) : (s.onSieve i f).xa = s.xa := rfl
@[simp] theorem onSieve_rmw (s : State) (i : Nat) (f : Sieve → Sieve) : (s.onSieve i f).rmw = s.rmw := rfl
@[simp] theorem onSieve_beams (s : State) (i : Nat) (f : Sieve → Sieve) : (s.onSieve i f).beams = s.beams := rfl
@[simp] theorem onSieve_cf (s : State) (i : Nat) (f : Sieve → Sieve) : (s.onSieve i f).cf = s.cf := rfl
@[simp] theorem onSieve_lanes (s : State) (i : Nat) (f : Sieve → Sieve) : (s.onSieve i f).lanes = s.lanes := rfl
@[simp] theorem onSieve_mesh (s : State) (i : Nat) (f : Sieve → Sieve) : (s.onSieve i f).mesh = s.mesh := rfl
@[simp] theorem onSieve_mem (s : State) (i : Nat) (f : Sieve → Sieve) : (s.onSieve i f).mem = s.mem := rfl
@[simp] theorem onSieve_tl (s : State) (i : Nat) (f : Sieve → Sieve) : (s.onSieve i f).tl = s.tl := rfl
@[simp] theorem onSieve_cells (s : State) (i : Nat) (f : Sieve → Sieve) : (s.onSieve i f).cells = s.cells := rfl
@[simp] theorem onSieve_sup (s : State) (i : Nat) (f : Sieve → Sieve) : (s.onSieve i f).sup = s.sup := rfl
@[simp] theorem onSieve_gk (s : State) (i : Nat) (f : Sieve → Sieve) : (s.onSieve i f).gk = s.gk := rfl
@[simp] theorem onSieve_alm (s : State) (i : Nat) (f : Sieve → Sieve) : (s.onSieve i f).alm = s.alm := rfl
@[simp] theorem onSieve_rpl (s : State) (i : Nat) (f : Sieve → Sieve) : (s.onSieve i f).rpl = s.rpl := rfl
@[simp] theorem onSieve_jtag (s : State) (i : Nat) (f : Sieve → Sieve) : (s.onSieve i f).jtag = s.jtag := rfl
@[simp] theorem onSieve_ctr (s : State) (i : Nat) (f : Sieve → Sieve) : (s.onSieve i f).ctr = s.ctr := rfl
@[simp] theorem onSieve_freeCount (s : State) (i : Nat) (f : Sieve → Sieve) : (s.onSieve i f).freeCount = s.freeCount := rfl
@[simp] theorem onSieve_pending (s : State) (i : Nat) (f : Sieve → Sieve) : (s.onSieve i f).pending = s.pending := rfl

@[simp] theorem setSlot_clk (s : State) (i : Nat) (x : Slot) : (s.setSlot i x).clk = s.clk := by unfold State.setSlot; split <;> rfl
@[simp] theorem setSlot_boot (s : State) (i : Nat) (x : Slot) : (s.setSlot i x).boot = s.boot := by unfold State.setSlot; split <;> rfl
@[simp] theorem setSlot_fuses (s : State) (i : Nat) (x : Slot) : (s.setSlot i x).fuses = s.fuses := by unfold State.setSlot; split <;> rfl
@[simp] theorem setSlot_flash (s : State) (i : Nat) (x : Slot) : (s.setSlot i x).flash = s.flash := by unfold State.setSlot; split <;> rfl
@[simp] theorem setSlot_time (s : State) (i : Nat) (x : Slot) : (s.setSlot i x).time = s.time := by unfold State.setSlot; split <;> rfl
@[simp] theorem setSlot_cues (s : State) (i : Nat) (x : Slot) : (s.setSlot i x).cues = s.cues := by unfold State.setSlot; split <;> rfl
@[simp] theorem setSlot_kcp (s : State) (i : Nat) (x : Slot) : (s.setSlot i x).kcp = s.kcp := by unfold State.setSlot; split <;> rfl
@[simp] theorem setSlot_smb (s : State) (i : Nat) (x : Slot) : (s.setSlot i x).smb = s.smb := by unfold State.setSlot; split <;> rfl
@[simp] theorem setSlot_rwc (s : State) (i : Nat) (x : Slot) : (s.setSlot i x).rwc = s.rwc := by unfold State.setSlot; split <;> rfl
@[simp] theorem setSlot_pcie (s : State) (i : Nat) (x : Slot) : (s.setSlot i x).pcie = s.pcie := by unfold State.setSlot; split <;> rfl
@[simp] theorem setSlot_plan (s : State) (i : Nat) (x : Slot) : (s.setSlot i x).plan = s.plan := by unfold State.setSlot; split <;> rfl
@[simp] theorem setSlot_xa (s : State) (i : Nat) (x : Slot) : (s.setSlot i x).xa = s.xa := by unfold State.setSlot; split <;> rfl
@[simp] theorem setSlot_rmw (s : State) (i : Nat) (x : Slot) : (s.setSlot i x).rmw = s.rmw := by unfold State.setSlot; split <;> rfl
@[simp] theorem setSlot_beams (s : State) (i : Nat) (x : Slot) : (s.setSlot i x).beams = s.beams := by unfold State.setSlot; split <;> rfl
@[simp] theorem setSlot_riddle (s : State) (i : Nat) (x : Slot) : (s.setSlot i x).riddle = s.riddle := by unfold State.setSlot; split <;> rfl
@[simp] theorem setSlot_cf (s : State) (i : Nat) (x : Slot) : (s.setSlot i x).cf = s.cf := by unfold State.setSlot; split <;> rfl
@[simp] theorem setSlot_lanes (s : State) (i : Nat) (x : Slot) : (s.setSlot i x).lanes = s.lanes := by unfold State.setSlot; split <;> rfl
@[simp] theorem setSlot_mesh (s : State) (i : Nat) (x : Slot) : (s.setSlot i x).mesh = s.mesh := by unfold State.setSlot; split <;> rfl
@[simp] theorem setSlot_mem (s : State) (i : Nat) (x : Slot) : (s.setSlot i x).mem = s.mem := by unfold State.setSlot; split <;> rfl
@[simp] theorem setSlot_tl (s : State) (i : Nat) (x : Slot) : (s.setSlot i x).tl = s.tl := by unfold State.setSlot; split <;> rfl
@[simp] theorem setSlot_cells (s : State) (i : Nat) (x : Slot) : (s.setSlot i x).cells = s.cells := by unfold State.setSlot; split <;> rfl
@[simp] theorem setSlot_sup (s : State) (i : Nat) (x : Slot) : (s.setSlot i x).sup = s.sup := by unfold State.setSlot; split <;> rfl
@[simp] theorem setSlot_gk (s : State) (i : Nat) (x : Slot) : (s.setSlot i x).gk = s.gk := by unfold State.setSlot; split <;> rfl
@[simp] theorem setSlot_alm (s : State) (i : Nat) (x : Slot) : (s.setSlot i x).alm = s.alm := by unfold State.setSlot; split <;> rfl
@[simp] theorem setSlot_rpl (s : State) (i : Nat) (x : Slot) : (s.setSlot i x).rpl = s.rpl := by unfold State.setSlot; split <;> rfl
@[simp] theorem setSlot_jtag (s : State) (i : Nat) (x : Slot) : (s.setSlot i x).jtag = s.jtag := by unfold State.setSlot; split <;> rfl
@[simp] theorem setSlot_ctr (s : State) (i : Nat) (x : Slot) : (s.setSlot i x).ctr = s.ctr := by unfold State.setSlot; split <;> rfl
@[simp] theorem setSlot_freeCount (s : State) (i : Nat) (x : Slot) : (s.setSlot i x).freeCount = s.freeCount := by unfold State.setSlot; split <;> rfl
@[simp] theorem setSlot_pending (s : State) (i : Nat) (x : Slot) : (s.setSlot i x).pending = s.pending := by unfold State.setSlot; split <;> rfl

@[simp] theorem onStream_clk (s : State) (l : Nat) (i : W32) (f : Stream → Stream) : (onStream l i f s).clk = s.clk := rfl
@[simp] theorem onStream_boot (s : State) (l : Nat) (i : W32) (f : Stream → Stream) : (onStream l i f s).boot = s.boot := rfl
@[simp] theorem onStream_fuses (s : State) (l : Nat) (i : W32) (f : Stream → Stream) : (onStream l i f s).fuses = s.fuses := rfl
@[simp] theorem onStream_flash (s : State) (l : Nat) (i : W32) (f : Stream → Stream) : (onStream l i f s).flash = s.flash := rfl
@[simp] theorem onStream_time (s : State) (l : Nat) (i : W32) (f : Stream → Stream) : (onStream l i f s).time = s.time := rfl
@[simp] theorem onStream_cues (s : State) (l : Nat) (i : W32) (f : Stream → Stream) : (onStream l i f s).cues = s.cues := rfl
@[simp] theorem onStream_kcp (s : State) (l : Nat) (i : W32) (f : Stream → Stream) : (onStream l i f s).kcp = s.kcp := rfl
@[simp] theorem onStream_smb (s : State) (l : Nat) (i : W32) (f : Stream → Stream) : (onStream l i f s).smb = s.smb := rfl
@[simp] theorem onStream_rwc (s : State) (l : Nat) (i : W32) (f : Stream → Stream) : (onStream l i f s).rwc = s.rwc := rfl
@[simp] theorem onStream_pcie (s : State) (l : Nat) (i : W32) (f : Stream → Stream) : (onStream l i f s).pcie = s.pcie := rfl
@[simp] theorem onStream_plan (s : State) (l : Nat) (i : W32) (f : Stream → Stream) : (onStream l i f s).plan = s.plan := rfl
@[simp] theorem onStream_xa (s : State) (l : Nat) (i : W32) (f : Stream → Stream) : (onStream l i f s).xa = s.xa := rfl
@[simp] theorem onStream_rmw (s : State) (l : Nat) (i : W32) (f : Stream → Stream) : (onStream l i f s).rmw = s.rmw := rfl
@[simp] theorem onStream_beams (s : State) (l : Nat) (i : W32) (f : Stream → Stream) : (onStream l i f s).beams = s.beams := rfl
@[simp] theorem onStream_riddle (s : State) (l : Nat) (i : W32) (f : Stream → Stream) : (onStream l i f s).riddle = s.riddle := rfl
@[simp] theorem onStream_cf (s : State) (l : Nat) (i : W32) (f : Stream → Stream) : (onStream l i f s).cf = s.cf := rfl
@[simp] theorem onStream_lanes (s : State) (l : Nat) (i : W32) (f : Stream → Stream) : (onStream l i f s).lanes = s.lanes := rfl
@[simp] theorem onStream_mesh (s : State) (l : Nat) (i : W32) (f : Stream → Stream) : (onStream l i f s).mesh = s.mesh := rfl
@[simp] theorem onStream_mem (s : State) (l : Nat) (i : W32) (f : Stream → Stream) : (onStream l i f s).mem = s.mem := rfl
@[simp] theorem onStream_tl (s : State) (l : Nat) (i : W32) (f : Stream → Stream) : (onStream l i f s).tl = s.tl := rfl
@[simp] theorem onStream_cells (s : State) (l : Nat) (i : W32) (f : Stream → Stream) : (onStream l i f s).cells = s.cells := rfl
@[simp] theorem onStream_sup (s : State) (l : Nat) (i : W32) (f : Stream → Stream) : (onStream l i f s).sup = s.sup := rfl
@[simp] theorem onStream_gk (s : State) (l : Nat) (i : W32) (f : Stream → Stream) : (onStream l i f s).gk = s.gk := rfl
@[simp] theorem onStream_alm (s : State) (l : Nat) (i : W32) (f : Stream → Stream) : (onStream l i f s).alm = s.alm := rfl
@[simp] theorem onStream_rpl (s : State) (l : Nat) (i : W32) (f : Stream → Stream) : (onStream l i f s).rpl = s.rpl := rfl
@[simp] theorem onStream_jtag (s : State) (l : Nat) (i : W32) (f : Stream → Stream) : (onStream l i f s).jtag = s.jtag := rfl
@[simp] theorem onStream_ctr (s : State) (l : Nat) (i : W32) (f : Stream → Stream) : (onStream l i f s).ctr = s.ctr := rfl
@[simp] theorem onStream_freeCount (s : State) (l : Nat) (i : W32) (f : Stream → Stream) : (onStream l i f s).freeCount = s.freeCount := rfl
@[simp] theorem onStream_pending (s : State) (l : Nat) (i : W32) (f : Stream → Stream) : (onStream l i f s).pending = s.pending := rfl

@[simp] theorem onStaged_clk (s : State) (d : Dwell) (f : Staged → Staged) : (s.onStaged d f).clk = s.clk := rfl
@[simp] theorem onStaged_boot (s : State) (d : Dwell) (f : Staged → Staged) : (s.onStaged d f).boot = s.boot := rfl
@[simp] theorem onStaged_fuses (s : State) (d : Dwell) (f : Staged → Staged) : (s.onStaged d f).fuses = s.fuses := rfl
@[simp] theorem onStaged_flash (s : State) (d : Dwell) (f : Staged → Staged) : (s.onStaged d f).flash = s.flash := rfl
@[simp] theorem onStaged_time (s : State) (d : Dwell) (f : Staged → Staged) : (s.onStaged d f).time = s.time := rfl
@[simp] theorem onStaged_cues (s : State) (d : Dwell) (f : Staged → Staged) : (s.onStaged d f).cues = s.cues := rfl
@[simp] theorem onStaged_kcp (s : State) (d : Dwell) (f : Staged → Staged) : (s.onStaged d f).kcp = s.kcp := rfl
@[simp] theorem onStaged_smb (s : State) (d : Dwell) (f : Staged → Staged) : (s.onStaged d f).smb = s.smb := rfl
@[simp] theorem onStaged_rwc (s : State) (d : Dwell) (f : Staged → Staged) : (s.onStaged d f).rwc = s.rwc := rfl
@[simp] theorem onStaged_pcie (s : State) (d : Dwell) (f : Staged → Staged) : (s.onStaged d f).pcie = s.pcie := rfl
@[simp] theorem onStaged_plan (s : State) (d : Dwell) (f : Staged → Staged) : (s.onStaged d f).plan = s.plan := rfl
@[simp] theorem onStaged_ingest (s : State) (d : Dwell) (f : Staged → Staged) : (s.onStaged d f).ingest = s.ingest := rfl
@[simp] theorem onStaged_rmw (s : State) (d : Dwell) (f : Staged → Staged) : (s.onStaged d f).rmw = s.rmw := rfl
@[simp] theorem onStaged_beams (s : State) (d : Dwell) (f : Staged → Staged) : (s.onStaged d f).beams = s.beams := rfl
@[simp] theorem onStaged_riddle (s : State) (d : Dwell) (f : Staged → Staged) : (s.onStaged d f).riddle = s.riddle := rfl
@[simp] theorem onStaged_cf (s : State) (d : Dwell) (f : Staged → Staged) : (s.onStaged d f).cf = s.cf := rfl
@[simp] theorem onStaged_lanes (s : State) (d : Dwell) (f : Staged → Staged) : (s.onStaged d f).lanes = s.lanes := rfl
@[simp] theorem onStaged_mesh (s : State) (d : Dwell) (f : Staged → Staged) : (s.onStaged d f).mesh = s.mesh := rfl
@[simp] theorem onStaged_mem (s : State) (d : Dwell) (f : Staged → Staged) : (s.onStaged d f).mem = s.mem := rfl
@[simp] theorem onStaged_tl (s : State) (d : Dwell) (f : Staged → Staged) : (s.onStaged d f).tl = s.tl := rfl
@[simp] theorem onStaged_cells (s : State) (d : Dwell) (f : Staged → Staged) : (s.onStaged d f).cells = s.cells := rfl
@[simp] theorem onStaged_sup (s : State) (d : Dwell) (f : Staged → Staged) : (s.onStaged d f).sup = s.sup := rfl
@[simp] theorem onStaged_gk (s : State) (d : Dwell) (f : Staged → Staged) : (s.onStaged d f).gk = s.gk := rfl
@[simp] theorem onStaged_alm (s : State) (d : Dwell) (f : Staged → Staged) : (s.onStaged d f).alm = s.alm := rfl
@[simp] theorem onStaged_rpl (s : State) (d : Dwell) (f : Staged → Staged) : (s.onStaged d f).rpl = s.rpl := rfl
@[simp] theorem onStaged_jtag (s : State) (d : Dwell) (f : Staged → Staged) : (s.onStaged d f).jtag = s.jtag := rfl
@[simp] theorem onStaged_ctr (s : State) (d : Dwell) (f : Staged → Staged) : (s.onStaged d f).ctr = s.ctr := rfl
@[simp] theorem onStaged_freeCount (s : State) (d : Dwell) (f : Staged → Staged) : (s.onStaged d f).freeCount = s.freeCount := rfl
@[simp] theorem onStaged_pending (s : State) (d : Dwell) (f : Staged → Staged) : (s.onStaged d f).pending = s.pending := rfl

@[simp] theorem setPass_clk (s : State) (p : Option Pass) : (s.setPass p).clk = s.clk := rfl
@[simp] theorem setPass_boot (s : State) (p : Option Pass) : (s.setPass p).boot = s.boot := rfl
@[simp] theorem setPass_fuses (s : State) (p : Option Pass) : (s.setPass p).fuses = s.fuses := rfl
@[simp] theorem setPass_flash (s : State) (p : Option Pass) : (s.setPass p).flash = s.flash := rfl
@[simp] theorem setPass_time (s : State) (p : Option Pass) : (s.setPass p).time = s.time := rfl
@[simp] theorem setPass_cues (s : State) (p : Option Pass) : (s.setPass p).cues = s.cues := rfl
@[simp] theorem setPass_kcp (s : State) (p : Option Pass) : (s.setPass p).kcp = s.kcp := rfl
@[simp] theorem setPass_smb (s : State) (p : Option Pass) : (s.setPass p).smb = s.smb := rfl
@[simp] theorem setPass_rwc (s : State) (p : Option Pass) : (s.setPass p).rwc = s.rwc := rfl
@[simp] theorem setPass_pcie (s : State) (p : Option Pass) : (s.setPass p).pcie = s.pcie := rfl
@[simp] theorem setPass_plan (s : State) (p : Option Pass) : (s.setPass p).plan = s.plan := rfl
@[simp] theorem setPass_ingest (s : State) (p : Option Pass) : (s.setPass p).ingest = s.ingest := rfl
@[simp] theorem setPass_xa (s : State) (p : Option Pass) : (s.setPass p).xa = s.xa := rfl
@[simp] theorem setPass_beams (s : State) (p : Option Pass) : (s.setPass p).beams = s.beams := rfl
@[simp] theorem setPass_riddle (s : State) (p : Option Pass) : (s.setPass p).riddle = s.riddle := rfl
@[simp] theorem setPass_cf (s : State) (p : Option Pass) : (s.setPass p).cf = s.cf := rfl
@[simp] theorem setPass_lanes (s : State) (p : Option Pass) : (s.setPass p).lanes = s.lanes := rfl
@[simp] theorem setPass_mesh (s : State) (p : Option Pass) : (s.setPass p).mesh = s.mesh := rfl
@[simp] theorem setPass_mem (s : State) (p : Option Pass) : (s.setPass p).mem = s.mem := rfl
@[simp] theorem setPass_tl (s : State) (p : Option Pass) : (s.setPass p).tl = s.tl := rfl
@[simp] theorem setPass_cells (s : State) (p : Option Pass) : (s.setPass p).cells = s.cells := rfl
@[simp] theorem setPass_sup (s : State) (p : Option Pass) : (s.setPass p).sup = s.sup := rfl
@[simp] theorem setPass_gk (s : State) (p : Option Pass) : (s.setPass p).gk = s.gk := rfl
@[simp] theorem setPass_alm (s : State) (p : Option Pass) : (s.setPass p).alm = s.alm := rfl
@[simp] theorem setPass_rpl (s : State) (p : Option Pass) : (s.setPass p).rpl = s.rpl := rfl
@[simp] theorem setPass_jtag (s : State) (p : Option Pass) : (s.setPass p).jtag = s.jtag := rfl
@[simp] theorem setPass_ctr (s : State) (p : Option Pass) : (s.setPass p).ctr = s.ctr := rfl
@[simp] theorem setPass_freeCount (s : State) (p : Option Pass) : (s.setPass p).freeCount = s.freeCount := rfl
@[simp] theorem setPass_pending (s : State) (p : Option Pass) : (s.setPass p).pending = s.pending := rfl

@[simp] theorem setDesc_clk (s : State) (c : Nat) (d : ChanDesc) : (s.setDesc c d).clk = s.clk := rfl
@[simp] theorem setDesc_boot (s : State) (c : Nat) (d : ChanDesc) : (s.setDesc c d).boot = s.boot := rfl
@[simp] theorem setDesc_fuses (s : State) (c : Nat) (d : ChanDesc) : (s.setDesc c d).fuses = s.fuses := rfl
@[simp] theorem setDesc_flash (s : State) (c : Nat) (d : ChanDesc) : (s.setDesc c d).flash = s.flash := rfl
@[simp] theorem setDesc_time (s : State) (c : Nat) (d : ChanDesc) : (s.setDesc c d).time = s.time := rfl
@[simp] theorem setDesc_cues (s : State) (c : Nat) (d : ChanDesc) : (s.setDesc c d).cues = s.cues := rfl
@[simp] theorem setDesc_kcp (s : State) (c : Nat) (d : ChanDesc) : (s.setDesc c d).kcp = s.kcp := rfl
@[simp] theorem setDesc_smb (s : State) (c : Nat) (d : ChanDesc) : (s.setDesc c d).smb = s.smb := rfl
@[simp] theorem setDesc_rwc (s : State) (c : Nat) (d : ChanDesc) : (s.setDesc c d).rwc = s.rwc := rfl
@[simp] theorem setDesc_pcie (s : State) (c : Nat) (d : ChanDesc) : (s.setDesc c d).pcie = s.pcie := rfl
@[simp] theorem setDesc_plan (s : State) (c : Nat) (d : ChanDesc) : (s.setDesc c d).plan = s.plan := rfl
@[simp] theorem setDesc_ingest (s : State) (c : Nat) (d : ChanDesc) : (s.setDesc c d).ingest = s.ingest := rfl
@[simp] theorem setDesc_xa (s : State) (c : Nat) (d : ChanDesc) : (s.setDesc c d).xa = s.xa := rfl
@[simp] theorem setDesc_beams (s : State) (c : Nat) (d : ChanDesc) : (s.setDesc c d).beams = s.beams := rfl
@[simp] theorem setDesc_riddle (s : State) (c : Nat) (d : ChanDesc) : (s.setDesc c d).riddle = s.riddle := rfl
@[simp] theorem setDesc_cf (s : State) (c : Nat) (d : ChanDesc) : (s.setDesc c d).cf = s.cf := rfl
@[simp] theorem setDesc_lanes (s : State) (c : Nat) (d : ChanDesc) : (s.setDesc c d).lanes = s.lanes := rfl
@[simp] theorem setDesc_mesh (s : State) (c : Nat) (d : ChanDesc) : (s.setDesc c d).mesh = s.mesh := rfl
@[simp] theorem setDesc_mem (s : State) (c : Nat) (d : ChanDesc) : (s.setDesc c d).mem = s.mem := rfl
@[simp] theorem setDesc_tl (s : State) (c : Nat) (d : ChanDesc) : (s.setDesc c d).tl = s.tl := rfl
@[simp] theorem setDesc_cells (s : State) (c : Nat) (d : ChanDesc) : (s.setDesc c d).cells = s.cells := rfl
@[simp] theorem setDesc_sup (s : State) (c : Nat) (d : ChanDesc) : (s.setDesc c d).sup = s.sup := rfl
@[simp] theorem setDesc_gk (s : State) (c : Nat) (d : ChanDesc) : (s.setDesc c d).gk = s.gk := rfl
@[simp] theorem setDesc_alm (s : State) (c : Nat) (d : ChanDesc) : (s.setDesc c d).alm = s.alm := rfl
@[simp] theorem setDesc_rpl (s : State) (c : Nat) (d : ChanDesc) : (s.setDesc c d).rpl = s.rpl := rfl
@[simp] theorem setDesc_jtag (s : State) (c : Nat) (d : ChanDesc) : (s.setDesc c d).jtag = s.jtag := rfl
@[simp] theorem setDesc_ctr (s : State) (c : Nat) (d : ChanDesc) : (s.setDesc c d).ctr = s.ctr := rfl
@[simp] theorem setDesc_freeCount (s : State) (c : Nat) (d : ChanDesc) : (s.setDesc c d).freeCount = s.freeCount := rfl
@[simp] theorem setDesc_pending (s : State) (c : Nat) (d : ChanDesc) : (s.setDesc c d).pending = s.pending := rfl

@[simp] theorem setCore_clk (s : State) (c : Nat) (x : CoreState) : (s.setCore c x).clk = s.clk := by unfold State.setCore; split <;> rfl
@[simp] theorem setCore_boot (s : State) (c : Nat) (x : CoreState) : (s.setCore c x).boot = s.boot := by unfold State.setCore; split <;> rfl
@[simp] theorem setCore_fuses (s : State) (c : Nat) (x : CoreState) : (s.setCore c x).fuses = s.fuses := by unfold State.setCore; split <;> rfl
@[simp] theorem setCore_flash (s : State) (c : Nat) (x : CoreState) : (s.setCore c x).flash = s.flash := by unfold State.setCore; split <;> rfl
@[simp] theorem setCore_time (s : State) (c : Nat) (x : CoreState) : (s.setCore c x).time = s.time := by unfold State.setCore; split <;> rfl
@[simp] theorem setCore_cues (s : State) (c : Nat) (x : CoreState) : (s.setCore c x).cues = s.cues := by unfold State.setCore; split <;> rfl
@[simp] theorem setCore_kcp (s : State) (c : Nat) (x : CoreState) : (s.setCore c x).kcp = s.kcp := by unfold State.setCore; split <;> rfl
@[simp] theorem setCore_smb (s : State) (c : Nat) (x : CoreState) : (s.setCore c x).smb = s.smb := by unfold State.setCore; split <;> rfl
@[simp] theorem setCore_rwc (s : State) (c : Nat) (x : CoreState) : (s.setCore c x).rwc = s.rwc := by unfold State.setCore; split <;> rfl
@[simp] theorem setCore_pcie (s : State) (c : Nat) (x : CoreState) : (s.setCore c x).pcie = s.pcie := by unfold State.setCore; split <;> rfl
@[simp] theorem setCore_plan (s : State) (c : Nat) (x : CoreState) : (s.setCore c x).plan = s.plan := by unfold State.setCore; split <;> rfl
@[simp] theorem setCore_ingest (s : State) (c : Nat) (x : CoreState) : (s.setCore c x).ingest = s.ingest := by unfold State.setCore; split <;> rfl
@[simp] theorem setCore_xa (s : State) (c : Nat) (x : CoreState) : (s.setCore c x).xa = s.xa := by unfold State.setCore; split <;> rfl
@[simp] theorem setCore_rmw (s : State) (c : Nat) (x : CoreState) : (s.setCore c x).rmw = s.rmw := by unfold State.setCore; split <;> rfl
@[simp] theorem setCore_beams (s : State) (c : Nat) (x : CoreState) : (s.setCore c x).beams = s.beams := by unfold State.setCore; split <;> rfl
@[simp] theorem setCore_riddle (s : State) (c : Nat) (x : CoreState) : (s.setCore c x).riddle = s.riddle := by unfold State.setCore; split <;> rfl
@[simp] theorem setCore_cf (s : State) (c : Nat) (x : CoreState) : (s.setCore c x).cf = s.cf := by unfold State.setCore; split <;> rfl
@[simp] theorem setCore_lanes (s : State) (c : Nat) (x : CoreState) : (s.setCore c x).lanes = s.lanes := by unfold State.setCore; split <;> rfl
@[simp] theorem setCore_mesh (s : State) (c : Nat) (x : CoreState) : (s.setCore c x).mesh = s.mesh := by unfold State.setCore; split <;> rfl
@[simp] theorem setCore_mem (s : State) (c : Nat) (x : CoreState) : (s.setCore c x).mem = s.mem := by unfold State.setCore; split <;> rfl
@[simp] theorem setCore_tl (s : State) (c : Nat) (x : CoreState) : (s.setCore c x).tl = s.tl := by unfold State.setCore; split <;> rfl
@[simp] theorem setCore_cells (s : State) (c : Nat) (x : CoreState) : (s.setCore c x).cells = s.cells := by unfold State.setCore; split <;> rfl
@[simp] theorem setCore_gk (s : State) (c : Nat) (x : CoreState) : (s.setCore c x).gk = s.gk := by unfold State.setCore; split <;> rfl
@[simp] theorem setCore_alm (s : State) (c : Nat) (x : CoreState) : (s.setCore c x).alm = s.alm := by unfold State.setCore; split <;> rfl
@[simp] theorem setCore_rpl (s : State) (c : Nat) (x : CoreState) : (s.setCore c x).rpl = s.rpl := by unfold State.setCore; split <;> rfl
@[simp] theorem setCore_jtag (s : State) (c : Nat) (x : CoreState) : (s.setCore c x).jtag = s.jtag := by unfold State.setCore; split <;> rfl
@[simp] theorem setCore_ctr (s : State) (c : Nat) (x : CoreState) : (s.setCore c x).ctr = s.ctr := by unfold State.setCore; split <;> rfl
@[simp] theorem setCore_freeCount (s : State) (c : Nat) (x : CoreState) : (s.setCore c x).freeCount = s.freeCount := by unfold State.setCore; split <;> rfl
@[simp] theorem setCore_pending (s : State) (c : Nat) (x : CoreState) : (s.setCore c x).pending = s.pending := by unfold State.setCore; split <;> rfl

@[simp] theorem setSelfFails_clk (s : State) (c n : Nat) : (s.setSelfFails c n).clk = s.clk := by unfold State.setSelfFails; split <;> rfl
@[simp] theorem setSelfFails_boot (s : State) (c n : Nat) : (s.setSelfFails c n).boot = s.boot := by unfold State.setSelfFails; split <;> rfl
@[simp] theorem setSelfFails_fuses (s : State) (c n : Nat) : (s.setSelfFails c n).fuses = s.fuses := by unfold State.setSelfFails; split <;> rfl
@[simp] theorem setSelfFails_flash (s : State) (c n : Nat) : (s.setSelfFails c n).flash = s.flash := by unfold State.setSelfFails; split <;> rfl
@[simp] theorem setSelfFails_time (s : State) (c n : Nat) : (s.setSelfFails c n).time = s.time := by unfold State.setSelfFails; split <;> rfl
@[simp] theorem setSelfFails_cues (s : State) (c n : Nat) : (s.setSelfFails c n).cues = s.cues := by unfold State.setSelfFails; split <;> rfl
@[simp] theorem setSelfFails_kcp (s : State) (c n : Nat) : (s.setSelfFails c n).kcp = s.kcp := by unfold State.setSelfFails; split <;> rfl
@[simp] theorem setSelfFails_smb (s : State) (c n : Nat) : (s.setSelfFails c n).smb = s.smb := by unfold State.setSelfFails; split <;> rfl
@[simp] theorem setSelfFails_rwc (s : State) (c n : Nat) : (s.setSelfFails c n).rwc = s.rwc := by unfold State.setSelfFails; split <;> rfl
@[simp] theorem setSelfFails_pcie (s : State) (c n : Nat) : (s.setSelfFails c n).pcie = s.pcie := by unfold State.setSelfFails; split <;> rfl
@[simp] theorem setSelfFails_plan (s : State) (c n : Nat) : (s.setSelfFails c n).plan = s.plan := by unfold State.setSelfFails; split <;> rfl
@[simp] theorem setSelfFails_ingest (s : State) (c n : Nat) : (s.setSelfFails c n).ingest = s.ingest := by unfold State.setSelfFails; split <;> rfl
@[simp] theorem setSelfFails_xa (s : State) (c n : Nat) : (s.setSelfFails c n).xa = s.xa := by unfold State.setSelfFails; split <;> rfl
@[simp] theorem setSelfFails_rmw (s : State) (c n : Nat) : (s.setSelfFails c n).rmw = s.rmw := by unfold State.setSelfFails; split <;> rfl
@[simp] theorem setSelfFails_beams (s : State) (c n : Nat) : (s.setSelfFails c n).beams = s.beams := by unfold State.setSelfFails; split <;> rfl
@[simp] theorem setSelfFails_riddle (s : State) (c n : Nat) : (s.setSelfFails c n).riddle = s.riddle := by unfold State.setSelfFails; split <;> rfl
@[simp] theorem setSelfFails_cf (s : State) (c n : Nat) : (s.setSelfFails c n).cf = s.cf := by unfold State.setSelfFails; split <;> rfl
@[simp] theorem setSelfFails_lanes (s : State) (c n : Nat) : (s.setSelfFails c n).lanes = s.lanes := by unfold State.setSelfFails; split <;> rfl
@[simp] theorem setSelfFails_mesh (s : State) (c n : Nat) : (s.setSelfFails c n).mesh = s.mesh := by unfold State.setSelfFails; split <;> rfl
@[simp] theorem setSelfFails_mem (s : State) (c n : Nat) : (s.setSelfFails c n).mem = s.mem := by unfold State.setSelfFails; split <;> rfl
@[simp] theorem setSelfFails_tl (s : State) (c n : Nat) : (s.setSelfFails c n).tl = s.tl := by unfold State.setSelfFails; split <;> rfl
@[simp] theorem setSelfFails_cells (s : State) (c n : Nat) : (s.setSelfFails c n).cells = s.cells := by unfold State.setSelfFails; split <;> rfl
@[simp] theorem setSelfFails_gk (s : State) (c n : Nat) : (s.setSelfFails c n).gk = s.gk := by unfold State.setSelfFails; split <;> rfl
@[simp] theorem setSelfFails_alm (s : State) (c n : Nat) : (s.setSelfFails c n).alm = s.alm := by unfold State.setSelfFails; split <;> rfl
@[simp] theorem setSelfFails_rpl (s : State) (c n : Nat) : (s.setSelfFails c n).rpl = s.rpl := by unfold State.setSelfFails; split <;> rfl
@[simp] theorem setSelfFails_jtag (s : State) (c n : Nat) : (s.setSelfFails c n).jtag = s.jtag := by unfold State.setSelfFails; split <;> rfl
@[simp] theorem setSelfFails_ctr (s : State) (c n : Nat) : (s.setSelfFails c n).ctr = s.ctr := by unfold State.setSelfFails; split <;> rfl
@[simp] theorem setSelfFails_freeCount (s : State) (c n : Nat) : (s.setSelfFails c n).freeCount = s.freeCount := by unfold State.setSelfFails; split <;> rfl
@[simp] theorem setSelfFails_pending (s : State) (c n : Nat) : (s.setSelfFails c n).pending = s.pending := by unfold State.setSelfFails; split <;> rfl

@[simp] theorem onCellStat_clk (s : State) (c : Nat) (f : CellStat → CellStat) : (onCellStat c f s).clk = s.clk := rfl
@[simp] theorem onCellStat_boot (s : State) (c : Nat) (f : CellStat → CellStat) : (onCellStat c f s).boot = s.boot := rfl
@[simp] theorem onCellStat_fuses (s : State) (c : Nat) (f : CellStat → CellStat) : (onCellStat c f s).fuses = s.fuses := rfl
@[simp] theorem onCellStat_flash (s : State) (c : Nat) (f : CellStat → CellStat) : (onCellStat c f s).flash = s.flash := rfl
@[simp] theorem onCellStat_time (s : State) (c : Nat) (f : CellStat → CellStat) : (onCellStat c f s).time = s.time := rfl
@[simp] theorem onCellStat_cues (s : State) (c : Nat) (f : CellStat → CellStat) : (onCellStat c f s).cues = s.cues := rfl
@[simp] theorem onCellStat_kcp (s : State) (c : Nat) (f : CellStat → CellStat) : (onCellStat c f s).kcp = s.kcp := rfl
@[simp] theorem onCellStat_smb (s : State) (c : Nat) (f : CellStat → CellStat) : (onCellStat c f s).smb = s.smb := rfl
@[simp] theorem onCellStat_rwc (s : State) (c : Nat) (f : CellStat → CellStat) : (onCellStat c f s).rwc = s.rwc := rfl
@[simp] theorem onCellStat_pcie (s : State) (c : Nat) (f : CellStat → CellStat) : (onCellStat c f s).pcie = s.pcie := rfl
@[simp] theorem onCellStat_plan (s : State) (c : Nat) (f : CellStat → CellStat) : (onCellStat c f s).plan = s.plan := rfl
@[simp] theorem onCellStat_ingest (s : State) (c : Nat) (f : CellStat → CellStat) : (onCellStat c f s).ingest = s.ingest := rfl
@[simp] theorem onCellStat_xa (s : State) (c : Nat) (f : CellStat → CellStat) : (onCellStat c f s).xa = s.xa := rfl
@[simp] theorem onCellStat_rmw (s : State) (c : Nat) (f : CellStat → CellStat) : (onCellStat c f s).rmw = s.rmw := rfl
@[simp] theorem onCellStat_beams (s : State) (c : Nat) (f : CellStat → CellStat) : (onCellStat c f s).beams = s.beams := rfl
@[simp] theorem onCellStat_riddle (s : State) (c : Nat) (f : CellStat → CellStat) : (onCellStat c f s).riddle = s.riddle := rfl
@[simp] theorem onCellStat_cf (s : State) (c : Nat) (f : CellStat → CellStat) : (onCellStat c f s).cf = s.cf := rfl
@[simp] theorem onCellStat_lanes (s : State) (c : Nat) (f : CellStat → CellStat) : (onCellStat c f s).lanes = s.lanes := rfl
@[simp] theorem onCellStat_mesh (s : State) (c : Nat) (f : CellStat → CellStat) : (onCellStat c f s).mesh = s.mesh := rfl
@[simp] theorem onCellStat_mem (s : State) (c : Nat) (f : CellStat → CellStat) : (onCellStat c f s).mem = s.mem := rfl
@[simp] theorem onCellStat_tl (s : State) (c : Nat) (f : CellStat → CellStat) : (onCellStat c f s).tl = s.tl := rfl
@[simp] theorem onCellStat_sup (s : State) (c : Nat) (f : CellStat → CellStat) : (onCellStat c f s).sup = s.sup := rfl
@[simp] theorem onCellStat_gk (s : State) (c : Nat) (f : CellStat → CellStat) : (onCellStat c f s).gk = s.gk := rfl
@[simp] theorem onCellStat_alm (s : State) (c : Nat) (f : CellStat → CellStat) : (onCellStat c f s).alm = s.alm := rfl
@[simp] theorem onCellStat_rpl (s : State) (c : Nat) (f : CellStat → CellStat) : (onCellStat c f s).rpl = s.rpl := rfl
@[simp] theorem onCellStat_jtag (s : State) (c : Nat) (f : CellStat → CellStat) : (onCellStat c f s).jtag = s.jtag := rfl
@[simp] theorem onCellStat_ctr (s : State) (c : Nat) (f : CellStat → CellStat) : (onCellStat c f s).ctr = s.ctr := rfl
@[simp] theorem onCellStat_freeCount (s : State) (c : Nat) (f : CellStat → CellStat) : (onCellStat c f s).freeCount = s.freeCount := rfl
@[simp] theorem onCellStat_pending (s : State) (c : Nat) (f : CellStat → CellStat) : (onCellStat c f s).pending = s.pending := rfl

@[simp] theorem advanceTo_clk (s : State) (f : Nat) : (s.advanceTo f).clk = s.clk := by unfold State.advanceTo; split <;> rfl
@[simp] theorem advanceTo_boot (s : State) (f : Nat) : (s.advanceTo f).boot = s.boot := by unfold State.advanceTo; split <;> rfl
@[simp] theorem advanceTo_fuses (s : State) (f : Nat) : (s.advanceTo f).fuses = s.fuses := by unfold State.advanceTo; split <;> rfl
@[simp] theorem advanceTo_flash (s : State) (f : Nat) : (s.advanceTo f).flash = s.flash := by unfold State.advanceTo; split <;> rfl
@[simp] theorem advanceTo_cues (s : State) (f : Nat) : (s.advanceTo f).cues = s.cues := by unfold State.advanceTo; split <;> rfl
@[simp] theorem advanceTo_kcp (s : State) (f : Nat) : (s.advanceTo f).kcp = s.kcp := by unfold State.advanceTo; split <;> rfl
@[simp] theorem advanceTo_smb (s : State) (f : Nat) : (s.advanceTo f).smb = s.smb := by unfold State.advanceTo; split <;> rfl
@[simp] theorem advanceTo_rwc (s : State) (f : Nat) : (s.advanceTo f).rwc = s.rwc := by unfold State.advanceTo; split <;> rfl
@[simp] theorem advanceTo_pcie (s : State) (f : Nat) : (s.advanceTo f).pcie = s.pcie := by unfold State.advanceTo; split <;> rfl
@[simp] theorem advanceTo_ingest (s : State) (f : Nat) : (s.advanceTo f).ingest = s.ingest := by unfold State.advanceTo; split <;> rfl
@[simp] theorem advanceTo_xa (s : State) (f : Nat) : (s.advanceTo f).xa = s.xa := by unfold State.advanceTo; split <;> rfl
@[simp] theorem advanceTo_rmw (s : State) (f : Nat) : (s.advanceTo f).rmw = s.rmw := by unfold State.advanceTo; split <;> rfl
@[simp] theorem advanceTo_beams (s : State) (f : Nat) : (s.advanceTo f).beams = s.beams := by unfold State.advanceTo; split <;> rfl
@[simp] theorem advanceTo_riddle (s : State) (f : Nat) : (s.advanceTo f).riddle = s.riddle := by unfold State.advanceTo; split <;> rfl
@[simp] theorem advanceTo_cf (s : State) (f : Nat) : (s.advanceTo f).cf = s.cf := by unfold State.advanceTo; split <;> rfl
@[simp] theorem advanceTo_lanes (s : State) (f : Nat) : (s.advanceTo f).lanes = s.lanes := by unfold State.advanceTo; split <;> rfl
@[simp] theorem advanceTo_mesh (s : State) (f : Nat) : (s.advanceTo f).mesh = s.mesh := by unfold State.advanceTo; split <;> rfl
@[simp] theorem advanceTo_mem (s : State) (f : Nat) : (s.advanceTo f).mem = s.mem := by unfold State.advanceTo; split <;> rfl
@[simp] theorem advanceTo_tl (s : State) (f : Nat) : (s.advanceTo f).tl = s.tl := by unfold State.advanceTo; split <;> rfl
@[simp] theorem advanceTo_cells (s : State) (f : Nat) : (s.advanceTo f).cells = s.cells := by unfold State.advanceTo; split <;> rfl
@[simp] theorem advanceTo_sup (s : State) (f : Nat) : (s.advanceTo f).sup = s.sup := by unfold State.advanceTo; split <;> rfl
@[simp] theorem advanceTo_gk (s : State) (f : Nat) : (s.advanceTo f).gk = s.gk := by unfold State.advanceTo; split <;> rfl
@[simp] theorem advanceTo_alm (s : State) (f : Nat) : (s.advanceTo f).alm = s.alm := by unfold State.advanceTo; split <;> rfl
@[simp] theorem advanceTo_rpl (s : State) (f : Nat) : (s.advanceTo f).rpl = s.rpl := by unfold State.advanceTo; split <;> rfl
@[simp] theorem advanceTo_jtag (s : State) (f : Nat) : (s.advanceTo f).jtag = s.jtag := by unfold State.advanceTo; split <;> rfl
@[simp] theorem advanceTo_ctr (s : State) (f : Nat) : (s.advanceTo f).ctr = s.ctr := by unfold State.advanceTo; split <;> rfl
@[simp] theorem advanceTo_freeCount (s : State) (f : Nat) : (s.advanceTo f).freeCount = s.freeCount := by unfold State.advanceTo; split <;> rfl
@[simp] theorem advanceTo_pending (s : State) (f : Nat) : (s.advanceTo f).pending = s.pending := by unfold State.advanceTo; split <;> rfl

@[simp] theorem waitFor_clk (s : State) (f n : Nat) : (s.waitFor f n).clk = s.clk := by unfold State.waitFor State.advanceTo; split <;> rfl
@[simp] theorem waitFor_boot (s : State) (f n : Nat) : (s.waitFor f n).boot = s.boot := by unfold State.waitFor State.advanceTo; split <;> rfl
@[simp] theorem waitFor_fuses (s : State) (f n : Nat) : (s.waitFor f n).fuses = s.fuses := by unfold State.waitFor State.advanceTo; split <;> rfl
@[simp] theorem waitFor_flash (s : State) (f n : Nat) : (s.waitFor f n).flash = s.flash := by unfold State.waitFor State.advanceTo; split <;> rfl
@[simp] theorem waitFor_cues (s : State) (f n : Nat) : (s.waitFor f n).cues = s.cues := by unfold State.waitFor State.advanceTo; split <;> rfl
@[simp] theorem waitFor_kcp (s : State) (f n : Nat) : (s.waitFor f n).kcp = s.kcp := by unfold State.waitFor State.advanceTo; split <;> rfl
@[simp] theorem waitFor_smb (s : State) (f n : Nat) : (s.waitFor f n).smb = s.smb := by unfold State.waitFor State.advanceTo; split <;> rfl
@[simp] theorem waitFor_rwc (s : State) (f n : Nat) : (s.waitFor f n).rwc = s.rwc := by unfold State.waitFor State.advanceTo; split <;> rfl
@[simp] theorem waitFor_pcie (s : State) (f n : Nat) : (s.waitFor f n).pcie = s.pcie := by unfold State.waitFor State.advanceTo; split <;> rfl
@[simp] theorem waitFor_ingest (s : State) (f n : Nat) : (s.waitFor f n).ingest = s.ingest := by unfold State.waitFor State.advanceTo; split <;> rfl
@[simp] theorem waitFor_xa (s : State) (f n : Nat) : (s.waitFor f n).xa = s.xa := by unfold State.waitFor State.advanceTo; split <;> rfl
@[simp] theorem waitFor_rmw (s : State) (f n : Nat) : (s.waitFor f n).rmw = s.rmw := by unfold State.waitFor State.advanceTo; split <;> rfl
@[simp] theorem waitFor_beams (s : State) (f n : Nat) : (s.waitFor f n).beams = s.beams := by unfold State.waitFor State.advanceTo; split <;> rfl
@[simp] theorem waitFor_riddle (s : State) (f n : Nat) : (s.waitFor f n).riddle = s.riddle := by unfold State.waitFor State.advanceTo; split <;> rfl
@[simp] theorem waitFor_cf (s : State) (f n : Nat) : (s.waitFor f n).cf = s.cf := by unfold State.waitFor State.advanceTo; split <;> rfl
@[simp] theorem waitFor_lanes (s : State) (f n : Nat) : (s.waitFor f n).lanes = s.lanes := by unfold State.waitFor State.advanceTo; split <;> rfl
@[simp] theorem waitFor_mesh (s : State) (f n : Nat) : (s.waitFor f n).mesh = s.mesh := by unfold State.waitFor State.advanceTo; split <;> rfl
@[simp] theorem waitFor_mem (s : State) (f n : Nat) : (s.waitFor f n).mem = s.mem := by unfold State.waitFor State.advanceTo; split <;> rfl
@[simp] theorem waitFor_tl (s : State) (f n : Nat) : (s.waitFor f n).tl = s.tl := by unfold State.waitFor State.advanceTo; split <;> rfl
@[simp] theorem waitFor_cells (s : State) (f n : Nat) : (s.waitFor f n).cells = s.cells := by unfold State.waitFor State.advanceTo; split <;> rfl
@[simp] theorem waitFor_sup (s : State) (f n : Nat) : (s.waitFor f n).sup = s.sup := by unfold State.waitFor State.advanceTo; split <;> rfl
@[simp] theorem waitFor_gk (s : State) (f n : Nat) : (s.waitFor f n).gk = s.gk := by unfold State.waitFor State.advanceTo; split <;> rfl
@[simp] theorem waitFor_alm (s : State) (f n : Nat) : (s.waitFor f n).alm = s.alm := by unfold State.waitFor State.advanceTo; split <;> rfl
@[simp] theorem waitFor_rpl (s : State) (f n : Nat) : (s.waitFor f n).rpl = s.rpl := by unfold State.waitFor State.advanceTo; split <;> rfl
@[simp] theorem waitFor_jtag (s : State) (f n : Nat) : (s.waitFor f n).jtag = s.jtag := by unfold State.waitFor State.advanceTo; split <;> rfl
@[simp] theorem waitFor_ctr (s : State) (f n : Nat) : (s.waitFor f n).ctr = s.ctr := by unfold State.waitFor State.advanceTo; split <;> rfl
@[simp] theorem waitFor_freeCount (s : State) (f n : Nat) : (s.waitFor f n).freeCount = s.freeCount := by unfold State.waitFor State.advanceTo; split <;> rfl
@[simp] theorem waitFor_pending (s : State) (f n : Nat) : (s.waitFor f n).pending = s.pending := by unfold State.waitFor State.advanceTo; split <;> rfl

end Sys2Proof.Laws
end

