-- ==== Sys2Proof/Laws/Frames.lean ====
section
/-! SUPPORT. What the shared operations of the journal, the vectors, the freezes, the health record and the plans leave as it was: one lemma
for each operation and each field that it does not touch. -/

namespace Sys2Proof.Laws
open Sys2Proof Sys2Proof.Machine Sys2Proof.Safety

theorem logs_clk {s t : State} (h : Logs s t) : t.clk = s.clk := by obtain ⟨_, _, _, _, _, rfl⟩ := h; rfl
theorem logs_boot {s t : State} (h : Logs s t) : t.boot = s.boot := by obtain ⟨_, _, _, _, _, rfl⟩ := h; rfl
theorem logs_fuses {s t : State} (h : Logs s t) : t.fuses = s.fuses := by obtain ⟨_, _, _, _, _, rfl⟩ := h; rfl
theorem logs_flash {s t : State} (h : Logs s t) : t.flash = s.flash := by obtain ⟨_, _, _, _, _, rfl⟩ := h; rfl
theorem logs_time {s t : State} (h : Logs s t) : t.time = s.time := by obtain ⟨_, _, _, _, _, rfl⟩ := h; rfl
theorem logs_cues {s t : State} (h : Logs s t) : t.cues = s.cues := by obtain ⟨_, _, _, _, _, rfl⟩ := h; rfl
theorem logs_rwc {s t : State} (h : Logs s t) : t.rwc = s.rwc := by obtain ⟨_, _, _, _, _, rfl⟩ := h; rfl
theorem logs_plan {s t : State} (h : Logs s t) : t.plan = s.plan := by obtain ⟨_, _, _, _, _, rfl⟩ := h; rfl
theorem logs_ingest {s t : State} (h : Logs s t) : t.ingest = s.ingest := by obtain ⟨_, _, _, _, _, rfl⟩ := h; rfl
theorem logs_xa {s t : State} (h : Logs s t) : t.xa = s.xa := by obtain ⟨_, _, _, _, _, rfl⟩ := h; rfl
theorem logs_rmw {s t : State} (h : Logs s t) : t.rmw = s.rmw := by obtain ⟨_, _, _, _, _, rfl⟩ := h; rfl
theorem logs_beams {s t : State} (h : Logs s t) : t.beams = s.beams := by obtain ⟨_, _, _, _, _, rfl⟩ := h; rfl
theorem logs_riddle {s t : State} (h : Logs s t) : t.riddle = s.riddle := by obtain ⟨_, _, _, _, _, rfl⟩ := h; rfl
theorem logs_cf {s t : State} (h : Logs s t) : t.cf = s.cf := by obtain ⟨_, _, _, _, _, rfl⟩ := h; rfl
theorem logs_lanes {s t : State} (h : Logs s t) : t.lanes = s.lanes := by obtain ⟨_, _, _, _, _, rfl⟩ := h; rfl
theorem logs_mesh {s t : State} (h : Logs s t) : t.mesh = s.mesh := by obtain ⟨_, _, _, _, _, rfl⟩ := h; rfl
theorem logs_mem {s t : State} (h : Logs s t) : t.mem = s.mem := by obtain ⟨_, _, _, _, _, rfl⟩ := h; rfl
theorem logs_tl {s t : State} (h : Logs s t) : t.tl = s.tl := by obtain ⟨_, _, _, _, _, rfl⟩ := h; rfl
theorem logs_cells {s t : State} (h : Logs s t) : t.cells = s.cells := by obtain ⟨_, _, _, _, _, rfl⟩ := h; rfl
theorem logs_sup {s t : State} (h : Logs s t) : t.sup = s.sup := by obtain ⟨_, _, _, _, _, rfl⟩ := h; rfl
theorem logs_gk {s t : State} (h : Logs s t) : t.gk = s.gk := by obtain ⟨_, _, _, _, _, rfl⟩ := h; rfl
theorem logs_rpl {s t : State} (h : Logs s t) : t.rpl = s.rpl := by obtain ⟨_, _, _, _, _, rfl⟩ := h; rfl
theorem logs_jtag {s t : State} (h : Logs s t) : t.jtag = s.jtag := by obtain ⟨_, _, _, _, _, rfl⟩ := h; rfl
theorem logs_freeCount {s t : State} (h : Logs s t) : t.freeCount = s.freeCount := by obtain ⟨_, _, _, _, _, rfl⟩ := h; rfl
theorem logs_pending {s t : State} (h : Logs s t) : t.pending = s.pending := by obtain ⟨_, _, _, _, _, rfl⟩ := h; rfl

@[simp] theorem sendVector_clk (v : Nat) (s : State) : (sendVector v s).clk = s.clk := logs_clk (logs_sendVector v s)
@[simp] theorem sendVector_boot (v : Nat) (s : State) : (sendVector v s).boot = s.boot := logs_boot (logs_sendVector v s)
@[simp] theorem sendVector_fuses (v : Nat) (s : State) : (sendVector v s).fuses = s.fuses := logs_fuses (logs_sendVector v s)
@[simp] theorem sendVector_flash (v : Nat) (s : State) : (sendVector v s).flash = s.flash := logs_flash (logs_sendVector v s)
@[simp] theorem sendVector_time (v : Nat) (s : State) : (sendVector v s).time = s.time := logs_time (logs_sendVector v s)
@[simp] theorem sendVector_cues (v : Nat) (s : State) : (sendVector v s).cues = s.cues := logs_cues (logs_sendVector v s)
@[simp] theorem sendVector_rwc (v : Nat) (s : State) : (sendVector v s).rwc = s.rwc := logs_rwc (logs_sendVector v s)
@[simp] theorem sendVector_plan (v : Nat) (s : State) : (sendVector v s).plan = s.plan := logs_plan (logs_sendVector v s)
@[simp] theorem sendVector_ingest (v : Nat) (s : State) : (sendVector v s).ingest = s.ingest := logs_ingest (logs_sendVector v s)
@[simp] theorem sendVector_xa (v : Nat) (s : State) : (sendVector v s).xa = s.xa := logs_xa (logs_sendVector v s)
@[simp] theorem sendVector_rmw (v : Nat) (s : State) : (sendVector v s).rmw = s.rmw := logs_rmw (logs_sendVector v s)
@[simp] theorem sendVector_beams (v : Nat) (s : State) : (sendVector v s).beams = s.beams := logs_beams (logs_sendVector v s)
@[simp] theorem sendVector_riddle (v : Nat) (s : State) : (sendVector v s).riddle = s.riddle := logs_riddle (logs_sendVector v s)
@[simp] theorem sendVector_cf (v : Nat) (s : State) : (sendVector v s).cf = s.cf := logs_cf (logs_sendVector v s)
@[simp] theorem sendVector_lanes (v : Nat) (s : State) : (sendVector v s).lanes = s.lanes := logs_lanes (logs_sendVector v s)
@[simp] theorem sendVector_mesh (v : Nat) (s : State) : (sendVector v s).mesh = s.mesh := logs_mesh (logs_sendVector v s)
@[simp] theorem sendVector_mem (v : Nat) (s : State) : (sendVector v s).mem = s.mem := logs_mem (logs_sendVector v s)
@[simp] theorem sendVector_tl (v : Nat) (s : State) : (sendVector v s).tl = s.tl := logs_tl (logs_sendVector v s)
@[simp] theorem sendVector_cells (v : Nat) (s : State) : (sendVector v s).cells = s.cells := logs_cells (logs_sendVector v s)
@[simp] theorem sendVector_sup (v : Nat) (s : State) : (sendVector v s).sup = s.sup := logs_sup (logs_sendVector v s)
@[simp] theorem sendVector_gk (v : Nat) (s : State) : (sendVector v s).gk = s.gk := logs_gk (logs_sendVector v s)
@[simp] theorem sendVector_rpl (v : Nat) (s : State) : (sendVector v s).rpl = s.rpl := logs_rpl (logs_sendVector v s)
@[simp] theorem sendVector_jtag (v : Nat) (s : State) : (sendVector v s).jtag = s.jtag := logs_jtag (logs_sendVector v s)
@[simp] theorem sendVector_freeCount (v : Nat) (s : State) : (sendVector v s).freeCount = s.freeCount := logs_freeCount (logs_sendVector v s)
@[simp] theorem sendVector_pending (v : Nat) (s : State) : (sendVector v s).pending = s.pending := logs_pending (logs_sendVector v s)

@[simp] theorem raiseEvent_clk (i : Nat) (s : State) : (raiseEvent i s).clk = s.clk := logs_clk (logs_raiseEvent i s)
@[simp] theorem raiseEvent_boot (i : Nat) (s : State) : (raiseEvent i s).boot = s.boot := logs_boot (logs_raiseEvent i s)
@[simp] theorem raiseEvent_fuses (i : Nat) (s : State) : (raiseEvent i s).fuses = s.fuses := logs_fuses (logs_raiseEvent i s)
@[simp] theorem raiseEvent_flash (i : Nat) (s : State) : (raiseEvent i s).flash = s.flash := logs_flash (logs_raiseEvent i s)
@[simp] theorem raiseEvent_time (i : Nat) (s : State) : (raiseEvent i s).time = s.time := logs_time (logs_raiseEvent i s)
@[simp] theorem raiseEvent_cues (i : Nat) (s : State) : (raiseEvent i s).cues = s.cues := logs_cues (logs_raiseEvent i s)
@[simp] theorem raiseEvent_rwc (i : Nat) (s : State) : (raiseEvent i s).rwc = s.rwc := logs_rwc (logs_raiseEvent i s)
@[simp] theorem raiseEvent_plan (i : Nat) (s : State) : (raiseEvent i s).plan = s.plan := logs_plan (logs_raiseEvent i s)
@[simp] theorem raiseEvent_ingest (i : Nat) (s : State) : (raiseEvent i s).ingest = s.ingest := logs_ingest (logs_raiseEvent i s)
@[simp] theorem raiseEvent_xa (i : Nat) (s : State) : (raiseEvent i s).xa = s.xa := logs_xa (logs_raiseEvent i s)
@[simp] theorem raiseEvent_rmw (i : Nat) (s : State) : (raiseEvent i s).rmw = s.rmw := logs_rmw (logs_raiseEvent i s)
@[simp] theorem raiseEvent_beams (i : Nat) (s : State) : (raiseEvent i s).beams = s.beams := logs_beams (logs_raiseEvent i s)
@[simp] theorem raiseEvent_riddle (i : Nat) (s : State) : (raiseEvent i s).riddle = s.riddle := logs_riddle (logs_raiseEvent i s)
@[simp] theorem raiseEvent_cf (i : Nat) (s : State) : (raiseEvent i s).cf = s.cf := logs_cf (logs_raiseEvent i s)
@[simp] theorem raiseEvent_lanes (i : Nat) (s : State) : (raiseEvent i s).lanes = s.lanes := logs_lanes (logs_raiseEvent i s)
@[simp] theorem raiseEvent_mesh (i : Nat) (s : State) : (raiseEvent i s).mesh = s.mesh := logs_mesh (logs_raiseEvent i s)
@[simp] theorem raiseEvent_mem (i : Nat) (s : State) : (raiseEvent i s).mem = s.mem := logs_mem (logs_raiseEvent i s)
@[simp] theorem raiseEvent_tl (i : Nat) (s : State) : (raiseEvent i s).tl = s.tl := logs_tl (logs_raiseEvent i s)
@[simp] theorem raiseEvent_cells (i : Nat) (s : State) : (raiseEvent i s).cells = s.cells := logs_cells (logs_raiseEvent i s)
@[simp] theorem raiseEvent_sup (i : Nat) (s : State) : (raiseEvent i s).sup = s.sup := logs_sup (logs_raiseEvent i s)
@[simp] theorem raiseEvent_gk (i : Nat) (s : State) : (raiseEvent i s).gk = s.gk := logs_gk (logs_raiseEvent i s)
@[simp] theorem raiseEvent_rpl (i : Nat) (s : State) : (raiseEvent i s).rpl = s.rpl := logs_rpl (logs_raiseEvent i s)
@[simp] theorem raiseEvent_jtag (i : Nat) (s : State) : (raiseEvent i s).jtag = s.jtag := logs_jtag (logs_raiseEvent i s)
@[simp] theorem raiseEvent_freeCount (i : Nat) (s : State) : (raiseEvent i s).freeCount = s.freeCount := logs_freeCount (logs_raiseEvent i s)
@[simp] theorem raiseEvent_pending (i : Nat) (s : State) : (raiseEvent i s).pending = s.pending := logs_pending (logs_raiseEvent i s)

@[simp] theorem hostWrite_clk (a : Nat) (bs : List Byte) (s : State) : (hostWrite a bs s).clk = s.clk := logs_clk (logs_hostWrite a bs s)
@[simp] theorem hostWrite_boot (a : Nat) (bs : List Byte) (s : State) : (hostWrite a bs s).boot = s.boot := logs_boot (logs_hostWrite a bs s)
@[simp] theorem hostWrite_fuses (a : Nat) (bs : List Byte) (s : State) : (hostWrite a bs s).fuses = s.fuses := logs_fuses (logs_hostWrite a bs s)
@[simp] theorem hostWrite_flash (a : Nat) (bs : List Byte) (s : State) : (hostWrite a bs s).flash = s.flash := logs_flash (logs_hostWrite a bs s)
@[simp] theorem hostWrite_time (a : Nat) (bs : List Byte) (s : State) : (hostWrite a bs s).time = s.time := logs_time (logs_hostWrite a bs s)
@[simp] theorem hostWrite_cues (a : Nat) (bs : List Byte) (s : State) : (hostWrite a bs s).cues = s.cues := logs_cues (logs_hostWrite a bs s)
@[simp] theorem hostWrite_rwc (a : Nat) (bs : List Byte) (s : State) : (hostWrite a bs s).rwc = s.rwc := logs_rwc (logs_hostWrite a bs s)
@[simp] theorem hostWrite_plan (a : Nat) (bs : List Byte) (s : State) : (hostWrite a bs s).plan = s.plan := logs_plan (logs_hostWrite a bs s)
@[simp] theorem hostWrite_ingest (a : Nat) (bs : List Byte) (s : State) : (hostWrite a bs s).ingest = s.ingest := logs_ingest (logs_hostWrite a bs s)
@[simp] theorem hostWrite_xa (a : Nat) (bs : List Byte) (s : State) : (hostWrite a bs s).xa = s.xa := logs_xa (logs_hostWrite a bs s)
@[simp] theorem hostWrite_rmw (a : Nat) (bs : List Byte) (s : State) : (hostWrite a bs s).rmw = s.rmw := logs_rmw (logs_hostWrite a bs s)
@[simp] theorem hostWrite_beams (a : Nat) (bs : List Byte) (s : State) : (hostWrite a bs s).beams = s.beams := logs_beams (logs_hostWrite a bs s)
@[simp] theorem hostWrite_riddle (a : Nat) (bs : List Byte) (s : State) : (hostWrite a bs s).riddle = s.riddle := logs_riddle (logs_hostWrite a bs s)
@[simp] theorem hostWrite_cf (a : Nat) (bs : List Byte) (s : State) : (hostWrite a bs s).cf = s.cf := logs_cf (logs_hostWrite a bs s)
@[simp] theorem hostWrite_lanes (a : Nat) (bs : List Byte) (s : State) : (hostWrite a bs s).lanes = s.lanes := logs_lanes (logs_hostWrite a bs s)
@[simp] theorem hostWrite_mesh (a : Nat) (bs : List Byte) (s : State) : (hostWrite a bs s).mesh = s.mesh := logs_mesh (logs_hostWrite a bs s)
@[simp] theorem hostWrite_mem (a : Nat) (bs : List Byte) (s : State) : (hostWrite a bs s).mem = s.mem := logs_mem (logs_hostWrite a bs s)
@[simp] theorem hostWrite_tl (a : Nat) (bs : List Byte) (s : State) : (hostWrite a bs s).tl = s.tl := logs_tl (logs_hostWrite a bs s)
@[simp] theorem hostWrite_cells (a : Nat) (bs : List Byte) (s : State) : (hostWrite a bs s).cells = s.cells := logs_cells (logs_hostWrite a bs s)
@[simp] theorem hostWrite_sup (a : Nat) (bs : List Byte) (s : State) : (hostWrite a bs s).sup = s.sup := logs_sup (logs_hostWrite a bs s)
@[simp] theorem hostWrite_gk (a : Nat) (bs : List Byte) (s : State) : (hostWrite a bs s).gk = s.gk := logs_gk (logs_hostWrite a bs s)
@[simp] theorem hostWrite_rpl (a : Nat) (bs : List Byte) (s : State) : (hostWrite a bs s).rpl = s.rpl := logs_rpl (logs_hostWrite a bs s)
@[simp] theorem hostWrite_jtag (a : Nat) (bs : List Byte) (s : State) : (hostWrite a bs s).jtag = s.jtag := logs_jtag (logs_hostWrite a bs s)
@[simp] theorem hostWrite_freeCount (a : Nat) (bs : List Byte) (s : State) : (hostWrite a bs s).freeCount = s.freeCount := logs_freeCount (logs_hostWrite a bs s)
@[simp] theorem hostWrite_pending (a : Nat) (bs : List Byte) (s : State) : (hostWrite a bs s).pending = s.pending := logs_pending (logs_hostWrite a bs s)

@[simp] theorem startTransfer_clk (x : Transfer) (s : State) : (startTransfer x s).clk = s.clk := logs_clk (logs_startTransfer x s)
@[simp] theorem startTransfer_boot (x : Transfer) (s : State) : (startTransfer x s).boot = s.boot := logs_boot (logs_startTransfer x s)
@[simp] theorem startTransfer_fuses (x : Transfer) (s : State) : (startTransfer x s).fuses = s.fuses := logs_fuses (logs_startTransfer x s)
@[simp] theorem startTransfer_flash (x : Transfer) (s : State) : (startTransfer x s).flash = s.flash := logs_flash (logs_startTransfer x s)
@[simp] theorem startTransfer_time (x : Transfer) (s : State) : (startTransfer x s).time = s.time := logs_time (logs_startTransfer x s)
@[simp] theorem startTransfer_cues (x : Transfer) (s : State) : (startTransfer x s).cues = s.cues := logs_cues (logs_startTransfer x s)
@[simp] theorem startTransfer_rwc (x : Transfer) (s : State) : (startTransfer x s).rwc = s.rwc := logs_rwc (logs_startTransfer x s)
@[simp] theorem startTransfer_plan (x : Transfer) (s : State) : (startTransfer x s).plan = s.plan := logs_plan (logs_startTransfer x s)
@[simp] theorem startTransfer_ingest (x : Transfer) (s : State) : (startTransfer x s).ingest = s.ingest := logs_ingest (logs_startTransfer x s)
@[simp] theorem startTransfer_xa (x : Transfer) (s : State) : (startTransfer x s).xa = s.xa := logs_xa (logs_startTransfer x s)
@[simp] theorem startTransfer_rmw (x : Transfer) (s : State) : (startTransfer x s).rmw = s.rmw := logs_rmw (logs_startTransfer x s)
@[simp] theorem startTransfer_beams (x : Transfer) (s : State) : (startTransfer x s).beams = s.beams := logs_beams (logs_startTransfer x s)
@[simp] theorem startTransfer_riddle (x : Transfer) (s : State) : (startTransfer x s).riddle = s.riddle := logs_riddle (logs_startTransfer x s)
@[simp] theorem startTransfer_cf (x : Transfer) (s : State) : (startTransfer x s).cf = s.cf := logs_cf (logs_startTransfer x s)
@[simp] theorem startTransfer_lanes (x : Transfer) (s : State) : (startTransfer x s).lanes = s.lanes := logs_lanes (logs_startTransfer x s)
@[simp] theorem startTransfer_mesh (x : Transfer) (s : State) : (startTransfer x s).mesh = s.mesh := logs_mesh (logs_startTransfer x s)
@[simp] theorem startTransfer_mem (x : Transfer) (s : State) : (startTransfer x s).mem = s.mem := logs_mem (logs_startTransfer x s)
@[simp] theorem startTransfer_tl (x : Transfer) (s : State) : (startTransfer x s).tl = s.tl := logs_tl (logs_startTransfer x s)
@[simp] theorem startTransfer_cells (x : Transfer) (s : State) : (startTransfer x s).cells = s.cells := logs_cells (logs_startTransfer x s)
@[simp] theorem startTransfer_sup (x : Transfer) (s : State) : (startTransfer x s).sup = s.sup := logs_sup (logs_startTransfer x s)
@[simp] theorem startTransfer_gk (x : Transfer) (s : State) : (startTransfer x s).gk = s.gk := logs_gk (logs_startTransfer x s)
@[simp] theorem startTransfer_rpl (x : Transfer) (s : State) : (startTransfer x s).rpl = s.rpl := logs_rpl (logs_startTransfer x s)
@[simp] theorem startTransfer_jtag (x : Transfer) (s : State) : (startTransfer x s).jtag = s.jtag := logs_jtag (logs_startTransfer x s)
@[simp] theorem startTransfer_freeCount (x : Transfer) (s : State) : (startTransfer x s).freeCount = s.freeCount := logs_freeCount (logs_startTransfer x s)
@[simp] theorem startTransfer_pending (x : Transfer) (s : State) : (startTransfer x s).pending = s.pending := logs_pending (logs_startTransfer x s)

@[simp] theorem record_clk (ty src : Nat) (body : List Byte) (s : State) (fl : Nat) : (record ty src body s fl).clk = s.clk := logs_clk (logs_record ty src body s fl)
@[simp] theorem record_boot (ty src : Nat) (body : List Byte) (s : State) (fl : Nat) : (record ty src body s fl).boot = s.boot := logs_boot (logs_record ty src body s fl)
@[simp] theorem record_fuses (ty src : Nat) (body : List Byte) (s : State) (fl : Nat) : (record ty src body s fl).fuses = s.fuses := logs_fuses (logs_record ty src body s fl)
@[simp] theorem record_flash (ty src : Nat) (body : List Byte) (s : State) (fl : Nat) : (record ty src body s fl).flash = s.flash := logs_flash (logs_record ty src body s fl)
@[simp] theorem record_time (ty src : Nat) (body : List Byte) (s : State) (fl : Nat) : (record ty src body s fl).time = s.time := logs_time (logs_record ty src body s fl)
@[simp] theorem record_cues (ty src : Nat) (body : List Byte) (s : State) (fl : Nat) : (record ty src body s fl).cues = s.cues := logs_cues (logs_record ty src body s fl)
@[simp] theorem record_rwc (ty src : Nat) (body : List Byte) (s : State) (fl : Nat) : (record ty src body s fl).rwc = s.rwc := logs_rwc (logs_record ty src body s fl)
@[simp] theorem record_plan (ty src : Nat) (body : List Byte) (s : State) (fl : Nat) : (record ty src body s fl).plan = s.plan := logs_plan (logs_record ty src body s fl)
@[simp] theorem record_ingest (ty src : Nat) (body : List Byte) (s : State) (fl : Nat) : (record ty src body s fl).ingest = s.ingest := logs_ingest (logs_record ty src body s fl)
@[simp] theorem record_xa (ty src : Nat) (body : List Byte) (s : State) (fl : Nat) : (record ty src body s fl).xa = s.xa := logs_xa (logs_record ty src body s fl)
@[simp] theorem record_rmw (ty src : Nat) (body : List Byte) (s : State) (fl : Nat) : (record ty src body s fl).rmw = s.rmw := logs_rmw (logs_record ty src body s fl)
@[simp] theorem record_beams (ty src : Nat) (body : List Byte) (s : State) (fl : Nat) : (record ty src body s fl).beams = s.beams := logs_beams (logs_record ty src body s fl)
@[simp] theorem record_riddle (ty src : Nat) (body : List Byte) (s : State) (fl : Nat) : (record ty src body s fl).riddle = s.riddle := logs_riddle (logs_record ty src body s fl)
@[simp] theorem record_cf (ty src : Nat) (body : List Byte) (s : State) (fl : Nat) : (record ty src body s fl).cf = s.cf := logs_cf (logs_record ty src body s fl)
@[simp] theorem record_lanes (ty src : Nat) (body : List Byte) (s : State) (fl : Nat) : (record ty src body s fl).lanes = s.lanes := logs_lanes (logs_record ty src body s fl)
@[simp] theorem record_mesh (ty src : Nat) (body : List Byte) (s : State) (fl : Nat) : (record ty src body s fl).mesh = s.mesh := logs_mesh (logs_record ty src body s fl)
@[simp] theorem record_mem (ty src : Nat) (body : List Byte) (s : State) (fl : Nat) : (record ty src body s fl).mem = s.mem := logs_mem (logs_record ty src body s fl)
@[simp] theorem record_tl (ty src : Nat) (body : List Byte) (s : State) (fl : Nat) : (record ty src body s fl).tl = s.tl := logs_tl (logs_record ty src body s fl)
@[simp] theorem record_cells (ty src : Nat) (body : List Byte) (s : State) (fl : Nat) : (record ty src body s fl).cells = s.cells := logs_cells (logs_record ty src body s fl)
@[simp] theorem record_sup (ty src : Nat) (body : List Byte) (s : State) (fl : Nat) : (record ty src body s fl).sup = s.sup := logs_sup (logs_record ty src body s fl)
@[simp] theorem record_gk (ty src : Nat) (body : List Byte) (s : State) (fl : Nat) : (record ty src body s fl).gk = s.gk := logs_gk (logs_record ty src body s fl)
@[simp] theorem record_rpl (ty src : Nat) (body : List Byte) (s : State) (fl : Nat) : (record ty src body s fl).rpl = s.rpl := logs_rpl (logs_record ty src body s fl)
@[simp] theorem record_jtag (ty src : Nat) (body : List Byte) (s : State) (fl : Nat) : (record ty src body s fl).jtag = s.jtag := logs_jtag (logs_record ty src body s fl)
@[simp] theorem record_freeCount (ty src : Nat) (body : List Byte) (s : State) (fl : Nat) : (record ty src body s fl).freeCount = s.freeCount := logs_freeCount (logs_record ty src body s fl)
@[simp] theorem record_pending (ty src : Nat) (body : List Byte) (s : State) (fl : Nat) : (record ty src body s fl).pending = s.pending := logs_pending (logs_record ty src body s fl)

@[simp] theorem acceptRecord_clk (r : AlmRec) (s : State) : (acceptRecord r s).clk = s.clk := logs_clk (logs_acceptRecord r s)
@[simp] theorem acceptRecord_boot (r : AlmRec) (s : State) : (acceptRecord r s).boot = s.boot := logs_boot (logs_acceptRecord r s)
@[simp] theorem acceptRecord_fuses (r : AlmRec) (s : State) : (acceptRecord r s).fuses = s.fuses := logs_fuses (logs_acceptRecord r s)
@[simp] theorem acceptRecord_flash (r : AlmRec) (s : State) : (acceptRecord r s).flash = s.flash := logs_flash (logs_acceptRecord r s)
@[simp] theorem acceptRecord_time (r : AlmRec) (s : State) : (acceptRecord r s).time = s.time := logs_time (logs_acceptRecord r s)
@[simp] theorem acceptRecord_cues (r : AlmRec) (s : State) : (acceptRecord r s).cues = s.cues := logs_cues (logs_acceptRecord r s)
@[simp] theorem acceptRecord_rwc (r : AlmRec) (s : State) : (acceptRecord r s).rwc = s.rwc := logs_rwc (logs_acceptRecord r s)
@[simp] theorem acceptRecord_plan (r : AlmRec) (s : State) : (acceptRecord r s).plan = s.plan := logs_plan (logs_acceptRecord r s)
@[simp] theorem acceptRecord_ingest (r : AlmRec) (s : State) : (acceptRecord r s).ingest = s.ingest := logs_ingest (logs_acceptRecord r s)
@[simp] theorem acceptRecord_xa (r : AlmRec) (s : State) : (acceptRecord r s).xa = s.xa := logs_xa (logs_acceptRecord r s)
@[simp] theorem acceptRecord_rmw (r : AlmRec) (s : State) : (acceptRecord r s).rmw = s.rmw := logs_rmw (logs_acceptRecord r s)
@[simp] theorem acceptRecord_beams (r : AlmRec) (s : State) : (acceptRecord r s).beams = s.beams := logs_beams (logs_acceptRecord r s)
@[simp] theorem acceptRecord_riddle (r : AlmRec) (s : State) : (acceptRecord r s).riddle = s.riddle := logs_riddle (logs_acceptRecord r s)
@[simp] theorem acceptRecord_cf (r : AlmRec) (s : State) : (acceptRecord r s).cf = s.cf := logs_cf (logs_acceptRecord r s)
@[simp] theorem acceptRecord_lanes (r : AlmRec) (s : State) : (acceptRecord r s).lanes = s.lanes := logs_lanes (logs_acceptRecord r s)
@[simp] theorem acceptRecord_mesh (r : AlmRec) (s : State) : (acceptRecord r s).mesh = s.mesh := logs_mesh (logs_acceptRecord r s)
@[simp] theorem acceptRecord_mem (r : AlmRec) (s : State) : (acceptRecord r s).mem = s.mem := logs_mem (logs_acceptRecord r s)
@[simp] theorem acceptRecord_tl (r : AlmRec) (s : State) : (acceptRecord r s).tl = s.tl := logs_tl (logs_acceptRecord r s)
@[simp] theorem acceptRecord_cells (r : AlmRec) (s : State) : (acceptRecord r s).cells = s.cells := logs_cells (logs_acceptRecord r s)
@[simp] theorem acceptRecord_sup (r : AlmRec) (s : State) : (acceptRecord r s).sup = s.sup := logs_sup (logs_acceptRecord r s)
@[simp] theorem acceptRecord_gk (r : AlmRec) (s : State) : (acceptRecord r s).gk = s.gk := logs_gk (logs_acceptRecord r s)
@[simp] theorem acceptRecord_rpl (r : AlmRec) (s : State) : (acceptRecord r s).rpl = s.rpl := logs_rpl (logs_acceptRecord r s)
@[simp] theorem acceptRecord_jtag (r : AlmRec) (s : State) : (acceptRecord r s).jtag = s.jtag := logs_jtag (logs_acceptRecord r s)
@[simp] theorem acceptRecord_freeCount (r : AlmRec) (s : State) : (acceptRecord r s).freeCount = s.freeCount := logs_freeCount (logs_acceptRecord r s)
@[simp] theorem acceptRecord_pending (r : AlmRec) (s : State) : (acceptRecord r s).pending = s.pending := logs_pending (logs_acceptRecord r s)

@[simp] theorem journalFault_clk (a b c d e f : Nat) (s : State) : (journalFault a b c d e f s).clk = s.clk := logs_clk ((logs_record _ _ _ _ _).trans (logs_raiseEvent 14 _))
@[simp] theorem journalFault_boot (a b c d e f : Nat) (s : State) : (journalFault a b c d e f s).boot = s.boot := logs_boot ((logs_record _ _ _ _ _).trans (logs_raiseEvent 14 _))
@[simp] theorem journalFault_fuses (a b c d e f : Nat) (s : State) : (journalFault a b c d e f s).fuses = s.fuses := logs_fuses ((logs_record _ _ _ _ _).trans (logs_raiseEvent 14 _))
@[simp] theorem journalFault_flash (a b c d e f : Nat) (s : State) : (journalFault a b c d e f s).flash = s.flash := logs_flash ((logs_record _ _ _ _ _).trans (logs_raiseEvent 14 _))
@[simp] theorem journalFault_time (a b c d e f : Nat) (s : State) : (journalFault a b c d e f s).time = s.time := logs_time ((logs_record _ _ _ _ _).trans (logs_raiseEvent 14 _))
@[simp] theorem journalFault_cues (a b c d e f : Nat) (s : State) : (journalFault a b c d e f s).cues = s.cues := logs_cues ((logs_record _ _ _ _ _).trans (logs_raiseEvent 14 _))
@[simp] theorem journalFault_rwc (a b c d e f : Nat) (s : State) : (journalFault a b c d e f s).rwc = s.rwc := logs_rwc ((logs_record _ _ _ _ _).trans (logs_raiseEvent 14 _))
@[simp] theorem journalFault_plan (a b c d e f : Nat) (s : State) : (journalFault a b c d e f s).plan = s.plan := logs_plan ((logs_record _ _ _ _ _).trans (logs_raiseEvent 14 _))
@[simp] theorem journalFault_ingest (a b c d e f : Nat) (s : State) : (journalFault a b c d e f s).ingest = s.ingest := logs_ingest ((logs_record _ _ _ _ _).trans (logs_raiseEvent 14 _))
@[simp] theorem journalFault_xa (a b c d e f : Nat) (s : State) : (journalFault a b c d e f s).xa = s.xa := logs_xa ((logs_record _ _ _ _ _).trans (logs_raiseEvent 14 _))
@[simp] theorem journalFault_rmw (a b c d e f : Nat) (s : State) : (journalFault a b c d e f s).rmw = s.rmw := logs_rmw ((logs_record _ _ _ _ _).trans (logs_raiseEvent 14 _))
@[simp] theorem journalFault_beams (a b c d e f : Nat) (s : State) : (journalFault a b c d e f s).beams = s.beams := logs_beams ((logs_record _ _ _ _ _).trans (logs_raiseEvent 14 _))
@[simp] theorem journalFault_riddle (a b c d e f : Nat) (s : State) : (journalFault a b c d e f s).riddle = s.riddle := logs_riddle ((logs_record _ _ _ _ _).trans (logs_raiseEvent 14 _))
@[simp] theorem journalFault_cf (a b c d e f : Nat) (s : State) : (journalFault a b c d e f s).cf = s.cf := logs_cf ((logs_record _ _ _ _ _).trans (logs_raiseEvent 14 _))
@[simp] theorem journalFault_lanes (a b c d e f : Nat) (s : State) : (journalFault a b c d e f s).lanes = s.lanes := logs_lanes ((logs_record _ _ _ _ _).trans (logs_raiseEvent 14 _))
@[simp] theorem journalFault_mesh (a b c d e f : Nat) (s : State) : (journalFault a b c d e f s).mesh = s.mesh := logs_mesh ((logs_record _ _ _ _ _).trans (logs_raiseEvent 14 _))
@[simp] theorem journalFault_mem (a b c d e f : Nat) (s : State) : (journalFault a b c d e f s).mem = s.mem := logs_mem ((logs_record _ _ _ _ _).trans (logs_raiseEvent 14 _))
@[simp] theorem journalFault_tl (a b c d e f : Nat) (s : State) : (journalFault a b c d e f s).tl = s.tl := logs_tl ((logs_record _ _ _ _ _).trans (logs_raiseEvent 14 _))
@[simp] theorem journalFault_cells (a b c d e f : Nat) (s : State) : (journalFault a b c d e f s).cells = s.cells := logs_cells ((logs_record _ _ _ _ _).trans (logs_raiseEvent 14 _))
@[simp] theorem journalFault_sup (a b c d e f : Nat) (s : State) : (journalFault a b c d e f s).sup = s.sup := logs_sup ((logs_record _ _ _ _ _).trans (logs_raiseEvent 14 _))
@[simp] theorem journalFault_gk (a b c d e f : Nat) (s : State) : (journalFault a b c d e f s).gk = s.gk := logs_gk ((logs_record _ _ _ _ _).trans (logs_raiseEvent 14 _))
@[simp] theorem journalFault_rpl (a b c d e f : Nat) (s : State) : (journalFault a b c d e f s).rpl = s.rpl := logs_rpl ((logs_record _ _ _ _ _).trans (logs_raiseEvent 14 _))
@[simp] theorem journalFault_jtag (a b c d e f : Nat) (s : State) : (journalFault a b c d e f s).jtag = s.jtag := logs_jtag ((logs_record _ _ _ _ _).trans (logs_raiseEvent 14 _))
@[simp] theorem journalFault_freeCount (a b c d e f : Nat) (s : State) : (journalFault a b c d e f s).freeCount = s.freeCount := logs_freeCount ((logs_record _ _ _ _ _).trans (logs_raiseEvent 14 _))
@[simp] theorem journalFault_pending (a b c d e f : Nat) (s : State) : (journalFault a b c d e f s).pending = s.pending := logs_pending ((logs_record _ _ _ _ _).trans (logs_raiseEvent 14 _))

@[simp] theorem journalEvent_clk (a b c d e f : Nat) (s : State) : (journalEvent a b c d e f s).clk = s.clk := logs_clk (logs_record _ _ _ _ _)
@[simp] theorem journalEvent_boot (a b c d e f : Nat) (s : State) : (journalEvent a b c d e f s).boot = s.boot := logs_boot (logs_record _ _ _ _ _)
@[simp] theorem journalEvent_fuses (a b c d e f : Nat) (s : State) : (journalEvent a b c d e f s).fuses = s.fuses := logs_fuses (logs_record _ _ _ _ _)
@[simp] theorem journalEvent_flash (a b c d e f : Nat) (s : State) : (journalEvent a b c d e f s).flash = s.flash := logs_flash (logs_record _ _ _ _ _)
@[simp] theorem journalEvent_time (a b c d e f : Nat) (s : State) : (journalEvent a b c d e f s).time = s.time := logs_time (logs_record _ _ _ _ _)
@[simp] theorem journalEvent_cues (a b c d e f : Nat) (s : State) : (journalEvent a b c d e f s).cues = s.cues := logs_cues (logs_record _ _ _ _ _)
@[simp] theorem journalEvent_rwc (a b c d e f : Nat) (s : State) : (journalEvent a b c d e f s).rwc = s.rwc := logs_rwc (logs_record _ _ _ _ _)
@[simp] theorem journalEvent_plan (a b c d e f : Nat) (s : State) : (journalEvent a b c d e f s).plan = s.plan := logs_plan (logs_record _ _ _ _ _)
@[simp] theorem journalEvent_ingest (a b c d e f : Nat) (s : State) : (journalEvent a b c d e f s).ingest = s.ingest := logs_ingest (logs_record _ _ _ _ _)
@[simp] theorem journalEvent_xa (a b c d e f : Nat) (s : State) : (journalEvent a b c d e f s).xa = s.xa := logs_xa (logs_record _ _ _ _ _)
@[simp] theorem journalEvent_rmw (a b c d e f : Nat) (s : State) : (journalEvent a b c d e f s).rmw = s.rmw := logs_rmw (logs_record _ _ _ _ _)
@[simp] theorem journalEvent_beams (a b c d e f : Nat) (s : State) : (journalEvent a b c d e f s).beams = s.beams := logs_beams (logs_record _ _ _ _ _)
@[simp] theorem journalEvent_riddle (a b c d e f : Nat) (s : State) : (journalEvent a b c d e f s).riddle = s.riddle := logs_riddle (logs_record _ _ _ _ _)
@[simp] theorem journalEvent_cf (a b c d e f : Nat) (s : State) : (journalEvent a b c d e f s).cf = s.cf := logs_cf (logs_record _ _ _ _ _)
@[simp] theorem journalEvent_lanes (a b c d e f : Nat) (s : State) : (journalEvent a b c d e f s).lanes = s.lanes := logs_lanes (logs_record _ _ _ _ _)
@[simp] theorem journalEvent_mesh (a b c d e f : Nat) (s : State) : (journalEvent a b c d e f s).mesh = s.mesh := logs_mesh (logs_record _ _ _ _ _)
@[simp] theorem journalEvent_mem (a b c d e f : Nat) (s : State) : (journalEvent a b c d e f s).mem = s.mem := logs_mem (logs_record _ _ _ _ _)
@[simp] theorem journalEvent_tl (a b c d e f : Nat) (s : State) : (journalEvent a b c d e f s).tl = s.tl := logs_tl (logs_record _ _ _ _ _)
@[simp] theorem journalEvent_cells (a b c d e f : Nat) (s : State) : (journalEvent a b c d e f s).cells = s.cells := logs_cells (logs_record _ _ _ _ _)
@[simp] theorem journalEvent_sup (a b c d e f : Nat) (s : State) : (journalEvent a b c d e f s).sup = s.sup := logs_sup (logs_record _ _ _ _ _)
@[simp] theorem journalEvent_gk (a b c d e f : Nat) (s : State) : (journalEvent a b c d e f s).gk = s.gk := logs_gk (logs_record _ _ _ _ _)
@[simp] theorem journalEvent_rpl (a b c d e f : Nat) (s : State) : (journalEvent a b c d e f s).rpl = s.rpl := logs_rpl (logs_record _ _ _ _ _)
@[simp] theorem journalEvent_jtag (a b c d e f : Nat) (s : State) : (journalEvent a b c d e f s).jtag = s.jtag := logs_jtag (logs_record _ _ _ _ _)
@[simp] theorem journalEvent_freeCount (a b c d e f : Nat) (s : State) : (journalEvent a b c d e f s).freeCount = s.freeCount := logs_freeCount (logs_record _ _ _ _ _)
@[simp] theorem journalEvent_pending (a b c d e f : Nat) (s : State) : (journalEvent a b c d e f s).pending = s.pending := logs_pending (logs_record _ _ _ _ _)

@[simp] theorem journalSpare_clk (a b c d e : Nat) (s : State) : (journalSpare a b c d e s).clk = s.clk := logs_clk (logs_record _ _ _ _ _)
@[simp] theorem journalSpare_boot (a b c d e : Nat) (s : State) : (journalSpare a b c d e s).boot = s.boot := logs_boot (logs_record _ _ _ _ _)
@[simp] theorem journalSpare_fuses (a b c d e : Nat) (s : State) : (journalSpare a b c d e s).fuses = s.fuses := logs_fuses (logs_record _ _ _ _ _)
@[simp] theorem journalSpare_flash (a b c d e : Nat) (s : State) : (journalSpare a b c d e s).flash = s.flash := logs_flash (logs_record _ _ _ _ _)
@[simp] theorem journalSpare_time (a b c d e : Nat) (s : State) : (journalSpare a b c d e s).time = s.time := logs_time (logs_record _ _ _ _ _)
@[simp] theorem journalSpare_cues (a b c d e : Nat) (s : State) : (journalSpare a b c d e s).cues = s.cues := logs_cues (logs_record _ _ _ _ _)
@[simp] theorem journalSpare_rwc (a b c d e : Nat) (s : State) : (journalSpare a b c d e s).rwc = s.rwc := logs_rwc (logs_record _ _ _ _ _)
@[simp] theorem journalSpare_plan (a b c d e : Nat) (s : State) : (journalSpare a b c d e s).plan = s.plan := logs_plan (logs_record _ _ _ _ _)
@[simp] theorem journalSpare_ingest (a b c d e : Nat) (s : State) : (journalSpare a b c d e s).ingest = s.ingest := logs_ingest (logs_record _ _ _ _ _)
@[simp] theorem journalSpare_xa (a b c d e : Nat) (s : State) : (journalSpare a b c d e s).xa = s.xa := logs_xa (logs_record _ _ _ _ _)
@[simp] theorem journalSpare_rmw (a b c d e : Nat) (s : State) : (journalSpare a b c d e s).rmw = s.rmw := logs_rmw (logs_record _ _ _ _ _)
@[simp] theorem journalSpare_beams (a b c d e : Nat) (s : State) : (journalSpare a b c d e s).beams = s.beams := logs_beams (logs_record _ _ _ _ _)
@[simp] theorem journalSpare_riddle (a b c d e : Nat) (s : State) : (journalSpare a b c d e s).riddle = s.riddle := logs_riddle (logs_record _ _ _ _ _)
@[simp] theorem journalSpare_cf (a b c d e : Nat) (s : State) : (journalSpare a b c d e s).cf = s.cf := logs_cf (logs_record _ _ _ _ _)
@[simp] theorem journalSpare_lanes (a b c d e : Nat) (s : State) : (journalSpare a b c d e s).lanes = s.lanes := logs_lanes (logs_record _ _ _ _ _)
@[simp] theorem journalSpare_mesh (a b c d e : Nat) (s : State) : (journalSpare a b c d e s).mesh = s.mesh := logs_mesh (logs_record _ _ _ _ _)
@[simp] theorem journalSpare_mem (a b c d e : Nat) (s : State) : (journalSpare a b c d e s).mem = s.mem := logs_mem (logs_record _ _ _ _ _)
@[simp] theorem journalSpare_tl (a b c d e : Nat) (s : State) : (journalSpare a b c d e s).tl = s.tl := logs_tl (logs_record _ _ _ _ _)
@[simp] theorem journalSpare_cells (a b c d e : Nat) (s : State) : (journalSpare a b c d e s).cells = s.cells := logs_cells (logs_record _ _ _ _ _)
@[simp] theorem journalSpare_sup (a b c d e : Nat) (s : State) : (journalSpare a b c d e s).sup = s.sup := logs_sup (logs_record _ _ _ _ _)
@[simp] theorem journalSpare_gk (a b c d e : Nat) (s : State) : (journalSpare a b c d e s).gk = s.gk := logs_gk (logs_record _ _ _ _ _)
@[simp] theorem journalSpare_rpl (a b c d e : Nat) (s : State) : (journalSpare a b c d e s).rpl = s.rpl := logs_rpl (logs_record _ _ _ _ _)
@[simp] theorem journalSpare_jtag (a b c d e : Nat) (s : State) : (journalSpare a b c d e s).jtag = s.jtag := logs_jtag (logs_record _ _ _ _ _)
@[simp] theorem journalSpare_freeCount (a b c d e : Nat) (s : State) : (journalSpare a b c d e s).freeCount = s.freeCount := logs_freeCount (logs_record _ _ _ _ _)
@[simp] theorem journalSpare_pending (a b c d e : Nat) (s : State) : (journalSpare a b c d e s).pending = s.pending := logs_pending (logs_record _ _ _ _ _)

@[simp] theorem journalLane_clk (a b : Nat) (s : State) : (journalLane a b s).clk = s.clk := logs_clk (logs_record _ _ _ _ _)
@[simp] theorem journalLane_boot (a b : Nat) (s : State) : (journalLane a b s).boot = s.boot := logs_boot (logs_record _ _ _ _ _)
@[simp] theorem journalLane_fuses (a b : Nat) (s : State) : (journalLane a b s).fuses = s.fuses := logs_fuses (logs_record _ _ _ _ _)
@[simp] theorem journalLane_flash (a b : Nat) (s : State) : (journalLane a b s).flash = s.flash := logs_flash (logs_record _ _ _ _ _)
@[simp] theorem journalLane_time (a b : Nat) (s : State) : (journalLane a b s).time = s.time := logs_time (logs_record _ _ _ _ _)
@[simp] theorem journalLane_cues (a b : Nat) (s : State) : (journalLane a b s).cues = s.cues := logs_cues (logs_record _ _ _ _ _)
@[simp] theorem journalLane_rwc (a b : Nat) (s : State) : (journalLane a b s).rwc = s.rwc := logs_rwc (logs_record _ _ _ _ _)
@[simp] theorem journalLane_plan (a b : Nat) (s : State) : (journalLane a b s).plan = s.plan := logs_plan (logs_record _ _ _ _ _)
@[simp] theorem journalLane_ingest (a b : Nat) (s : State) : (journalLane a b s).ingest = s.ingest := logs_ingest (logs_record _ _ _ _ _)
@[simp] theorem journalLane_xa (a b : Nat) (s : State) : (journalLane a b s).xa = s.xa := logs_xa (logs_record _ _ _ _ _)
@[simp] theorem journalLane_rmw (a b : Nat) (s : State) : (journalLane a b s).rmw = s.rmw := logs_rmw (logs_record _ _ _ _ _)
@[simp] theorem journalLane_beams (a b : Nat) (s : State) : (journalLane a b s).beams = s.beams := logs_beams (logs_record _ _ _ _ _)
@[simp] theorem journalLane_riddle (a b : Nat) (s : State) : (journalLane a b s).riddle = s.riddle := logs_riddle (logs_record _ _ _ _ _)
@[simp] theorem journalLane_cf (a b : Nat) (s : State) : (journalLane a b s).cf = s.cf := logs_cf (logs_record _ _ _ _ _)
@[simp] theorem journalLane_lanes (a b : Nat) (s : State) : (journalLane a b s).lanes = s.lanes := logs_lanes (logs_record _ _ _ _ _)
@[simp] theorem journalLane_mesh (a b : Nat) (s : State) : (journalLane a b s).mesh = s.mesh := logs_mesh (logs_record _ _ _ _ _)
@[simp] theorem journalLane_mem (a b : Nat) (s : State) : (journalLane a b s).mem = s.mem := logs_mem (logs_record _ _ _ _ _)
@[simp] theorem journalLane_tl (a b : Nat) (s : State) : (journalLane a b s).tl = s.tl := logs_tl (logs_record _ _ _ _ _)
@[simp] theorem journalLane_cells (a b : Nat) (s : State) : (journalLane a b s).cells = s.cells := logs_cells (logs_record _ _ _ _ _)
@[simp] theorem journalLane_sup (a b : Nat) (s : State) : (journalLane a b s).sup = s.sup := logs_sup (logs_record _ _ _ _ _)
@[simp] theorem journalLane_gk (a b : Nat) (s : State) : (journalLane a b s).gk = s.gk := logs_gk (logs_record _ _ _ _ _)
@[simp] theorem journalLane_rpl (a b : Nat) (s : State) : (journalLane a b s).rpl = s.rpl := logs_rpl (logs_record _ _ _ _ _)
@[simp] theorem journalLane_jtag (a b : Nat) (s : State) : (journalLane a b s).jtag = s.jtag := logs_jtag (logs_record _ _ _ _ _)
@[simp] theorem journalLane_freeCount (a b : Nat) (s : State) : (journalLane a b s).freeCount = s.freeCount := logs_freeCount (logs_record _ _ _ _ _)
@[simp] theorem journalLane_pending (a b : Nat) (s : State) : (journalLane a b s).pending = s.pending := logs_pending (logs_record _ _ _ _ _)

@[simp] theorem journalLease_clk (a b c d : Nat) (s : State) : (journalLease a b c d s).clk = s.clk := logs_clk (logs_record _ _ _ _ _)
@[simp] theorem journalLease_boot (a b c d : Nat) (s : State) : (journalLease a b c d s).boot = s.boot := logs_boot (logs_record _ _ _ _ _)
@[simp] theorem journalLease_fuses (a b c d : Nat) (s : State) : (journalLease a b c d s).fuses = s.fuses := logs_fuses (logs_record _ _ _ _ _)
@[simp] theorem journalLease_flash (a b c d : Nat) (s : State) : (journalLease a b c d s).flash = s.flash := logs_flash (logs_record _ _ _ _ _)
@[simp] theorem journalLease_time (a b c d : Nat) (s : State) : (journalLease a b c d s).time = s.time := logs_time (logs_record _ _ _ _ _)
@[simp] theorem journalLease_cues (a b c d : Nat) (s : State) : (journalLease a b c d s).cues = s.cues := logs_cues (logs_record _ _ _ _ _)
@[simp] theorem journalLease_rwc (a b c d : Nat) (s : State) : (journalLease a b c d s).rwc = s.rwc := logs_rwc (logs_record _ _ _ _ _)
@[simp] theorem journalLease_plan (a b c d : Nat) (s : State) : (journalLease a b c d s).plan = s.plan := logs_plan (logs_record _ _ _ _ _)
@[simp] theorem journalLease_ingest (a b c d : Nat) (s : State) : (journalLease a b c d s).ingest = s.ingest := logs_ingest (logs_record _ _ _ _ _)
@[simp] theorem journalLease_xa (a b c d : Nat) (s : State) : (journalLease a b c d s).xa = s.xa := logs_xa (logs_record _ _ _ _ _)
@[simp] theorem journalLease_rmw (a b c d : Nat) (s : State) : (journalLease a b c d s).rmw = s.rmw := logs_rmw (logs_record _ _ _ _ _)
@[simp] theorem journalLease_beams (a b c d : Nat) (s : State) : (journalLease a b c d s).beams = s.beams := logs_beams (logs_record _ _ _ _ _)
@[simp] theorem journalLease_riddle (a b c d : Nat) (s : State) : (journalLease a b c d s).riddle = s.riddle := logs_riddle (logs_record _ _ _ _ _)
@[simp] theorem journalLease_cf (a b c d : Nat) (s : State) : (journalLease a b c d s).cf = s.cf := logs_cf (logs_record _ _ _ _ _)
@[simp] theorem journalLease_lanes (a b c d : Nat) (s : State) : (journalLease a b c d s).lanes = s.lanes := logs_lanes (logs_record _ _ _ _ _)
@[simp] theorem journalLease_mesh (a b c d : Nat) (s : State) : (journalLease a b c d s).mesh = s.mesh := logs_mesh (logs_record _ _ _ _ _)
@[simp] theorem journalLease_mem (a b c d : Nat) (s : State) : (journalLease a b c d s).mem = s.mem := logs_mem (logs_record _ _ _ _ _)
@[simp] theorem journalLease_tl (a b c d : Nat) (s : State) : (journalLease a b c d s).tl = s.tl := logs_tl (logs_record _ _ _ _ _)
@[simp] theorem journalLease_cells (a b c d : Nat) (s : State) : (journalLease a b c d s).cells = s.cells := logs_cells (logs_record _ _ _ _ _)
@[simp] theorem journalLease_sup (a b c d : Nat) (s : State) : (journalLease a b c d s).sup = s.sup := logs_sup (logs_record _ _ _ _ _)
@[simp] theorem journalLease_gk (a b c d : Nat) (s : State) : (journalLease a b c d s).gk = s.gk := logs_gk (logs_record _ _ _ _ _)
@[simp] theorem journalLease_rpl (a b c d : Nat) (s : State) : (journalLease a b c d s).rpl = s.rpl := logs_rpl (logs_record _ _ _ _ _)
@[simp] theorem journalLease_jtag (a b c d : Nat) (s : State) : (journalLease a b c d s).jtag = s.jtag := logs_jtag (logs_record _ _ _ _ _)
@[simp] theorem journalLease_freeCount (a b c d : Nat) (s : State) : (journalLease a b c d s).freeCount = s.freeCount := logs_freeCount (logs_record _ _ _ _ _)
@[simp] theorem journalLease_pending (a b c d : Nat) (s : State) : (journalLease a b c d s).pending = s.pending := logs_pending (logs_record _ _ _ _ _)

@[simp] theorem journalTime_clk (a : Nat) (e : Int) (s : State) : (journalTime a e s).clk = s.clk := logs_clk (logs_record _ _ _ _ _)
@[simp] theorem journalTime_boot (a : Nat) (e : Int) (s : State) : (journalTime a e s).boot = s.boot := logs_boot (logs_record _ _ _ _ _)
@[simp] theorem journalTime_fuses (a : Nat) (e : Int) (s : State) : (journalTime a e s).fuses = s.fuses := logs_fuses (logs_record _ _ _ _ _)
@[simp] theorem journalTime_flash (a : Nat) (e : Int) (s : State) : (journalTime a e s).flash = s.flash := logs_flash (logs_record _ _ _ _ _)
@[simp] theorem journalTime_time (a : Nat) (e : Int) (s : State) : (journalTime a e s).time = s.time := logs_time (logs_record _ _ _ _ _)
@[simp] theorem journalTime_cues (a : Nat) (e : Int) (s : State) : (journalTime a e s).cues = s.cues := logs_cues (logs_record _ _ _ _ _)
@[simp] theorem journalTime_rwc (a : Nat) (e : Int) (s : State) : (journalTime a e s).rwc = s.rwc := logs_rwc (logs_record _ _ _ _ _)
@[simp] theorem journalTime_plan (a : Nat) (e : Int) (s : State) : (journalTime a e s).plan = s.plan := logs_plan (logs_record _ _ _ _ _)
@[simp] theorem journalTime_ingest (a : Nat) (e : Int) (s : State) : (journalTime a e s).ingest = s.ingest := logs_ingest (logs_record _ _ _ _ _)
@[simp] theorem journalTime_xa (a : Nat) (e : Int) (s : State) : (journalTime a e s).xa = s.xa := logs_xa (logs_record _ _ _ _ _)
@[simp] theorem journalTime_rmw (a : Nat) (e : Int) (s : State) : (journalTime a e s).rmw = s.rmw := logs_rmw (logs_record _ _ _ _ _)
@[simp] theorem journalTime_beams (a : Nat) (e : Int) (s : State) : (journalTime a e s).beams = s.beams := logs_beams (logs_record _ _ _ _ _)
@[simp] theorem journalTime_riddle (a : Nat) (e : Int) (s : State) : (journalTime a e s).riddle = s.riddle := logs_riddle (logs_record _ _ _ _ _)
@[simp] theorem journalTime_cf (a : Nat) (e : Int) (s : State) : (journalTime a e s).cf = s.cf := logs_cf (logs_record _ _ _ _ _)
@[simp] theorem journalTime_lanes (a : Nat) (e : Int) (s : State) : (journalTime a e s).lanes = s.lanes := logs_lanes (logs_record _ _ _ _ _)
@[simp] theorem journalTime_mesh (a : Nat) (e : Int) (s : State) : (journalTime a e s).mesh = s.mesh := logs_mesh (logs_record _ _ _ _ _)
@[simp] theorem journalTime_mem (a : Nat) (e : Int) (s : State) : (journalTime a e s).mem = s.mem := logs_mem (logs_record _ _ _ _ _)
@[simp] theorem journalTime_tl (a : Nat) (e : Int) (s : State) : (journalTime a e s).tl = s.tl := logs_tl (logs_record _ _ _ _ _)
@[simp] theorem journalTime_cells (a : Nat) (e : Int) (s : State) : (journalTime a e s).cells = s.cells := logs_cells (logs_record _ _ _ _ _)
@[simp] theorem journalTime_sup (a : Nat) (e : Int) (s : State) : (journalTime a e s).sup = s.sup := logs_sup (logs_record _ _ _ _ _)
@[simp] theorem journalTime_gk (a : Nat) (e : Int) (s : State) : (journalTime a e s).gk = s.gk := logs_gk (logs_record _ _ _ _ _)
@[simp] theorem journalTime_rpl (a : Nat) (e : Int) (s : State) : (journalTime a e s).rpl = s.rpl := logs_rpl (logs_record _ _ _ _ _)
@[simp] theorem journalTime_jtag (a : Nat) (e : Int) (s : State) : (journalTime a e s).jtag = s.jtag := logs_jtag (logs_record _ _ _ _ _)
@[simp] theorem journalTime_freeCount (a : Nat) (e : Int) (s : State) : (journalTime a e s).freeCount = s.freeCount := logs_freeCount (logs_record _ _ _ _ _)
@[simp] theorem journalTime_pending (a : Nat) (e : Int) (s : State) : (journalTime a e s).pending = s.pending := logs_pending (logs_record _ _ _ _ _)

@[simp] theorem journalPlan_clk (a : Nat) (p : Plan) (s : State) : (journalPlan a p s).clk = s.clk := logs_clk (logs_record _ _ _ _ _)
@[simp] theorem journalPlan_boot (a : Nat) (p : Plan) (s : State) : (journalPlan a p s).boot = s.boot := logs_boot (logs_record _ _ _ _ _)
@[simp] theorem journalPlan_fuses (a : Nat) (p : Plan) (s : State) : (journalPlan a p s).fuses = s.fuses := logs_fuses (logs_record _ _ _ _ _)
@[simp] theorem journalPlan_flash (a : Nat) (p : Plan) (s : State) : (journalPlan a p s).flash = s.flash := logs_flash (logs_record _ _ _ _ _)
@[simp] theorem journalPlan_time (a : Nat) (p : Plan) (s : State) : (journalPlan a p s).time = s.time := logs_time (logs_record _ _ _ _ _)
@[simp] theorem journalPlan_cues (a : Nat) (p : Plan) (s : State) : (journalPlan a p s).cues = s.cues := logs_cues (logs_record _ _ _ _ _)
@[simp] theorem journalPlan_rwc (a : Nat) (p : Plan) (s : State) : (journalPlan a p s).rwc = s.rwc := logs_rwc (logs_record _ _ _ _ _)
@[simp] theorem journalPlan_plan (a : Nat) (p : Plan) (s : State) : (journalPlan a p s).plan = s.plan := logs_plan (logs_record _ _ _ _ _)
@[simp] theorem journalPlan_ingest (a : Nat) (p : Plan) (s : State) : (journalPlan a p s).ingest = s.ingest := logs_ingest (logs_record _ _ _ _ _)
@[simp] theorem journalPlan_xa (a : Nat) (p : Plan) (s : State) : (journalPlan a p s).xa = s.xa := logs_xa (logs_record _ _ _ _ _)
@[simp] theorem journalPlan_rmw (a : Nat) (p : Plan) (s : State) : (journalPlan a p s).rmw = s.rmw := logs_rmw (logs_record _ _ _ _ _)
@[simp] theorem journalPlan_beams (a : Nat) (p : Plan) (s : State) : (journalPlan a p s).beams = s.beams := logs_beams (logs_record _ _ _ _ _)
@[simp] theorem journalPlan_riddle (a : Nat) (p : Plan) (s : State) : (journalPlan a p s).riddle = s.riddle := logs_riddle (logs_record _ _ _ _ _)
@[simp] theorem journalPlan_cf (a : Nat) (p : Plan) (s : State) : (journalPlan a p s).cf = s.cf := logs_cf (logs_record _ _ _ _ _)
@[simp] theorem journalPlan_lanes (a : Nat) (p : Plan) (s : State) : (journalPlan a p s).lanes = s.lanes := logs_lanes (logs_record _ _ _ _ _)
@[simp] theorem journalPlan_mesh (a : Nat) (p : Plan) (s : State) : (journalPlan a p s).mesh = s.mesh := logs_mesh (logs_record _ _ _ _ _)
@[simp] theorem journalPlan_mem (a : Nat) (p : Plan) (s : State) : (journalPlan a p s).mem = s.mem := logs_mem (logs_record _ _ _ _ _)
@[simp] theorem journalPlan_tl (a : Nat) (p : Plan) (s : State) : (journalPlan a p s).tl = s.tl := logs_tl (logs_record _ _ _ _ _)
@[simp] theorem journalPlan_cells (a : Nat) (p : Plan) (s : State) : (journalPlan a p s).cells = s.cells := logs_cells (logs_record _ _ _ _ _)
@[simp] theorem journalPlan_sup (a : Nat) (p : Plan) (s : State) : (journalPlan a p s).sup = s.sup := logs_sup (logs_record _ _ _ _ _)
@[simp] theorem journalPlan_gk (a : Nat) (p : Plan) (s : State) : (journalPlan a p s).gk = s.gk := logs_gk (logs_record _ _ _ _ _)
@[simp] theorem journalPlan_rpl (a : Nat) (p : Plan) (s : State) : (journalPlan a p s).rpl = s.rpl := logs_rpl (logs_record _ _ _ _ _)
@[simp] theorem journalPlan_jtag (a : Nat) (p : Plan) (s : State) : (journalPlan a p s).jtag = s.jtag := logs_jtag (logs_record _ _ _ _ _)
@[simp] theorem journalPlan_freeCount (a : Nat) (p : Plan) (s : State) : (journalPlan a p s).freeCount = s.freeCount := logs_freeCount (logs_record _ _ _ _ _)
@[simp] theorem journalPlan_pending (a : Nat) (p : Plan) (s : State) : (journalPlan a p s).pending = s.pending := logs_pending (logs_record _ _ _ _ _)

@[simp] theorem journalCue_clk (a b c : Nat) (e : CueEntry) (s : State) : (journalCue a b c e s).clk = s.clk := logs_clk (logs_record _ _ _ _ _)
@[simp] theorem journalCue_boot (a b c : Nat) (e : CueEntry) (s : State) : (journalCue a b c e s).boot = s.boot := logs_boot (logs_record _ _ _ _ _)
@[simp] theorem journalCue_fuses (a b c : Nat) (e : CueEntry) (s : State) : (journalCue a b c e s).fuses = s.fuses := logs_fuses (logs_record _ _ _ _ _)
@[simp] theorem journalCue_flash (a b c : Nat) (e : CueEntry) (s : State) : (journalCue a b c e s).flash = s.flash := logs_flash (logs_record _ _ _ _ _)
@[simp] theorem journalCue_time (a b c : Nat) (e : CueEntry) (s : State) : (journalCue a b c e s).time = s.time := logs_time (logs_record _ _ _ _ _)
@[simp] theorem journalCue_cues (a b c : Nat) (e : CueEntry) (s : State) : (journalCue a b c e s).cues = s.cues := logs_cues (logs_record _ _ _ _ _)
@[simp] theorem journalCue_rwc (a b c : Nat) (e : CueEntry) (s : State) : (journalCue a b c e s).rwc = s.rwc := logs_rwc (logs_record _ _ _ _ _)
@[simp] theorem journalCue_plan (a b c : Nat) (e : CueEntry) (s : State) : (journalCue a b c e s).plan = s.plan := logs_plan (logs_record _ _ _ _ _)
@[simp] theorem journalCue_ingest (a b c : Nat) (e : CueEntry) (s : State) : (journalCue a b c e s).ingest = s.ingest := logs_ingest (logs_record _ _ _ _ _)
@[simp] theorem journalCue_xa (a b c : Nat) (e : CueEntry) (s : State) : (journalCue a b c e s).xa = s.xa := logs_xa (logs_record _ _ _ _ _)
@[simp] theorem journalCue_rmw (a b c : Nat) (e : CueEntry) (s : State) : (journalCue a b c e s).rmw = s.rmw := logs_rmw (logs_record _ _ _ _ _)
@[simp] theorem journalCue_beams (a b c : Nat) (e : CueEntry) (s : State) : (journalCue a b c e s).beams = s.beams := logs_beams (logs_record _ _ _ _ _)
@[simp] theorem journalCue_riddle (a b c : Nat) (e : CueEntry) (s : State) : (journalCue a b c e s).riddle = s.riddle := logs_riddle (logs_record _ _ _ _ _)
@[simp] theorem journalCue_cf (a b c : Nat) (e : CueEntry) (s : State) : (journalCue a b c e s).cf = s.cf := logs_cf (logs_record _ _ _ _ _)
@[simp] theorem journalCue_lanes (a b c : Nat) (e : CueEntry) (s : State) : (journalCue a b c e s).lanes = s.lanes := logs_lanes (logs_record _ _ _ _ _)
@[simp] theorem journalCue_mesh (a b c : Nat) (e : CueEntry) (s : State) : (journalCue a b c e s).mesh = s.mesh := logs_mesh (logs_record _ _ _ _ _)
@[simp] theorem journalCue_mem (a b c : Nat) (e : CueEntry) (s : State) : (journalCue a b c e s).mem = s.mem := logs_mem (logs_record _ _ _ _ _)
@[simp] theorem journalCue_tl (a b c : Nat) (e : CueEntry) (s : State) : (journalCue a b c e s).tl = s.tl := logs_tl (logs_record _ _ _ _ _)
@[simp] theorem journalCue_cells (a b c : Nat) (e : CueEntry) (s : State) : (journalCue a b c e s).cells = s.cells := logs_cells (logs_record _ _ _ _ _)
@[simp] theorem journalCue_sup (a b c : Nat) (e : CueEntry) (s : State) : (journalCue a b c e s).sup = s.sup := logs_sup (logs_record _ _ _ _ _)
@[simp] theorem journalCue_gk (a b c : Nat) (e : CueEntry) (s : State) : (journalCue a b c e s).gk = s.gk := logs_gk (logs_record _ _ _ _ _)
@[simp] theorem journalCue_rpl (a b c : Nat) (e : CueEntry) (s : State) : (journalCue a b c e s).rpl = s.rpl := logs_rpl (logs_record _ _ _ _ _)
@[simp] theorem journalCue_jtag (a b c : Nat) (e : CueEntry) (s : State) : (journalCue a b c e s).jtag = s.jtag := logs_jtag (logs_record _ _ _ _ _)
@[simp] theorem journalCue_freeCount (a b c : Nat) (e : CueEntry) (s : State) : (journalCue a b c e s).freeCount = s.freeCount := logs_freeCount (logs_record _ _ _ _ _)
@[simp] theorem journalCue_pending (a b c : Nat) (e : CueEntry) (s : State) : (journalCue a b c e s).pending = s.pending := logs_pending (logs_record _ _ _ _ _)

@[simp] theorem journalAbsent_clk (d : Dwell) (r : Nat) (s : State) : (journalAbsent d r s).clk = s.clk := logs_clk (logs_record _ _ _ _ _)
@[simp] theorem journalAbsent_boot (d : Dwell) (r : Nat) (s : State) : (journalAbsent d r s).boot = s.boot := logs_boot (logs_record _ _ _ _ _)
@[simp] theorem journalAbsent_fuses (d : Dwell) (r : Nat) (s : State) : (journalAbsent d r s).fuses = s.fuses := logs_fuses (logs_record _ _ _ _ _)
@[simp] theorem journalAbsent_flash (d : Dwell) (r : Nat) (s : State) : (journalAbsent d r s).flash = s.flash := logs_flash (logs_record _ _ _ _ _)
@[simp] theorem journalAbsent_time (d : Dwell) (r : Nat) (s : State) : (journalAbsent d r s).time = s.time := logs_time (logs_record _ _ _ _ _)
@[simp] theorem journalAbsent_cues (d : Dwell) (r : Nat) (s : State) : (journalAbsent d r s).cues = s.cues := logs_cues (logs_record _ _ _ _ _)
@[simp] theorem journalAbsent_rwc (d : Dwell) (r : Nat) (s : State) : (journalAbsent d r s).rwc = s.rwc := logs_rwc (logs_record _ _ _ _ _)
@[simp] theorem journalAbsent_plan (d : Dwell) (r : Nat) (s : State) : (journalAbsent d r s).plan = s.plan := logs_plan (logs_record _ _ _ _ _)
@[simp] theorem journalAbsent_ingest (d : Dwell) (r : Nat) (s : State) : (journalAbsent d r s).ingest = s.ingest := logs_ingest (logs_record _ _ _ _ _)
@[simp] theorem journalAbsent_xa (d : Dwell) (r : Nat) (s : State) : (journalAbsent d r s).xa = s.xa := logs_xa (logs_record _ _ _ _ _)
@[simp] theorem journalAbsent_rmw (d : Dwell) (r : Nat) (s : State) : (journalAbsent d r s).rmw = s.rmw := logs_rmw (logs_record _ _ _ _ _)
@[simp] theorem journalAbsent_beams (d : Dwell) (r : Nat) (s : State) : (journalAbsent d r s).beams = s.beams := logs_beams (logs_record _ _ _ _ _)
@[simp] theorem journalAbsent_riddle (d : Dwell) (r : Nat) (s : State) : (journalAbsent d r s).riddle = s.riddle := logs_riddle (logs_record _ _ _ _ _)
@[simp] theorem journalAbsent_cf (d : Dwell) (r : Nat) (s : State) : (journalAbsent d r s).cf = s.cf := logs_cf (logs_record _ _ _ _ _)
@[simp] theorem journalAbsent_lanes (d : Dwell) (r : Nat) (s : State) : (journalAbsent d r s).lanes = s.lanes := logs_lanes (logs_record _ _ _ _ _)
@[simp] theorem journalAbsent_mesh (d : Dwell) (r : Nat) (s : State) : (journalAbsent d r s).mesh = s.mesh := logs_mesh (logs_record _ _ _ _ _)
@[simp] theorem journalAbsent_mem (d : Dwell) (r : Nat) (s : State) : (journalAbsent d r s).mem = s.mem := logs_mem (logs_record _ _ _ _ _)
@[simp] theorem journalAbsent_tl (d : Dwell) (r : Nat) (s : State) : (journalAbsent d r s).tl = s.tl := logs_tl (logs_record _ _ _ _ _)
@[simp] theorem journalAbsent_cells (d : Dwell) (r : Nat) (s : State) : (journalAbsent d r s).cells = s.cells := logs_cells (logs_record _ _ _ _ _)
@[simp] theorem journalAbsent_sup (d : Dwell) (r : Nat) (s : State) : (journalAbsent d r s).sup = s.sup := logs_sup (logs_record _ _ _ _ _)
@[simp] theorem journalAbsent_gk (d : Dwell) (r : Nat) (s : State) : (journalAbsent d r s).gk = s.gk := logs_gk (logs_record _ _ _ _ _)
@[simp] theorem journalAbsent_rpl (d : Dwell) (r : Nat) (s : State) : (journalAbsent d r s).rpl = s.rpl := logs_rpl (logs_record _ _ _ _ _)
@[simp] theorem journalAbsent_jtag (d : Dwell) (r : Nat) (s : State) : (journalAbsent d r s).jtag = s.jtag := logs_jtag (logs_record _ _ _ _ _)
@[simp] theorem journalAbsent_freeCount (d : Dwell) (r : Nat) (s : State) : (journalAbsent d r s).freeCount = s.freeCount := logs_freeCount (logs_record _ _ _ _ _)
@[simp] theorem journalAbsent_pending (d : Dwell) (r : Nat) (s : State) : (journalAbsent d r s).pending = s.pending := logs_pending (logs_record _ _ _ _ _)

@[simp] theorem journalDigest_clk (p : Plan) (d : Dwell) (x : Slot) (s : State) : (journalDigest p d x s).clk = s.clk := logs_clk (logs_record _ _ _ _ _)
@[simp] theorem journalDigest_boot (p : Plan) (d : Dwell) (x : Slot) (s : State) : (journalDigest p d x s).boot = s.boot := logs_boot (logs_record _ _ _ _ _)
@[simp] theorem journalDigest_fuses (p : Plan) (d : Dwell) (x : Slot) (s : State) : (journalDigest p d x s).fuses = s.fuses := logs_fuses (logs_record _ _ _ _ _)
@[simp] theorem journalDigest_flash (p : Plan) (d : Dwell) (x : Slot) (s : State) : (journalDigest p d x s).flash = s.flash := logs_flash (logs_record _ _ _ _ _)
@[simp] theorem journalDigest_time (p : Plan) (d : Dwell) (x : Slot) (s : State) : (journalDigest p d x s).time = s.time := logs_time (logs_record _ _ _ _ _)
@[simp] theorem journalDigest_cues (p : Plan) (d : Dwell) (x : Slot) (s : State) : (journalDigest p d x s).cues = s.cues := logs_cues (logs_record _ _ _ _ _)
@[simp] theorem journalDigest_rwc (p : Plan) (d : Dwell) (x : Slot) (s : State) : (journalDigest p d x s).rwc = s.rwc := logs_rwc (logs_record _ _ _ _ _)
@[simp] theorem journalDigest_plan (p : Plan) (d : Dwell) (x : Slot) (s : State) : (journalDigest p d x s).plan = s.plan := logs_plan (logs_record _ _ _ _ _)
@[simp] theorem journalDigest_ingest (p : Plan) (d : Dwell) (x : Slot) (s : State) : (journalDigest p d x s).ingest = s.ingest := logs_ingest (logs_record _ _ _ _ _)
@[simp] theorem journalDigest_xa (p : Plan) (d : Dwell) (x : Slot) (s : State) : (journalDigest p d x s).xa = s.xa := logs_xa (logs_record _ _ _ _ _)
@[simp] theorem journalDigest_rmw (p : Plan) (d : Dwell) (x : Slot) (s : State) : (journalDigest p d x s).rmw = s.rmw := logs_rmw (logs_record _ _ _ _ _)
@[simp] theorem journalDigest_beams (p : Plan) (d : Dwell) (x : Slot) (s : State) : (journalDigest p d x s).beams = s.beams := logs_beams (logs_record _ _ _ _ _)
@[simp] theorem journalDigest_riddle (p : Plan) (d : Dwell) (x : Slot) (s : State) : (journalDigest p d x s).riddle = s.riddle := logs_riddle (logs_record _ _ _ _ _)
@[simp] theorem journalDigest_cf (p : Plan) (d : Dwell) (x : Slot) (s : State) : (journalDigest p d x s).cf = s.cf := logs_cf (logs_record _ _ _ _ _)
@[simp] theorem journalDigest_lanes (p : Plan) (d : Dwell) (x : Slot) (s : State) : (journalDigest p d x s).lanes = s.lanes := logs_lanes (logs_record _ _ _ _ _)
@[simp] theorem journalDigest_mesh (p : Plan) (d : Dwell) (x : Slot) (s : State) : (journalDigest p d x s).mesh = s.mesh := logs_mesh (logs_record _ _ _ _ _)
@[simp] theorem journalDigest_mem (p : Plan) (d : Dwell) (x : Slot) (s : State) : (journalDigest p d x s).mem = s.mem := logs_mem (logs_record _ _ _ _ _)
@[simp] theorem journalDigest_tl (p : Plan) (d : Dwell) (x : Slot) (s : State) : (journalDigest p d x s).tl = s.tl := logs_tl (logs_record _ _ _ _ _)
@[simp] theorem journalDigest_cells (p : Plan) (d : Dwell) (x : Slot) (s : State) : (journalDigest p d x s).cells = s.cells := logs_cells (logs_record _ _ _ _ _)
@[simp] theorem journalDigest_sup (p : Plan) (d : Dwell) (x : Slot) (s : State) : (journalDigest p d x s).sup = s.sup := logs_sup (logs_record _ _ _ _ _)
@[simp] theorem journalDigest_gk (p : Plan) (d : Dwell) (x : Slot) (s : State) : (journalDigest p d x s).gk = s.gk := logs_gk (logs_record _ _ _ _ _)
@[simp] theorem journalDigest_rpl (p : Plan) (d : Dwell) (x : Slot) (s : State) : (journalDigest p d x s).rpl = s.rpl := logs_rpl (logs_record _ _ _ _ _)
@[simp] theorem journalDigest_jtag (p : Plan) (d : Dwell) (x : Slot) (s : State) : (journalDigest p d x s).jtag = s.jtag := logs_jtag (logs_record _ _ _ _ _)
@[simp] theorem journalDigest_freeCount (p : Plan) (d : Dwell) (x : Slot) (s : State) : (journalDigest p d x s).freeCount = s.freeCount := logs_freeCount (logs_record _ _ _ _ _)
@[simp] theorem journalDigest_pending (p : Plan) (d : Dwell) (x : Slot) (s : State) : (journalDigest p d x s).pending = s.pending := logs_pending (logs_record _ _ _ _ _)

@[simp] theorem journalRmwFail_clk (p : Plan) (d : Dwell) (k n : Nat) (s : State) : (journalRmwFail p d k n s).clk = s.clk := logs_clk (logs_record _ _ _ _ _)
@[simp] theorem journalRmwFail_boot (p : Plan) (d : Dwell) (k n : Nat) (s : State) : (journalRmwFail p d k n s).boot = s.boot := logs_boot (logs_record _ _ _ _ _)
@[simp] theorem journalRmwFail_fuses (p : Plan) (d : Dwell) (k n : Nat) (s : State) : (journalRmwFail p d k n s).fuses = s.fuses := logs_fuses (logs_record _ _ _ _ _)
@[simp] theorem journalRmwFail_flash (p : Plan) (d : Dwell) (k n : Nat) (s : State) : (journalRmwFail p d k n s).flash = s.flash := logs_flash (logs_record _ _ _ _ _)
@[simp] theorem journalRmwFail_time (p : Plan) (d : Dwell) (k n : Nat) (s : State) : (journalRmwFail p d k n s).time = s.time := logs_time (logs_record _ _ _ _ _)
@[simp] theorem journalRmwFail_cues (p : Plan) (d : Dwell) (k n : Nat) (s : State) : (journalRmwFail p d k n s).cues = s.cues := logs_cues (logs_record _ _ _ _ _)
@[simp] theorem journalRmwFail_rwc (p : Plan) (d : Dwell) (k n : Nat) (s : State) : (journalRmwFail p d k n s).rwc = s.rwc := logs_rwc (logs_record _ _ _ _ _)
@[simp] theorem journalRmwFail_plan (p : Plan) (d : Dwell) (k n : Nat) (s : State) : (journalRmwFail p d k n s).plan = s.plan := logs_plan (logs_record _ _ _ _ _)
@[simp] theorem journalRmwFail_ingest (p : Plan) (d : Dwell) (k n : Nat) (s : State) : (journalRmwFail p d k n s).ingest = s.ingest := logs_ingest (logs_record _ _ _ _ _)
@[simp] theorem journalRmwFail_xa (p : Plan) (d : Dwell) (k n : Nat) (s : State) : (journalRmwFail p d k n s).xa = s.xa := logs_xa (logs_record _ _ _ _ _)
@[simp] theorem journalRmwFail_rmw (p : Plan) (d : Dwell) (k n : Nat) (s : State) : (journalRmwFail p d k n s).rmw = s.rmw := logs_rmw (logs_record _ _ _ _ _)
@[simp] theorem journalRmwFail_beams (p : Plan) (d : Dwell) (k n : Nat) (s : State) : (journalRmwFail p d k n s).beams = s.beams := logs_beams (logs_record _ _ _ _ _)
@[simp] theorem journalRmwFail_riddle (p : Plan) (d : Dwell) (k n : Nat) (s : State) : (journalRmwFail p d k n s).riddle = s.riddle := logs_riddle (logs_record _ _ _ _ _)
@[simp] theorem journalRmwFail_cf (p : Plan) (d : Dwell) (k n : Nat) (s : State) : (journalRmwFail p d k n s).cf = s.cf := logs_cf (logs_record _ _ _ _ _)
@[simp] theorem journalRmwFail_lanes (p : Plan) (d : Dwell) (k n : Nat) (s : State) : (journalRmwFail p d k n s).lanes = s.lanes := logs_lanes (logs_record _ _ _ _ _)
@[simp] theorem journalRmwFail_mesh (p : Plan) (d : Dwell) (k n : Nat) (s : State) : (journalRmwFail p d k n s).mesh = s.mesh := logs_mesh (logs_record _ _ _ _ _)
@[simp] theorem journalRmwFail_mem (p : Plan) (d : Dwell) (k n : Nat) (s : State) : (journalRmwFail p d k n s).mem = s.mem := logs_mem (logs_record _ _ _ _ _)
@[simp] theorem journalRmwFail_tl (p : Plan) (d : Dwell) (k n : Nat) (s : State) : (journalRmwFail p d k n s).tl = s.tl := logs_tl (logs_record _ _ _ _ _)
@[simp] theorem journalRmwFail_cells (p : Plan) (d : Dwell) (k n : Nat) (s : State) : (journalRmwFail p d k n s).cells = s.cells := logs_cells (logs_record _ _ _ _ _)
@[simp] theorem journalRmwFail_sup (p : Plan) (d : Dwell) (k n : Nat) (s : State) : (journalRmwFail p d k n s).sup = s.sup := logs_sup (logs_record _ _ _ _ _)
@[simp] theorem journalRmwFail_gk (p : Plan) (d : Dwell) (k n : Nat) (s : State) : (journalRmwFail p d k n s).gk = s.gk := logs_gk (logs_record _ _ _ _ _)
@[simp] theorem journalRmwFail_rpl (p : Plan) (d : Dwell) (k n : Nat) (s : State) : (journalRmwFail p d k n s).rpl = s.rpl := logs_rpl (logs_record _ _ _ _ _)
@[simp] theorem journalRmwFail_jtag (p : Plan) (d : Dwell) (k n : Nat) (s : State) : (journalRmwFail p d k n s).jtag = s.jtag := logs_jtag (logs_record _ _ _ _ _)
@[simp] theorem journalRmwFail_freeCount (p : Plan) (d : Dwell) (k n : Nat) (s : State) : (journalRmwFail p d k n s).freeCount = s.freeCount := logs_freeCount (logs_record _ _ _ _ _)
@[simp] theorem journalRmwFail_pending (p : Plan) (d : Dwell) (k n : Nat) (s : State) : (journalRmwFail p d k n s).pending = s.pending := logs_pending (logs_record _ _ _ _ _)

@[simp] theorem journalCommitDwell_clk (p : Plan) (x : Staged) (r f : Nat) (s : State) : (journalCommitDwell p x r f s).clk = s.clk := logs_clk (logs_record _ _ _ _ _)
@[simp] theorem journalCommitDwell_boot (p : Plan) (x : Staged) (r f : Nat) (s : State) : (journalCommitDwell p x r f s).boot = s.boot := logs_boot (logs_record _ _ _ _ _)
@[simp] theorem journalCommitDwell_fuses (p : Plan) (x : Staged) (r f : Nat) (s : State) : (journalCommitDwell p x r f s).fuses = s.fuses := logs_fuses (logs_record _ _ _ _ _)
@[simp] theorem journalCommitDwell_flash (p : Plan) (x : Staged) (r f : Nat) (s : State) : (journalCommitDwell p x r f s).flash = s.flash := logs_flash (logs_record _ _ _ _ _)
@[simp] theorem journalCommitDwell_time (p : Plan) (x : Staged) (r f : Nat) (s : State) : (journalCommitDwell p x r f s).time = s.time := logs_time (logs_record _ _ _ _ _)
@[simp] theorem journalCommitDwell_cues (p : Plan) (x : Staged) (r f : Nat) (s : State) : (journalCommitDwell p x r f s).cues = s.cues := logs_cues (logs_record _ _ _ _ _)
@[simp] theorem journalCommitDwell_rwc (p : Plan) (x : Staged) (r f : Nat) (s : State) : (journalCommitDwell p x r f s).rwc = s.rwc := logs_rwc (logs_record _ _ _ _ _)
@[simp] theorem journalCommitDwell_plan (p : Plan) (x : Staged) (r f : Nat) (s : State) : (journalCommitDwell p x r f s).plan = s.plan := logs_plan (logs_record _ _ _ _ _)
@[simp] theorem journalCommitDwell_ingest (p : Plan) (x : Staged) (r f : Nat) (s : State) : (journalCommitDwell p x r f s).ingest = s.ingest := logs_ingest (logs_record _ _ _ _ _)
@[simp] theorem journalCommitDwell_xa (p : Plan) (x : Staged) (r f : Nat) (s : State) : (journalCommitDwell p x r f s).xa = s.xa := logs_xa (logs_record _ _ _ _ _)
@[simp] theorem journalCommitDwell_rmw (p : Plan) (x : Staged) (r f : Nat) (s : State) : (journalCommitDwell p x r f s).rmw = s.rmw := logs_rmw (logs_record _ _ _ _ _)
@[simp] theorem journalCommitDwell_beams (p : Plan) (x : Staged) (r f : Nat) (s : State) : (journalCommitDwell p x r f s).beams = s.beams := logs_beams (logs_record _ _ _ _ _)
@[simp] theorem journalCommitDwell_riddle (p : Plan) (x : Staged) (r f : Nat) (s : State) : (journalCommitDwell p x r f s).riddle = s.riddle := logs_riddle (logs_record _ _ _ _ _)
@[simp] theorem journalCommitDwell_cf (p : Plan) (x : Staged) (r f : Nat) (s : State) : (journalCommitDwell p x r f s).cf = s.cf := logs_cf (logs_record _ _ _ _ _)
@[simp] theorem journalCommitDwell_lanes (p : Plan) (x : Staged) (r f : Nat) (s : State) : (journalCommitDwell p x r f s).lanes = s.lanes := logs_lanes (logs_record _ _ _ _ _)
@[simp] theorem journalCommitDwell_mesh (p : Plan) (x : Staged) (r f : Nat) (s : State) : (journalCommitDwell p x r f s).mesh = s.mesh := logs_mesh (logs_record _ _ _ _ _)
@[simp] theorem journalCommitDwell_mem (p : Plan) (x : Staged) (r f : Nat) (s : State) : (journalCommitDwell p x r f s).mem = s.mem := logs_mem (logs_record _ _ _ _ _)
@[simp] theorem journalCommitDwell_tl (p : Plan) (x : Staged) (r f : Nat) (s : State) : (journalCommitDwell p x r f s).tl = s.tl := logs_tl (logs_record _ _ _ _ _)
@[simp] theorem journalCommitDwell_cells (p : Plan) (x : Staged) (r f : Nat) (s : State) : (journalCommitDwell p x r f s).cells = s.cells := logs_cells (logs_record _ _ _ _ _)
@[simp] theorem journalCommitDwell_sup (p : Plan) (x : Staged) (r f : Nat) (s : State) : (journalCommitDwell p x r f s).sup = s.sup := logs_sup (logs_record _ _ _ _ _)
@[simp] theorem journalCommitDwell_gk (p : Plan) (x : Staged) (r f : Nat) (s : State) : (journalCommitDwell p x r f s).gk = s.gk := logs_gk (logs_record _ _ _ _ _)
@[simp] theorem journalCommitDwell_rpl (p : Plan) (x : Staged) (r f : Nat) (s : State) : (journalCommitDwell p x r f s).rpl = s.rpl := logs_rpl (logs_record _ _ _ _ _)
@[simp] theorem journalCommitDwell_jtag (p : Plan) (x : Staged) (r f : Nat) (s : State) : (journalCommitDwell p x r f s).jtag = s.jtag := logs_jtag (logs_record _ _ _ _ _)
@[simp] theorem journalCommitDwell_freeCount (p : Plan) (x : Staged) (r f : Nat) (s : State) : (journalCommitDwell p x r f s).freeCount = s.freeCount := logs_freeCount (logs_record _ _ _ _ _)
@[simp] theorem journalCommitDwell_pending (p : Plan) (x : Staged) (r f : Nat) (s : State) : (journalCommitDwell p x r f s).pending = s.pending := logs_pending (logs_record _ _ _ _ _)

@[simp] theorem haltRing_clk (r : RingId) (c : Nat) (s : State) : (haltRing r c s).clk = s.clk := logs_clk (logs_haltRing r c s)
@[simp] theorem haltRing_boot (r : RingId) (c : Nat) (s : State) : (haltRing r c s).boot = s.boot := logs_boot (logs_haltRing r c s)
@[simp] theorem haltRing_fuses (r : RingId) (c : Nat) (s : State) : (haltRing r c s).fuses = s.fuses := logs_fuses (logs_haltRing r c s)
@[simp] theorem haltRing_flash (r : RingId) (c : Nat) (s : State) : (haltRing r c s).flash = s.flash := logs_flash (logs_haltRing r c s)
@[simp] theorem haltRing_time (r : RingId) (c : Nat) (s : State) : (haltRing r c s).time = s.time := logs_time (logs_haltRing r c s)
@[simp] theorem haltRing_cues (r : RingId) (c : Nat) (s : State) : (haltRing r c s).cues = s.cues := logs_cues (logs_haltRing r c s)
@[simp] theorem haltRing_rwc (r : RingId) (c : Nat) (s : State) : (haltRing r c s).rwc = s.rwc := logs_rwc (logs_haltRing r c s)
@[simp] theorem haltRing_plan (r : RingId) (c : Nat) (s : State) : (haltRing r c s).plan = s.plan := logs_plan (logs_haltRing r c s)
@[simp] theorem haltRing_ingest (r : RingId) (c : Nat) (s : State) : (haltRing r c s).ingest = s.ingest := logs_ingest (logs_haltRing r c s)
@[simp] theorem haltRing_xa (r : RingId) (c : Nat) (s : State) : (haltRing r c s).xa = s.xa := logs_xa (logs_haltRing r c s)
@[simp] theorem haltRing_rmw (r : RingId) (c : Nat) (s : State) : (haltRing r c s).rmw = s.rmw := logs_rmw (logs_haltRing r c s)
@[simp] theorem haltRing_beams (r : RingId) (c : Nat) (s : State) : (haltRing r c s).beams = s.beams := logs_beams (logs_haltRing r c s)
@[simp] theorem haltRing_riddle (r : RingId) (c : Nat) (s : State) : (haltRing r c s).riddle = s.riddle := logs_riddle (logs_haltRing r c s)
@[simp] theorem haltRing_cf (r : RingId) (c : Nat) (s : State) : (haltRing r c s).cf = s.cf := logs_cf (logs_haltRing r c s)
@[simp] theorem haltRing_lanes (r : RingId) (c : Nat) (s : State) : (haltRing r c s).lanes = s.lanes := logs_lanes (logs_haltRing r c s)
@[simp] theorem haltRing_mesh (r : RingId) (c : Nat) (s : State) : (haltRing r c s).mesh = s.mesh := logs_mesh (logs_haltRing r c s)
@[simp] theorem haltRing_mem (r : RingId) (c : Nat) (s : State) : (haltRing r c s).mem = s.mem := logs_mem (logs_haltRing r c s)
@[simp] theorem haltRing_tl (r : RingId) (c : Nat) (s : State) : (haltRing r c s).tl = s.tl := logs_tl (logs_haltRing r c s)
@[simp] theorem haltRing_cells (r : RingId) (c : Nat) (s : State) : (haltRing r c s).cells = s.cells := logs_cells (logs_haltRing r c s)
@[simp] theorem haltRing_sup (r : RingId) (c : Nat) (s : State) : (haltRing r c s).sup = s.sup := logs_sup (logs_haltRing r c s)
@[simp] theorem haltRing_gk (r : RingId) (c : Nat) (s : State) : (haltRing r c s).gk = s.gk := logs_gk (logs_haltRing r c s)
@[simp] theorem haltRing_rpl (r : RingId) (c : Nat) (s : State) : (haltRing r c s).rpl = s.rpl := logs_rpl (logs_haltRing r c s)
@[simp] theorem haltRing_jtag (r : RingId) (c : Nat) (s : State) : (haltRing r c s).jtag = s.jtag := logs_jtag (logs_haltRing r c s)
@[simp] theorem haltRing_freeCount (r : RingId) (c : Nat) (s : State) : (haltRing r c s).freeCount = s.freeCount := logs_freeCount (logs_haltRing r c s)
@[simp] theorem haltRing_pending (r : RingId) (c : Nat) (s : State) : (haltRing r c s).pending = s.pending := logs_pending (logs_haltRing r c s)

@[simp] theorem freezeStart_clk (c : Nat) (s : State) : (freezeStart c s).clk = s.clk := by unfold freezeStart; dsimp only; (repeat' split) <;> simp
@[simp] theorem freezeStart_boot (c : Nat) (s : State) : (freezeStart c s).boot = s.boot := by unfold freezeStart; dsimp only; (repeat' split) <;> simp
@[simp] theorem freezeStart_fuses (c : Nat) (s : State) : (freezeStart c s).fuses = s.fuses := by unfold freezeStart; dsimp only; (repeat' split) <;> simp
@[simp] theorem freezeStart_flash (c : Nat) (s : State) : (freezeStart c s).flash = s.flash := by unfold freezeStart; dsimp only; (repeat' split) <;> simp
@[simp] theorem freezeStart_time (c : Nat) (s : State) : (freezeStart c s).time = s.time := by unfold freezeStart; dsimp only; (repeat' split) <;> simp
@[simp] theorem freezeStart_cues (c : Nat) (s : State) : (freezeStart c s).cues = s.cues := by unfold freezeStart; dsimp only; (repeat' split) <;> simp
@[simp] theorem freezeStart_rwc (c : Nat) (s : State) : (freezeStart c s).rwc = s.rwc := by unfold freezeStart; dsimp only; (repeat' split) <;> simp
@[simp] theorem freezeStart_plan (c : Nat) (s : State) : (freezeStart c s).plan = s.plan := by unfold freezeStart; dsimp only; (repeat' split) <;> simp
@[simp] theorem freezeStart_ingest (c : Nat) (s : State) : (freezeStart c s).ingest = s.ingest := by unfold freezeStart; dsimp only; (repeat' split) <;> simp
@[simp] theorem freezeStart_xa (c : Nat) (s : State) : (freezeStart c s).xa = s.xa := by unfold freezeStart; dsimp only; (repeat' split) <;> simp
@[simp] theorem freezeStart_rmw (c : Nat) (s : State) : (freezeStart c s).rmw = s.rmw := by unfold freezeStart; dsimp only; (repeat' split) <;> simp
@[simp] theorem freezeStart_beams (c : Nat) (s : State) : (freezeStart c s).beams = s.beams := by unfold freezeStart; dsimp only; (repeat' split) <;> simp
@[simp] theorem freezeStart_riddle (c : Nat) (s : State) : (freezeStart c s).riddle = s.riddle := by unfold freezeStart; dsimp only; (repeat' split) <;> simp
@[simp] theorem freezeStart_cf (c : Nat) (s : State) : (freezeStart c s).cf = s.cf := by unfold freezeStart; dsimp only; (repeat' split) <;> simp
@[simp] theorem freezeStart_lanes (c : Nat) (s : State) : (freezeStart c s).lanes = s.lanes := by unfold freezeStart; dsimp only; (repeat' split) <;> simp
@[simp] theorem freezeStart_mesh (c : Nat) (s : State) : (freezeStart c s).mesh = s.mesh := by unfold freezeStart; dsimp only; (repeat' split) <;> simp
@[simp] theorem freezeStart_mem (c : Nat) (s : State) : (freezeStart c s).mem = s.mem := by unfold freezeStart; dsimp only; (repeat' split) <;> simp
@[simp] theorem freezeStart_tl (c : Nat) (s : State) : (freezeStart c s).tl = s.tl := by unfold freezeStart; dsimp only; (repeat' split) <;> simp
@[simp] theorem freezeStart_cells (c : Nat) (s : State) : (freezeStart c s).cells = s.cells := by unfold freezeStart; dsimp only; (repeat' split) <;> simp
@[simp] theorem freezeStart_sup (c : Nat) (s : State) : (freezeStart c s).sup = s.sup := by unfold freezeStart; dsimp only; (repeat' split) <;> simp
@[simp] theorem freezeStart_rpl (c : Nat) (s : State) : (freezeStart c s).rpl = s.rpl := by unfold freezeStart; dsimp only; (repeat' split) <;> simp
@[simp] theorem freezeStart_jtag (c : Nat) (s : State) : (freezeStart c s).jtag = s.jtag := by unfold freezeStart; dsimp only; (repeat' split) <;> simp
@[simp] theorem freezeStart_freeCount (c : Nat) (s : State) : (freezeStart c s).freeCount = s.freeCount := by unfold freezeStart; dsimp only; (repeat' split) <;> simp
@[simp] theorem freezeStart_pending (c : Nat) (s : State) : (freezeStart c s).pending = s.pending := by unfold freezeStart; dsimp only; (repeat' split) <;> simp

@[simp] theorem freezeOn_clk (c : Nat) (s : State) : (freezeOn c s).clk = s.clk := by unfold freezeOn; split <;> simp
@[simp] theorem freezeOn_boot (c : Nat) (s : State) : (freezeOn c s).boot = s.boot := by unfold freezeOn; split <;> simp
@[simp] theorem freezeOn_fuses (c : Nat) (s : State) : (freezeOn c s).fuses = s.fuses := by unfold freezeOn; split <;> simp
@[simp] theorem freezeOn_flash (c : Nat) (s : State) : (freezeOn c s).flash = s.flash := by unfold freezeOn; split <;> simp
@[simp] theorem freezeOn_time (c : Nat) (s : State) : (freezeOn c s).time = s.time := by unfold freezeOn; split <;> simp
@[simp] theorem freezeOn_cues (c : Nat) (s : State) : (freezeOn c s).cues = s.cues := by unfold freezeOn; split <;> simp
@[simp] theorem freezeOn_rwc (c : Nat) (s : State) : (freezeOn c s).rwc = s.rwc := by unfold freezeOn; split <;> simp
@[simp] theorem freezeOn_plan (c : Nat) (s : State) : (freezeOn c s).plan = s.plan := by unfold freezeOn; split <;> simp
@[simp] theorem freezeOn_ingest (c : Nat) (s : State) : (freezeOn c s).ingest = s.ingest := by unfold freezeOn; split <;> simp
@[simp] theorem freezeOn_xa (c : Nat) (s : State) : (freezeOn c s).xa = s.xa := by unfold freezeOn; split <;> simp
@[simp] theorem freezeOn_rmw (c : Nat) (s : State) : (freezeOn c s).rmw = s.rmw := by unfold freezeOn; split <;> simp
@[simp] theorem freezeOn_beams (c : Nat) (s : State) : (freezeOn c s).beams = s.beams := by unfold freezeOn; split <;> simp
@[simp] theorem freezeOn_riddle (c : Nat) (s : State) : (freezeOn c s).riddle = s.riddle := by unfold freezeOn; split <;> simp
@[simp] theorem freezeOn_cf (c : Nat) (s : State) : (freezeOn c s).cf = s.cf := by unfold freezeOn; split <;> simp
@[simp] theorem freezeOn_lanes (c : Nat) (s : State) : (freezeOn c s).lanes = s.lanes := by unfold freezeOn; split <;> simp
@[simp] theorem freezeOn_mesh (c : Nat) (s : State) : (freezeOn c s).mesh = s.mesh := by unfold freezeOn; split <;> simp
@[simp] theorem freezeOn_mem (c : Nat) (s : State) : (freezeOn c s).mem = s.mem := by unfold freezeOn; split <;> simp
@[simp] theorem freezeOn_tl (c : Nat) (s : State) : (freezeOn c s).tl = s.tl := by unfold freezeOn; split <;> simp
@[simp] theorem freezeOn_cells (c : Nat) (s : State) : (freezeOn c s).cells = s.cells := by unfold freezeOn; split <;> simp
@[simp] theorem freezeOn_sup (c : Nat) (s : State) : (freezeOn c s).sup = s.sup := by unfold freezeOn; split <;> simp
@[simp] theorem freezeOn_rpl (c : Nat) (s : State) : (freezeOn c s).rpl = s.rpl := by unfold freezeOn; split <;> simp
@[simp] theorem freezeOn_jtag (c : Nat) (s : State) : (freezeOn c s).jtag = s.jtag := by unfold freezeOn; split <;> simp
@[simp] theorem freezeOn_freeCount (c : Nat) (s : State) : (freezeOn c s).freeCount = s.freeCount := by unfold freezeOn; split <;> simp
@[simp] theorem freezeOn_pending (c : Nat) (s : State) : (freezeOn c s).pending = s.pending := by unfold freezeOn; split <;> simp

@[simp] theorem rewriteHealth_clk (s : State) : (rewriteHealth s).clk = s.clk := by unfold rewriteHealth; dsimp only; rw [record_clk]; (repeat' split) <;> rfl
@[simp] theorem rewriteHealth_boot (s : State) : (rewriteHealth s).boot = s.boot := by unfold rewriteHealth; dsimp only; rw [record_boot]; (repeat' split) <;> rfl
@[simp] theorem rewriteHealth_fuses (s : State) : (rewriteHealth s).fuses = s.fuses := by unfold rewriteHealth; dsimp only; rw [record_fuses]; (repeat' split) <;> rfl
@[simp] theorem rewriteHealth_time (s : State) : (rewriteHealth s).time = s.time := by unfold rewriteHealth; dsimp only; rw [record_time]; (repeat' split) <;> rfl
@[simp] theorem rewriteHealth_cues (s : State) : (rewriteHealth s).cues = s.cues := by unfold rewriteHealth; dsimp only; rw [record_cues]; (repeat' split) <;> rfl
@[simp] theorem rewriteHealth_rwc (s : State) : (rewriteHealth s).rwc = s.rwc := by unfold rewriteHealth; dsimp only; rw [record_rwc]; (repeat' split) <;> rfl
@[simp] theorem rewriteHealth_plan (s : State) : (rewriteHealth s).plan = s.plan := by unfold rewriteHealth; dsimp only; rw [record_plan]; (repeat' split) <;> rfl
@[simp] theorem rewriteHealth_ingest (s : State) : (rewriteHealth s).ingest = s.ingest := by unfold rewriteHealth; dsimp only; rw [record_ingest]; (repeat' split) <;> rfl
@[simp] theorem rewriteHealth_xa (s : State) : (rewriteHealth s).xa = s.xa := by unfold rewriteHealth; dsimp only; rw [record_xa]; (repeat' split) <;> rfl
@[simp] theorem rewriteHealth_rmw (s : State) : (rewriteHealth s).rmw = s.rmw := by unfold rewriteHealth; dsimp only; rw [record_rmw]; (repeat' split) <;> rfl
@[simp] theorem rewriteHealth_beams (s : State) : (rewriteHealth s).beams = s.beams := by unfold rewriteHealth; dsimp only; rw [record_beams]; (repeat' split) <;> rfl
@[simp] theorem rewriteHealth_riddle (s : State) : (rewriteHealth s).riddle = s.riddle := by unfold rewriteHealth; dsimp only; rw [record_riddle]; (repeat' split) <;> rfl
@[simp] theorem rewriteHealth_cf (s : State) : (rewriteHealth s).cf = s.cf := by unfold rewriteHealth; dsimp only; rw [record_cf]; (repeat' split) <;> rfl
@[simp] theorem rewriteHealth_lanes (s : State) : (rewriteHealth s).lanes = s.lanes := by unfold rewriteHealth; dsimp only; rw [record_lanes]; (repeat' split) <;> rfl
@[simp] theorem rewriteHealth_mesh (s : State) : (rewriteHealth s).mesh = s.mesh := by unfold rewriteHealth; dsimp only; rw [record_mesh]; (repeat' split) <;> rfl
@[simp] theorem rewriteHealth_mem (s : State) : (rewriteHealth s).mem = s.mem := by unfold rewriteHealth; dsimp only; rw [record_mem]; (repeat' split) <;> rfl
@[simp] theorem rewriteHealth_tl (s : State) : (rewriteHealth s).tl = s.tl := by unfold rewriteHealth; dsimp only; rw [record_tl]; (repeat' split) <;> rfl
@[simp] theorem rewriteHealth_cells (s : State) : (rewriteHealth s).cells = s.cells := by unfold rewriteHealth; dsimp only; rw [record_cells]; (repeat' split) <;> rfl
@[simp] theorem rewriteHealth_sup (s : State) : (rewriteHealth s).sup = s.sup := by unfold rewriteHealth; dsimp only; rw [record_sup]; (repeat' split) <;> rfl
@[simp] theorem rewriteHealth_gk (s : State) : (rewriteHealth s).gk = s.gk := by unfold rewriteHealth; dsimp only; rw [record_gk]; (repeat' split) <;> rfl
@[simp] theorem rewriteHealth_rpl (s : State) : (rewriteHealth s).rpl = s.rpl := by unfold rewriteHealth; dsimp only; rw [record_rpl]; (repeat' split) <;> rfl
@[simp] theorem rewriteHealth_jtag (s : State) : (rewriteHealth s).jtag = s.jtag := by unfold rewriteHealth; dsimp only; rw [record_jtag]; (repeat' split) <;> rfl
@[simp] theorem rewriteHealth_freeCount (s : State) : (rewriteHealth s).freeCount = s.freeCount := by unfold rewriteHealth; dsimp only; rw [record_freeCount]; (repeat' split) <;> rfl
@[simp] theorem rewriteHealth_pending (s : State) : (rewriteHealth s).pending = s.pending := by unfold rewriteHealth; dsimp only; rw [record_pending]; (repeat' split) <;> rfl

@[simp] theorem withdrawPlan_clk (p : Plan) (r : Nat) (s : State) : (withdrawPlan p r s).clk = s.clk := by simp [withdrawPlan]
@[simp] theorem withdrawPlan_boot (p : Plan) (r : Nat) (s : State) : (withdrawPlan p r s).boot = s.boot := by simp [withdrawPlan]
@[simp] theorem withdrawPlan_fuses (p : Plan) (r : Nat) (s : State) : (withdrawPlan p r s).fuses = s.fuses := by simp [withdrawPlan]
@[simp] theorem withdrawPlan_flash (p : Plan) (r : Nat) (s : State) : (withdrawPlan p r s).flash = s.flash := by simp [withdrawPlan]
@[simp] theorem withdrawPlan_time (p : Plan) (r : Nat) (s : State) : (withdrawPlan p r s).time = s.time := by simp [withdrawPlan]
@[simp] theorem withdrawPlan_cues (p : Plan) (r : Nat) (s : State) : (withdrawPlan p r s).cues = s.cues := by simp [withdrawPlan]
@[simp] theorem withdrawPlan_rwc (p : Plan) (r : Nat) (s : State) : (withdrawPlan p r s).rwc = s.rwc := by simp [withdrawPlan]
@[simp] theorem withdrawPlan_ingest (p : Plan) (r : Nat) (s : State) : (withdrawPlan p r s).ingest = s.ingest := by simp [withdrawPlan]
@[simp] theorem withdrawPlan_xa (p : Plan) (r : Nat) (s : State) : (withdrawPlan p r s).xa = s.xa := by simp [withdrawPlan]
@[simp] theorem withdrawPlan_rmw (p : Plan) (r : Nat) (s : State) : (withdrawPlan p r s).rmw = s.rmw := by simp [withdrawPlan]
@[simp] theorem withdrawPlan_beams (p : Plan) (r : Nat) (s : State) : (withdrawPlan p r s).beams = s.beams := by simp [withdrawPlan]
@[simp] theorem withdrawPlan_riddle (p : Plan) (r : Nat) (s : State) : (withdrawPlan p r s).riddle = s.riddle := by simp [withdrawPlan]
@[simp] theorem withdrawPlan_cf (p : Plan) (r : Nat) (s : State) : (withdrawPlan p r s).cf = s.cf := by simp [withdrawPlan]
@[simp] theorem withdrawPlan_lanes (p : Plan) (r : Nat) (s : State) : (withdrawPlan p r s).lanes = s.lanes := by simp [withdrawPlan]
@[simp] theorem withdrawPlan_mesh (p : Plan) (r : Nat) (s : State) : (withdrawPlan p r s).mesh = s.mesh := by simp [withdrawPlan]
@[simp] theorem withdrawPlan_mem (p : Plan) (r : Nat) (s : State) : (withdrawPlan p r s).mem = s.mem := by simp [withdrawPlan]
@[simp] theorem withdrawPlan_tl (p : Plan) (r : Nat) (s : State) : (withdrawPlan p r s).tl = s.tl := by simp [withdrawPlan]
@[simp] theorem withdrawPlan_cells (p : Plan) (r : Nat) (s : State) : (withdrawPlan p r s).cells = s.cells := by simp [withdrawPlan]
@[simp] theorem withdrawPlan_sup (p : Plan) (r : Nat) (s : State) : (withdrawPlan p r s).sup = s.sup := by simp [withdrawPlan]
@[simp] theorem withdrawPlan_gk (p : Plan) (r : Nat) (s : State) : (withdrawPlan p r s).gk = s.gk := by simp [withdrawPlan]
@[simp] theorem withdrawPlan_rpl (p : Plan) (r : Nat) (s : State) : (withdrawPlan p r s).rpl = s.rpl := by simp [withdrawPlan]
@[simp] theorem withdrawPlan_jtag (p : Plan) (r : Nat) (s : State) : (withdrawPlan p r s).jtag = s.jtag := by simp [withdrawPlan]
@[simp] theorem withdrawPlan_freeCount (p : Plan) (r : Nat) (s : State) : (withdrawPlan p r s).freeCount = s.freeCount := by simp [withdrawPlan]
@[simp] theorem withdrawPlan_pending (p : Plan) (r : Nat) (s : State) : (withdrawPlan p r s).pending = s.pending := by simp [withdrawPlan]

@[simp] theorem forcePlan_clk (c : Nat) (s : State) : (forcePlan c s).clk = s.clk := by unfold forcePlan forcePlan.start; (repeat' split) <;> simp
@[simp] theorem forcePlan_boot (c : Nat) (s : State) : (forcePlan c s).boot = s.boot := by unfold forcePlan forcePlan.start; (repeat' split) <;> simp
@[simp] theorem forcePlan_fuses (c : Nat) (s : State) : (forcePlan c s).fuses = s.fuses := by unfold forcePlan forcePlan.start; (repeat' split) <;> simp
@[simp] theorem forcePlan_flash (c : Nat) (s : State) : (forcePlan c s).flash = s.flash := by unfold forcePlan forcePlan.start; (repeat' split) <;> simp
@[simp] theorem forcePlan_time (c : Nat) (s : State) : (forcePlan c s).time = s.time := by unfold forcePlan forcePlan.start; (repeat' split) <;> simp
@[simp] theorem forcePlan_cues (c : Nat) (s : State) : (forcePlan c s).cues = s.cues := by unfold forcePlan forcePlan.start; (repeat' split) <;> simp
@[simp] theorem forcePlan_rwc (c : Nat) (s : State) : (forcePlan c s).rwc = s.rwc := by unfold forcePlan forcePlan.start; (repeat' split) <;> simp
@[simp] theorem forcePlan_ingest (c : Nat) (s : State) : (forcePlan c s).ingest = s.ingest := by unfold forcePlan forcePlan.start; (repeat' split) <;> simp
@[simp] theorem forcePlan_xa (c : Nat) (s : State) : (forcePlan c s).xa = s.xa := by unfold forcePlan forcePlan.start; (repeat' split) <;> simp
@[simp] theorem forcePlan_rmw (c : Nat) (s : State) : (forcePlan c s).rmw = s.rmw := by unfold forcePlan forcePlan.start; (repeat' split) <;> simp
@[simp] theorem forcePlan_beams (c : Nat) (s : State) : (forcePlan c s).beams = s.beams := by unfold forcePlan forcePlan.start; (repeat' split) <;> simp
@[simp] theorem forcePlan_riddle (c : Nat) (s : State) : (forcePlan c s).riddle = s.riddle := by unfold forcePlan forcePlan.start; (repeat' split) <;> simp
@[simp] theorem forcePlan_cf (c : Nat) (s : State) : (forcePlan c s).cf = s.cf := by unfold forcePlan forcePlan.start; (repeat' split) <;> simp
@[simp] theorem forcePlan_lanes (c : Nat) (s : State) : (forcePlan c s).lanes = s.lanes := by unfold forcePlan forcePlan.start; (repeat' split) <;> simp
@[simp] theorem forcePlan_mesh (c : Nat) (s : State) : (forcePlan c s).mesh = s.mesh := by unfold forcePlan forcePlan.start; (repeat' split) <;> simp
@[simp] theorem forcePlan_mem (c : Nat) (s : State) : (forcePlan c s).mem = s.mem := by unfold forcePlan forcePlan.start; (repeat' split) <;> simp
@[simp] theorem forcePlan_tl (c : Nat) (s : State) : (forcePlan c s).tl = s.tl := by unfold forcePlan forcePlan.start; (repeat' split) <;> simp
@[simp] theorem forcePlan_cells (c : Nat) (s : State) : (forcePlan c s).cells = s.cells := by unfold forcePlan forcePlan.start; (repeat' split) <;> simp
@[simp] theorem forcePlan_sup (c : Nat) (s : State) : (forcePlan c s).sup = s.sup := by unfold forcePlan forcePlan.start; (repeat' split) <;> simp
@[simp] theorem forcePlan_gk (c : Nat) (s : State) : (forcePlan c s).gk = s.gk := by unfold forcePlan forcePlan.start; (repeat' split) <;> simp
@[simp] theorem forcePlan_rpl (c : Nat) (s : State) : (forcePlan c s).rpl = s.rpl := by unfold forcePlan forcePlan.start; (repeat' split) <;> simp
@[simp] theorem forcePlan_jtag (c : Nat) (s : State) : (forcePlan c s).jtag = s.jtag := by unfold forcePlan forcePlan.start; (repeat' split) <;> simp
@[simp] theorem forcePlan_freeCount (c : Nat) (s : State) : (forcePlan c s).freeCount = s.freeCount := by unfold forcePlan forcePlan.start; (repeat' split) <;> simp
@[simp] theorem forcePlan_pending (c : Nat) (s : State) : (forcePlan c s).pending = s.pending := by unfold forcePlan forcePlan.start; (repeat' split) <;> simp

@[simp] theorem takeRecords_clk (n : Nat) (s : State) : (takeRecords n s).clk = s.clk := by
  induction n generalizing s with
  | zero => rfl
  | succ n ih => unfold takeRecords; (repeat' split) <;> first | rfl | simp [ih]
@[simp] theorem takeRecords_boot (n : Nat) (s : State) : (takeRecords n s).boot = s.boot := by
  induction n generalizing s with
  | zero => rfl
  | succ n ih => unfold takeRecords; (repeat' split) <;> first | rfl | simp [ih]
@[simp] theorem takeRecords_fuses (n : Nat) (s : State) : (takeRecords n s).fuses = s.fuses := by
  induction n generalizing s with
  | zero => rfl
  | succ n ih => unfold takeRecords; (repeat' split) <;> first | rfl | simp [ih]
@[simp] theorem takeRecords_flash (n : Nat) (s : State) : (takeRecords n s).flash = s.flash := by
  induction n generalizing s with
  | zero => rfl
  | succ n ih => unfold takeRecords; (repeat' split) <;> first | rfl | simp [ih]
@[simp] theorem takeRecords_time (n : Nat) (s : State) : (takeRecords n s).time = s.time := by
  induction n generalizing s with
  | zero => rfl
  | succ n ih => unfold takeRecords; (repeat' split) <;> first | rfl | simp [ih]
@[simp] theorem takeRecords_cues (n : Nat) (s : State) : (takeRecords n s).cues = s.cues := by
  induction n generalizing s with
  | zero => rfl
  | succ n ih => unfold takeRecords; (repeat' split) <;> first | rfl | simp [ih]
@[simp] theorem takeRecords_rwc (n : Nat) (s : State) : (takeRecords n s).rwc = s.rwc := by
  induction n generalizing s with
  | zero => rfl
  | succ n ih => unfold takeRecords; (repeat' split) <;> first | rfl | simp [ih]
@[simp] theorem takeRecords_plan (n : Nat) (s : State) : (takeRecords n s).plan = s.plan := by
  induction n generalizing s with
  | zero => rfl
  | succ n ih => unfold takeRecords; (repeat' split) <;> first | rfl | simp [ih]
@[simp] theorem takeRecords_ingest (n : Nat) (s : State) : (takeRecords n s).ingest = s.ingest := by
  induction n generalizing s with
  | zero => rfl
  | succ n ih => unfold takeRecords; (repeat' split) <;> first | rfl | simp [ih]
@[simp] theorem takeRecords_xa (n : Nat) (s : State) : (takeRecords n s).xa = s.xa := by
  induction n generalizing s with
  | zero => rfl
  | succ n ih => unfold takeRecords; (repeat' split) <;> first | rfl | simp [ih]
@[simp] theorem takeRecords_rmw (n : Nat) (s : State) : (takeRecords n s).rmw = s.rmw := by
  induction n generalizing s with
  | zero => rfl
  | succ n ih => unfold takeRecords; (repeat' split) <;> first | rfl | simp [ih]
@[simp] theorem takeRecords_beams (n : Nat) (s : State) : (takeRecords n s).beams = s.beams := by
  induction n generalizing s with
  | zero => rfl
  | succ n ih => unfold takeRecords; (repeat' split) <;> first | rfl | simp [ih]
@[simp] theorem takeRecords_riddle (n : Nat) (s : State) : (takeRecords n s).riddle = s.riddle := by
  induction n generalizing s with
  | zero => rfl
  | succ n ih => unfold takeRecords; (repeat' split) <;> first | rfl | simp [ih]
@[simp] theorem takeRecords_cf (n : Nat) (s : State) : (takeRecords n s).cf = s.cf := by
  induction n generalizing s with
  | zero => rfl
  | succ n ih => unfold takeRecords; (repeat' split) <;> first | rfl | simp [ih]
@[simp] theorem takeRecords_mesh (n : Nat) (s : State) : (takeRecords n s).mesh = s.mesh := by
  induction n generalizing s with
  | zero => rfl
  | succ n ih => unfold takeRecords; (repeat' split) <;> first | rfl | simp [ih]
@[simp] theorem takeRecords_mem (n : Nat) (s : State) : (takeRecords n s).mem = s.mem := by
  induction n generalizing s with
  | zero => rfl
  | succ n ih => unfold takeRecords; (repeat' split) <;> first | rfl | simp [ih]
@[simp] theorem takeRecords_tl (n : Nat) (s : State) : (takeRecords n s).tl = s.tl := by
  induction n generalizing s with
  | zero => rfl
  | succ n ih => unfold takeRecords; (repeat' split) <;> first | rfl | simp [ih]
@[simp] theorem takeRecords_cells (n : Nat) (s : State) : (takeRecords n s).cells = s.cells := by
  induction n generalizing s with
  | zero => rfl
  | succ n ih => unfold takeRecords; (repeat' split) <;> first | rfl | simp [ih]
@[simp] theorem takeRecords_sup (n : Nat) (s : State) : (takeRecords n s).sup = s.sup := by
  induction n generalizing s with
  | zero => rfl
  | succ n ih => unfold takeRecords; (repeat' split) <;> first | rfl | simp [ih]
@[simp] theorem takeRecords_gk (n : Nat) (s : State) : (takeRecords n s).gk = s.gk := by
  induction n generalizing s with
  | zero => rfl
  | succ n ih => unfold takeRecords; (repeat' split) <;> first | rfl | simp [ih]
@[simp] theorem takeRecords_rpl (n : Nat) (s : State) : (takeRecords n s).rpl = s.rpl := by
  induction n generalizing s with
  | zero => rfl
  | succ n ih => unfold takeRecords; (repeat' split) <;> first | rfl | simp [ih]
@[simp] theorem takeRecords_jtag (n : Nat) (s : State) : (takeRecords n s).jtag = s.jtag := by
  induction n generalizing s with
  | zero => rfl
  | succ n ih => unfold takeRecords; (repeat' split) <;> first | rfl | simp [ih]
@[simp] theorem takeRecords_freeCount (n : Nat) (s : State) : (takeRecords n s).freeCount = s.freeCount := by
  induction n generalizing s with
  | zero => rfl
  | succ n ih => unfold takeRecords; (repeat' split) <;> first | rfl | simp [ih]
@[simp] theorem takeRecords_pending (n : Nat) (s : State) : (takeRecords n s).pending = s.pending := by
  induction n generalizing s with
  | zero => rfl
  | succ n ih => unfold takeRecords; (repeat' split) <;> first | rfl | simp [ih]

@[simp] theorem takeAll_clk (s : State) : (takeAll s).clk = s.clk := by unfold takeAll; split <;> simp
@[simp] theorem takeAll_boot (s : State) : (takeAll s).boot = s.boot := by unfold takeAll; split <;> simp
@[simp] theorem takeAll_fuses (s : State) : (takeAll s).fuses = s.fuses := by unfold takeAll; split <;> simp
@[simp] theorem takeAll_flash (s : State) : (takeAll s).flash = s.flash := by unfold takeAll; split <;> simp
@[simp] theorem takeAll_time (s : State) : (takeAll s).time = s.time := by unfold takeAll; split <;> simp
@[simp] theorem takeAll_cues (s : State) : (takeAll s).cues = s.cues := by unfold takeAll; split <;> simp
@[simp] theorem takeAll_rwc (s : State) : (takeAll s).rwc = s.rwc := by unfold takeAll; split <;> simp
@[simp] theorem takeAll_plan (s : State) : (takeAll s).plan = s.plan := by unfold takeAll; split <;> simp
@[simp] theorem takeAll_ingest (s : State) : (takeAll s).ingest = s.ingest := by unfold takeAll; split <;> simp
@[simp] theorem takeAll_xa (s : State) : (takeAll s).xa = s.xa := by unfold takeAll; split <;> simp
@[simp] theorem takeAll_rmw (s : State) : (takeAll s).rmw = s.rmw := by unfold takeAll; split <;> simp
@[simp] theorem takeAll_beams (s : State) : (takeAll s).beams = s.beams := by unfold takeAll; split <;> simp
@[simp] theorem takeAll_riddle (s : State) : (takeAll s).riddle = s.riddle := by unfold takeAll; split <;> simp
@[simp] theorem takeAll_cf (s : State) : (takeAll s).cf = s.cf := by unfold takeAll; split <;> simp
@[simp] theorem takeAll_mesh (s : State) : (takeAll s).mesh = s.mesh := by unfold takeAll; split <;> simp
@[simp] theorem takeAll_mem (s : State) : (takeAll s).mem = s.mem := by unfold takeAll; split <;> simp
@[simp] theorem takeAll_tl (s : State) : (takeAll s).tl = s.tl := by unfold takeAll; split <;> simp
@[simp] theorem takeAll_cells (s : State) : (takeAll s).cells = s.cells := by unfold takeAll; split <;> simp
@[simp] theorem takeAll_sup (s : State) : (takeAll s).sup = s.sup := by unfold takeAll; split <;> simp
@[simp] theorem takeAll_gk (s : State) : (takeAll s).gk = s.gk := by unfold takeAll; split <;> simp
@[simp] theorem takeAll_rpl (s : State) : (takeAll s).rpl = s.rpl := by unfold takeAll; split <;> simp
@[simp] theorem takeAll_jtag (s : State) : (takeAll s).jtag = s.jtag := by unfold takeAll; split <;> simp
@[simp] theorem takeAll_freeCount (s : State) : (takeAll s).freeCount = s.freeCount := by unfold takeAll; split <;> simp
@[simp] theorem takeAll_pending (s : State) : (takeAll s).pending = s.pending := by unfold takeAll; split <;> simp

@[simp] theorem enqueueRecord_clk (c : Nat) (d : List Byte) (s : State) : (enqueueRecord c d s).clk = s.clk := by unfold enqueueRecord; dsimp only; (repeat' split) <;> first | rfl | simp
@[simp] theorem enqueueRecord_boot (c : Nat) (d : List Byte) (s : State) : (enqueueRecord c d s).boot = s.boot := by unfold enqueueRecord; dsimp only; (repeat' split) <;> first | rfl | simp
@[simp] theorem enqueueRecord_fuses (c : Nat) (d : List Byte) (s : State) : (enqueueRecord c d s).fuses = s.fuses := by unfold enqueueRecord; dsimp only; (repeat' split) <;> first | rfl | simp
@[simp] theorem enqueueRecord_flash (c : Nat) (d : List Byte) (s : State) : (enqueueRecord c d s).flash = s.flash := by unfold enqueueRecord; dsimp only; (repeat' split) <;> first | rfl | simp
@[simp] theorem enqueueRecord_time (c : Nat) (d : List Byte) (s : State) : (enqueueRecord c d s).time = s.time := by unfold enqueueRecord; dsimp only; (repeat' split) <;> first | rfl | simp
@[simp] theorem enqueueRecord_cues (c : Nat) (d : List Byte) (s : State) : (enqueueRecord c d s).cues = s.cues := by unfold enqueueRecord; dsimp only; (repeat' split) <;> first | rfl | simp
@[simp] theorem enqueueRecord_rwc (c : Nat) (d : List Byte) (s : State) : (enqueueRecord c d s).rwc = s.rwc := by unfold enqueueRecord; dsimp only; (repeat' split) <;> first | rfl | simp
@[simp] theorem enqueueRecord_plan (c : Nat) (d : List Byte) (s : State) : (enqueueRecord c d s).plan = s.plan := by unfold enqueueRecord; dsimp only; (repeat' split) <;> first | rfl | simp
@[simp] theorem enqueueRecord_ingest (c : Nat) (d : List Byte) (s : State) : (enqueueRecord c d s).ingest = s.ingest := by unfold enqueueRecord; dsimp only; (repeat' split) <;> first | rfl | simp
@[simp] theorem enqueueRecord_xa (c : Nat) (d : List Byte) (s : State) : (enqueueRecord c d s).xa = s.xa := by unfold enqueueRecord; dsimp only; (repeat' split) <;> first | rfl | simp
@[simp] theorem enqueueRecord_rmw (c : Nat) (d : List Byte) (s : State) : (enqueueRecord c d s).rmw = s.rmw := by unfold enqueueRecord; dsimp only; (repeat' split) <;> first | rfl | simp
@[simp] theorem enqueueRecord_beams (c : Nat) (d : List Byte) (s : State) : (enqueueRecord c d s).beams = s.beams := by unfold enqueueRecord; dsimp only; (repeat' split) <;> first | rfl | simp
@[simp] theorem enqueueRecord_riddle (c : Nat) (d : List Byte) (s : State) : (enqueueRecord c d s).riddle = s.riddle := by unfold enqueueRecord; dsimp only; (repeat' split) <;> first | rfl | simp
@[simp] theorem enqueueRecord_cf (c : Nat) (d : List Byte) (s : State) : (enqueueRecord c d s).cf = s.cf := by unfold enqueueRecord; dsimp only; (repeat' split) <;> first | rfl | simp
@[simp] theorem enqueueRecord_mesh (c : Nat) (d : List Byte) (s : State) : (enqueueRecord c d s).mesh = s.mesh := by unfold enqueueRecord; dsimp only; (repeat' split) <;> first | rfl | simp
@[simp] theorem enqueueRecord_mem (c : Nat) (d : List Byte) (s : State) : (enqueueRecord c d s).mem = s.mem := by unfold enqueueRecord; dsimp only; (repeat' split) <;> first | rfl | simp
@[simp] theorem enqueueRecord_tl (c : Nat) (d : List Byte) (s : State) : (enqueueRecord c d s).tl = s.tl := by unfold enqueueRecord; dsimp only; (repeat' split) <;> first | rfl | simp
@[simp] theorem enqueueRecord_cells (c : Nat) (d : List Byte) (s : State) : (enqueueRecord c d s).cells = s.cells := by unfold enqueueRecord; dsimp only; (repeat' split) <;> first | rfl | simp
@[simp] theorem enqueueRecord_sup (c : Nat) (d : List Byte) (s : State) : (enqueueRecord c d s).sup = s.sup := by unfold enqueueRecord; dsimp only; (repeat' split) <;> first | rfl | simp
@[simp] theorem enqueueRecord_gk (c : Nat) (d : List Byte) (s : State) : (enqueueRecord c d s).gk = s.gk := by unfold enqueueRecord; dsimp only; (repeat' split) <;> first | rfl | simp
@[simp] theorem enqueueRecord_rpl (c : Nat) (d : List Byte) (s : State) : (enqueueRecord c d s).rpl = s.rpl := by unfold enqueueRecord; dsimp only; (repeat' split) <;> first | rfl | simp
@[simp] theorem enqueueRecord_jtag (c : Nat) (d : List Byte) (s : State) : (enqueueRecord c d s).jtag = s.jtag := by unfold enqueueRecord; dsimp only; (repeat' split) <;> first | rfl | simp
@[simp] theorem enqueueRecord_freeCount (c : Nat) (d : List Byte) (s : State) : (enqueueRecord c d s).freeCount = s.freeCount := by unfold enqueueRecord; dsimp only; (repeat' split) <;> first | rfl | simp
@[simp] theorem enqueueRecord_pending (c : Nat) (d : List Byte) (s : State) : (enqueueRecord c d s).pending = s.pending := by unfold enqueueRecord; dsimp only; (repeat' split) <;> first | rfl | simp

@[simp] theorem setTimeState_clk (x : TimeState) (s : State) : (setTimeState x s).clk = s.clk := by unfold setTimeState; dsimp only; (repeat' split) <;> first | rfl | simp
@[simp] theorem setTimeState_boot (x : TimeState) (s : State) : (setTimeState x s).boot = s.boot := by unfold setTimeState; dsimp only; (repeat' split) <;> first | rfl | simp
@[simp] theorem setTimeState_fuses (x : TimeState) (s : State) : (setTimeState x s).fuses = s.fuses := by unfold setTimeState; dsimp only; (repeat' split) <;> first | rfl | simp
@[simp] theorem setTimeState_flash (x : TimeState) (s : State) : (setTimeState x s).flash = s.flash := by unfold setTimeState; dsimp only; (repeat' split) <;> first | rfl | simp
@[simp] theorem setTimeState_cues (x : TimeState) (s : State) : (setTimeState x s).cues = s.cues := by unfold setTimeState; dsimp only; (repeat' split) <;> first | rfl | simp
@[simp] theorem setTimeState_rwc (x : TimeState) (s : State) : (setTimeState x s).rwc = s.rwc := by unfold setTimeState; dsimp only; (repeat' split) <;> first | rfl | simp
@[simp] theorem setTimeState_plan (x : TimeState) (s : State) : (setTimeState x s).plan = s.plan := by unfold setTimeState; dsimp only; (repeat' split) <;> first | rfl | simp
@[simp] theorem setTimeState_ingest (x : TimeState) (s : State) : (setTimeState x s).ingest = s.ingest := by unfold setTimeState; dsimp only; (repeat' split) <;> first | rfl | simp
@[simp] theorem setTimeState_xa (x : TimeState) (s : State) : (setTimeState x s).xa = s.xa := by unfold setTimeState; dsimp only; (repeat' split) <;> first | rfl | simp
@[simp] theorem setTimeState_rmw (x : TimeState) (s : State) : (setTimeState x s).rmw = s.rmw := by unfold setTimeState; dsimp only; (repeat' split) <;> first | rfl | simp
@[simp] theorem setTimeState_beams (x : TimeState) (s : State) : (setTimeState x s).beams = s.beams := by unfold setTimeState; dsimp only; (repeat' split) <;> first | rfl | simp
@[simp] theorem setTimeState_riddle (x : TimeState) (s : State) : (setTimeState x s).riddle = s.riddle := by unfold setTimeState; dsimp only; (repeat' split) <;> first | rfl | simp
@[simp] theorem setTimeState_cf (x : TimeState) (s : State) : (setTimeState x s).cf = s.cf := by unfold setTimeState; dsimp only; (repeat' split) <;> first | rfl | simp
@[simp] theorem setTimeState_lanes (x : TimeState) (s : State) : (setTimeState x s).lanes = s.lanes := by unfold setTimeState; dsimp only; (repeat' split) <;> first | rfl | simp
@[simp] theorem setTimeState_mesh (x : TimeState) (s : State) : (setTimeState x s).mesh = s.mesh := by unfold setTimeState; dsimp only; (repeat' split) <;> first | rfl | simp
@[simp] theorem setTimeState_mem (x : TimeState) (s : State) : (setTimeState x s).mem = s.mem := by unfold setTimeState; dsimp only; (repeat' split) <;> first | rfl | simp
@[simp] theorem setTimeState_tl (x : TimeState) (s : State) : (setTimeState x s).tl = s.tl := by unfold setTimeState; dsimp only; (repeat' split) <;> first | rfl | simp
@[simp] theorem setTimeState_cells (x : TimeState) (s : State) : (setTimeState x s).cells = s.cells := by unfold setTimeState; dsimp only; (repeat' split) <;> first | rfl | simp
@[simp] theorem setTimeState_sup (x : TimeState) (s : State) : (setTimeState x s).sup = s.sup := by unfold setTimeState; dsimp only; (repeat' split) <;> first | rfl | simp
@[simp] theorem setTimeState_gk (x : TimeState) (s : State) : (setTimeState x s).gk = s.gk := by unfold setTimeState; dsimp only; (repeat' split) <;> first | rfl | simp
@[simp] theorem setTimeState_rpl (x : TimeState) (s : State) : (setTimeState x s).rpl = s.rpl := by unfold setTimeState; dsimp only; (repeat' split) <;> first | rfl | simp
@[simp] theorem setTimeState_jtag (x : TimeState) (s : State) : (setTimeState x s).jtag = s.jtag := by unfold setTimeState; dsimp only; (repeat' split) <;> first | rfl | simp
@[simp] theorem setTimeState_freeCount (x : TimeState) (s : State) : (setTimeState x s).freeCount = s.freeCount := by unfold setTimeState; dsimp only; (repeat' split) <;> first | rfl | simp
@[simp] theorem setTimeState_pending (x : TimeState) (s : State) : (setTimeState x s).pending = s.pending := by unfold setTimeState; dsimp only; (repeat' split) <;> first | rfl | simp

@[simp] theorem setRate_clk (r : BitVec 32) (s : State) : (setRate r s).clk = s.clk := by unfold setRate; split <;> simp
@[simp] theorem setRate_boot (r : BitVec 32) (s : State) : (setRate r s).boot = s.boot := by unfold setRate; split <;> simp
@[simp] theorem setRate_fuses (r : BitVec 32) (s : State) : (setRate r s).fuses = s.fuses := by unfold setRate; split <;> simp
@[simp] theorem setRate_flash (r : BitVec 32) (s : State) : (setRate r s).flash = s.flash := by unfold setRate; split <;> simp
@[simp] theorem setRate_cues (r : BitVec 32) (s : State) : (setRate r s).cues = s.cues := by unfold setRate; split <;> simp
@[simp] theorem setRate_rwc (r : BitVec 32) (s : State) : (setRate r s).rwc = s.rwc := by unfold setRate; split <;> simp
@[simp] theorem setRate_plan (r : BitVec 32) (s : State) : (setRate r s).plan = s.plan := by unfold setRate; split <;> simp
@[simp] theorem setRate_ingest (r : BitVec 32) (s : State) : (setRate r s).ingest = s.ingest := by unfold setRate; split <;> simp
@[simp] theorem setRate_xa (r : BitVec 32) (s : State) : (setRate r s).xa = s.xa := by unfold setRate; split <;> simp
@[simp] theorem setRate_rmw (r : BitVec 32) (s : State) : (setRate r s).rmw = s.rmw := by unfold setRate; split <;> simp
@[simp] theorem setRate_beams (r : BitVec 32) (s : State) : (setRate r s).beams = s.beams := by unfold setRate; split <;> simp
@[simp] theorem setRate_riddle (r : BitVec 32) (s : State) : (setRate r s).riddle = s.riddle := by unfold setRate; split <;> simp
@[simp] theorem setRate_cf (r : BitVec 32) (s : State) : (setRate r s).cf = s.cf := by unfold setRate; split <;> simp
@[simp] theorem setRate_lanes (r : BitVec 32) (s : State) : (setRate r s).lanes = s.lanes := by unfold setRate; split <;> simp
@[simp] theorem setRate_mesh (r : BitVec 32) (s : State) : (setRate r s).mesh = s.mesh := by unfold setRate; split <;> simp
@[simp] theorem setRate_mem (r : BitVec 32) (s : State) : (setRate r s).mem = s.mem := by unfold setRate; split <;> simp
@[simp] theorem setRate_tl (r : BitVec 32) (s : State) : (setRate r s).tl = s.tl := by unfold setRate; split <;> simp
@[simp] theorem setRate_cells (r : BitVec 32) (s : State) : (setRate r s).cells = s.cells := by unfold setRate; split <;> simp
@[simp] theorem setRate_sup (r : BitVec 32) (s : State) : (setRate r s).sup = s.sup := by unfold setRate; split <;> simp
@[simp] theorem setRate_gk (r : BitVec 32) (s : State) : (setRate r s).gk = s.gk := by unfold setRate; split <;> simp
@[simp] theorem setRate_rpl (r : BitVec 32) (s : State) : (setRate r s).rpl = s.rpl := by unfold setRate; split <;> simp
@[simp] theorem setRate_jtag (r : BitVec 32) (s : State) : (setRate r s).jtag = s.jtag := by unfold setRate; split <;> simp
@[simp] theorem setRate_freeCount (r : BitVec 32) (s : State) : (setRate r s).freeCount = s.freeCount := by unfold setRate; split <;> simp
@[simp] theorem setRate_pending (r : BitVec 32) (s : State) : (setRate r s).pending = s.pending := by unfold setRate; split <;> simp

@[simp] theorem holdRate_clk (s : State) : (enterHeld.holdRate s).clk = s.clk := by unfold enterHeld.holdRate; simp
@[simp] theorem holdRate_boot (s : State) : (enterHeld.holdRate s).boot = s.boot := by unfold enterHeld.holdRate; simp
@[simp] theorem holdRate_fuses (s : State) : (enterHeld.holdRate s).fuses = s.fuses := by unfold enterHeld.holdRate; simp
@[simp] theorem holdRate_flash (s : State) : (enterHeld.holdRate s).flash = s.flash := by unfold enterHeld.holdRate; simp
@[simp] theorem holdRate_cues (s : State) : (enterHeld.holdRate s).cues = s.cues := by unfold enterHeld.holdRate; simp
@[simp] theorem holdRate_rwc (s : State) : (enterHeld.holdRate s).rwc = s.rwc := by unfold enterHeld.holdRate; simp
@[simp] theorem holdRate_plan (s : State) : (enterHeld.holdRate s).plan = s.plan := by unfold enterHeld.holdRate; simp
@[simp] theorem holdRate_ingest (s : State) : (enterHeld.holdRate s).ingest = s.ingest := by unfold enterHeld.holdRate; simp
@[simp] theorem holdRate_xa (s : State) : (enterHeld.holdRate s).xa = s.xa := by unfold enterHeld.holdRate; simp
@[simp] theorem holdRate_rmw (s : State) : (enterHeld.holdRate s).rmw = s.rmw := by unfold enterHeld.holdRate; simp
@[simp] theorem holdRate_beams (s : State) : (enterHeld.holdRate s).beams = s.beams := by unfold enterHeld.holdRate; simp
@[simp] theorem holdRate_riddle (s : State) : (enterHeld.holdRate s).riddle = s.riddle := by unfold enterHeld.holdRate; simp
@[simp] theorem holdRate_cf (s : State) : (enterHeld.holdRate s).cf = s.cf := by unfold enterHeld.holdRate; simp
@[simp] theorem holdRate_lanes (s : State) : (enterHeld.holdRate s).lanes = s.lanes := by unfold enterHeld.holdRate; simp
@[simp] theorem holdRate_mesh (s : State) : (enterHeld.holdRate s).mesh = s.mesh := by unfold enterHeld.holdRate; simp
@[simp] theorem holdRate_mem (s : State) : (enterHeld.holdRate s).mem = s.mem := by unfold enterHeld.holdRate; simp
@[simp] theorem holdRate_tl (s : State) : (enterHeld.holdRate s).tl = s.tl := by unfold enterHeld.holdRate; simp
@[simp] theorem holdRate_cells (s : State) : (enterHeld.holdRate s).cells = s.cells := by unfold enterHeld.holdRate; simp
@[simp] theorem holdRate_sup (s : State) : (enterHeld.holdRate s).sup = s.sup := by unfold enterHeld.holdRate; simp
@[simp] theorem holdRate_gk (s : State) : (enterHeld.holdRate s).gk = s.gk := by unfold enterHeld.holdRate; simp
@[simp] theorem holdRate_rpl (s : State) : (enterHeld.holdRate s).rpl = s.rpl := by unfold enterHeld.holdRate; simp
@[simp] theorem holdRate_jtag (s : State) : (enterHeld.holdRate s).jtag = s.jtag := by unfold enterHeld.holdRate; simp
@[simp] theorem holdRate_freeCount (s : State) : (enterHeld.holdRate s).freeCount = s.freeCount := by unfold enterHeld.holdRate; simp
@[simp] theorem holdRate_pending (s : State) : (enterHeld.holdRate s).pending = s.pending := by unfold enterHeld.holdRate; simp

@[simp] theorem enterHeld_clk (x : TimeState) (s : State) : (enterHeld x s).clk = s.clk := by unfold enterHeld; ((repeat' split) <;> dsimp only <;> (repeat' split)) <;> simp
@[simp] theorem enterHeld_boot (x : TimeState) (s : State) : (enterHeld x s).boot = s.boot := by unfold enterHeld; ((repeat' split) <;> dsimp only <;> (repeat' split)) <;> simp
@[simp] theorem enterHeld_fuses (x : TimeState) (s : State) : (enterHeld x s).fuses = s.fuses := by unfold enterHeld; ((repeat' split) <;> dsimp only <;> (repeat' split)) <;> simp
@[simp] theorem enterHeld_flash (x : TimeState) (s : State) : (enterHeld x s).flash = s.flash := by unfold enterHeld; ((repeat' split) <;> dsimp only <;> (repeat' split)) <;> simp
@[simp] theorem enterHeld_cues (x : TimeState) (s : State) : (enterHeld x s).cues = s.cues := by unfold enterHeld; ((repeat' split) <;> dsimp only <;> (repeat' split)) <;> simp
@[simp] theorem enterHeld_rwc (x : TimeState) (s : State) : (enterHeld x s).rwc = s.rwc := by unfold enterHeld; ((repeat' split) <;> dsimp only <;> (repeat' split)) <;> simp
@[simp] theorem enterHeld_plan (x : TimeState) (s : State) : (enterHeld x s).plan = s.plan := by unfold enterHeld; ((repeat' split) <;> dsimp only <;> (repeat' split)) <;> simp
@[simp] theorem enterHeld_ingest (x : TimeState) (s : State) : (enterHeld x s).ingest = s.ingest := by unfold enterHeld; ((repeat' split) <;> dsimp only <;> (repeat' split)) <;> simp
@[simp] theorem enterHeld_xa (x : TimeState) (s : State) : (enterHeld x s).xa = s.xa := by unfold enterHeld; ((repeat' split) <;> dsimp only <;> (repeat' split)) <;> simp
@[simp] theorem enterHeld_rmw (x : TimeState) (s : State) : (enterHeld x s).rmw = s.rmw := by unfold enterHeld; ((repeat' split) <;> dsimp only <;> (repeat' split)) <;> simp
@[simp] theorem enterHeld_beams (x : TimeState) (s : State) : (enterHeld x s).beams = s.beams := by unfold enterHeld; ((repeat' split) <;> dsimp only <;> (repeat' split)) <;> simp
@[simp] theorem enterHeld_riddle (x : TimeState) (s : State) : (enterHeld x s).riddle = s.riddle := by unfold enterHeld; ((repeat' split) <;> dsimp only <;> (repeat' split)) <;> simp
@[simp] theorem enterHeld_cf (x : TimeState) (s : State) : (enterHeld x s).cf = s.cf := by unfold enterHeld; ((repeat' split) <;> dsimp only <;> (repeat' split)) <;> simp
@[simp] theorem enterHeld_lanes (x : TimeState) (s : State) : (enterHeld x s).lanes = s.lanes := by unfold enterHeld; ((repeat' split) <;> dsimp only <;> (repeat' split)) <;> simp
@[simp] theorem enterHeld_mesh (x : TimeState) (s : State) : (enterHeld x s).mesh = s.mesh := by unfold enterHeld; ((repeat' split) <;> dsimp only <;> (repeat' split)) <;> simp
@[simp] theorem enterHeld_mem (x : TimeState) (s : State) : (enterHeld x s).mem = s.mem := by unfold enterHeld; ((repeat' split) <;> dsimp only <;> (repeat' split)) <;> simp
@[simp] theorem enterHeld_tl (x : TimeState) (s : State) : (enterHeld x s).tl = s.tl := by unfold enterHeld; ((repeat' split) <;> dsimp only <;> (repeat' split)) <;> simp
@[simp] theorem enterHeld_cells (x : TimeState) (s : State) : (enterHeld x s).cells = s.cells := by unfold enterHeld; ((repeat' split) <;> dsimp only <;> (repeat' split)) <;> simp
@[simp] theorem enterHeld_sup (x : TimeState) (s : State) : (enterHeld x s).sup = s.sup := by unfold enterHeld; ((repeat' split) <;> dsimp only <;> (repeat' split)) <;> simp
@[simp] theorem enterHeld_gk (x : TimeState) (s : State) : (enterHeld x s).gk = s.gk := by unfold enterHeld; ((repeat' split) <;> dsimp only <;> (repeat' split)) <;> simp
@[simp] theorem enterHeld_rpl (x : TimeState) (s : State) : (enterHeld x s).rpl = s.rpl := by unfold enterHeld; ((repeat' split) <;> dsimp only <;> (repeat' split)) <;> simp
@[simp] theorem enterHeld_jtag (x : TimeState) (s : State) : (enterHeld x s).jtag = s.jtag := by unfold enterHeld; ((repeat' split) <;> dsimp only <;> (repeat' split)) <;> simp
@[simp] theorem enterHeld_freeCount (x : TimeState) (s : State) : (enterHeld x s).freeCount = s.freeCount := by unfold enterHeld; ((repeat' split) <;> dsimp only <;> (repeat' split)) <;> simp
@[simp] theorem enterHeld_pending (x : TimeState) (s : State) : (enterHeld x s).pending = s.pending := by unfold enterHeld; ((repeat' split) <;> dsimp only <;> (repeat' split)) <;> simp

@[simp] theorem chooseSource_clk (s : State) : (chooseSource s).clk = s.clk := by unfold chooseSource; dsimp only; (repeat' split) <;> simp
@[simp] theorem chooseSource_boot (s : State) : (chooseSource s).boot = s.boot := by unfold chooseSource; dsimp only; (repeat' split) <;> simp
@[simp] theorem chooseSource_fuses (s : State) : (chooseSource s).fuses = s.fuses := by unfold chooseSource; dsimp only; (repeat' split) <;> simp
@[simp] theorem chooseSource_flash (s : State) : (chooseSource s).flash = s.flash := by unfold chooseSource; dsimp only; (repeat' split) <;> simp
@[simp] theorem chooseSource_cues (s : State) : (chooseSource s).cues = s.cues := by unfold chooseSource; dsimp only; (repeat' split) <;> simp
@[simp] theorem chooseSource_rwc (s : State) : (chooseSource s).rwc = s.rwc := by unfold chooseSource; dsimp only; (repeat' split) <;> simp
@[simp] theorem chooseSource_plan (s : State) : (chooseSource s).plan = s.plan := by unfold chooseSource; dsimp only; (repeat' split) <;> simp
@[simp] theorem chooseSource_ingest (s : State) : (chooseSource s).ingest = s.ingest := by unfold chooseSource; dsimp only; (repeat' split) <;> simp
@[simp] theorem chooseSource_xa (s : State) : (chooseSource s).xa = s.xa := by unfold chooseSource; dsimp only; (repeat' split) <;> simp
@[simp] theorem chooseSource_rmw (s : State) : (chooseSource s).rmw = s.rmw := by unfold chooseSource; dsimp only; (repeat' split) <;> simp
@[simp] theorem chooseSource_beams (s : State) : (chooseSource s).beams = s.beams := by unfold chooseSource; dsimp only; (repeat' split) <;> simp
@[simp] theorem chooseSource_riddle (s : State) : (chooseSource s).riddle = s.riddle := by unfold chooseSource; dsimp only; (repeat' split) <;> simp
@[simp] theorem chooseSource_cf (s : State) : (chooseSource s).cf = s.cf := by unfold chooseSource; dsimp only; (repeat' split) <;> simp
@[simp] theorem chooseSource_lanes (s : State) : (chooseSource s).lanes = s.lanes := by unfold chooseSource; dsimp only; (repeat' split) <;> simp
@[simp] theorem chooseSource_mesh (s : State) : (chooseSource s).mesh = s.mesh := by unfold chooseSource; dsimp only; (repeat' split) <;> simp
@[simp] theorem chooseSource_mem (s : State) : (chooseSource s).mem = s.mem := by unfold chooseSource; dsimp only; (repeat' split) <;> simp
@[simp] theorem chooseSource_tl (s : State) : (chooseSource s).tl = s.tl := by unfold chooseSource; dsimp only; (repeat' split) <;> simp
@[simp] theorem chooseSource_cells (s : State) : (chooseSource s).cells = s.cells := by unfold chooseSource; dsimp only; (repeat' split) <;> simp
@[simp] theorem chooseSource_sup (s : State) : (chooseSource s).sup = s.sup := by unfold chooseSource; dsimp only; (repeat' split) <;> simp
@[simp] theorem chooseSource_gk (s : State) : (chooseSource s).gk = s.gk := by unfold chooseSource; dsimp only; (repeat' split) <;> simp
@[simp] theorem chooseSource_rpl (s : State) : (chooseSource s).rpl = s.rpl := by unfold chooseSource; dsimp only; (repeat' split) <;> simp
@[simp] theorem chooseSource_jtag (s : State) : (chooseSource s).jtag = s.jtag := by unfold chooseSource; dsimp only; (repeat' split) <;> simp
@[simp] theorem chooseSource_freeCount (s : State) : (chooseSource s).freeCount = s.freeCount := by unfold chooseSource; dsimp only; (repeat' split) <;> simp
@[simp] theorem chooseSource_pending (s : State) : (chooseSource s).pending = s.pending := by unfold chooseSource; dsimp only; (repeat' split) <;> simp

end Sys2Proof.Laws
end

