-- ==== Sys2Proof/Laws/Memory.lean ====
section
/-! SUPPORT. Every operation on device DRAM keeps its canonical form: addresses rise strictly and no entry is what an unlisted address
reads as (log 9). -/

namespace Sys2Proof.Laws
open Sys2Proof Sys2Proof.Machine Sys2Proof.Safety

/-- The canonical form, said for the head and the rest. -/
theorem wf_cons (a : Nat) (b : Byte) (m : List Host.Cell) :
    Memory.wf ((a, b) :: m) = true ↔ b ≠ Memory.blank ∧ (∀ c ∈ m.head?, a < c.1) ∧ Memory.wf m = true := by
  cases m with
  | nil => simp [Memory.wf]
  | cons c cs => obtain ⟨a', b'⟩ := c; simp [Memory.wf, and_assoc]

theorem head_erase (a a' : Nat) (b' : Byte) (m : List Host.Cell) (h : Memory.wf ((a', b') :: m) = true) :
    ∀ c ∈ (Memory.erase a m).head?, a' < c.1 := by
  obtain ⟨-, h2, h3⟩ := (wf_cons a' b' m).1 h
  cases m with
  | nil => simp [Memory.erase]
  | cons c cs =>
    obtain ⟨a2, b2⟩ := c
    have h2 : a' < a2 := h2 (a2, b2) (by simp)
    obtain ⟨-, h4, -⟩ := (wf_cons a2 b2 cs).1 h3
    unfold Memory.erase
    split
    · intro c hc; exact Nat.lt_trans h2 (h4 c hc)
    · intro c hc; simp at hc; subst hc; exact h2

theorem wf_erase (a : Nat) : ∀ (m : List Host.Cell), Memory.wf m = true → Memory.wf (Memory.erase a m) = true
  | [], _ => rfl
  | (a', b') :: m, h => by
    have h' := (wf_cons a' b' m).1 h
    unfold Memory.erase
    split
    · exact h'.2.2
    · exact (wf_cons _ _ _).2 ⟨h'.1, head_erase a a' b' m h, wf_erase a m h'.2.2⟩

theorem head_insert (a a' : Nat) (v b' : Byte) (m : List Host.Cell) (h : Memory.wf ((a', b') :: m) = true) (lt : a' < a) :
    ∀ c ∈ (Memory.insert a v m).head?, a' < c.1 := by
  obtain ⟨-, h2, -⟩ := (wf_cons a' b' m).1 h
  cases m with
  | nil => simp [Memory.insert]; omega
  | cons c cs =>
    obtain ⟨a2, b2⟩ := c
    have h2 : a' < a2 := h2 (a2, b2) (by simp)
    unfold Memory.insert
    split
    · simp; omega
    · split <;> simp <;> omega

theorem wf_insert (a : Nat) (v : Byte) (hv : v ≠ Memory.blank) :
    ∀ (m : List Host.Cell), Memory.wf m = true → Memory.wf (Memory.insert a v m) = true
  | [], _ => by simp [Memory.insert, Memory.wf, hv]
  | (a', b') :: m, h => by
    have h' := (wf_cons a' b' m).1 h
    unfold Memory.insert
    split
    · exact (wf_cons _ _ _).2 ⟨hv, by simpa using ‹a < a'›, h⟩
    · split
      · subst_vars; exact (wf_cons _ _ _).2 ⟨hv, h'.2.1, h'.2.2⟩
      · exact (wf_cons _ _ _).2 ⟨h'.1, head_insert a a' v b' m h (by omega), wf_insert a v hv m h'.2.2⟩

theorem wf_write (a : Nat) (v : Byte) (m : List Host.Cell) (h : Memory.wf m = true) : Memory.wf (Memory.write a v m) = true := by
  unfold Memory.write
  split
  · exact wf_erase a m h
  · exact wf_insert a v ‹_› m h

theorem wf_writeBytes : ∀ (bs : List Byte) (a : Nat) (m : List Host.Cell), Memory.wf m = true → Memory.wf (Memory.writeBytes a bs m) = true
  | [], _, _, h => h
  | b :: bs, a, m, h => wf_writeBytes bs (a + 1) _ (wf_write a b m h)

theorem canonical_dramWrite (a : Nat) (bs : List Byte) (s : State) (h : Canonical s) : Canonical (s.dramWrite a bs) :=
  wf_writeBytes bs a s.mem.dram h

/-- An operation that leaves the listed bytes alone keeps their form. -/
theorem canonical_of_dram {s t : State} (e : t.mem.dram = s.mem.dram) (h : Canonical s) : Canonical t := by
  unfold Canonical at h ⊢; rw [e]; exact h

theorem canonical_dramStore (a : Nat) (bs : List Byte) (s : State) (h : Canonical s) : Canonical (dramStore a bs s) := by
  unfold dramStore
  exact canonical_dramWrite a bs { s with mem := { s.mem with poison := _ } } h

end Sys2Proof.Laws
end

