-- ==== Sys2Proof/Laws/Packets.lean ====
section
/-! SUPPORT. What becomes of a packet that is accepted for execution at once: one lemma for the way of a packet from its arrival to its
commit. -/

namespace Sys2Proof.Laws
open Sys2Proof Sys2Proof.Machine Sys2Proof.Safety

theorem swap_id (op : OpDef) (h : op.code ≠ 0x0405) (a : Answer) (s : State) : lateSteps.countRefusedSwap op a s = s := by
  unfold lateSteps.countRefusedSwap
  have : (op.code = 1029#16) = False := by simpa using h
  simp [this]

theorem authority_quiet (op : OpDef) (c : Ctx) {s t : State} (h : Logs s t) : authority op c t = authority op c s := by
  obtain ⟨_, _, _, _, _, rfl⟩ := h; rfl

theorem relays_quiet (c : Ctx) {s t : State} (h : Logs s t) : relays c t = relays c s := by
  obtain ⟨_, _, _, _, _, rfl⟩ := h; rfl

theorem buffer_status (c : Ctx) (s : State) (a : Answer) : (bufferResult c s a).2.status = a.status ∧ (bufferResult c s a).2.owed = a.owed := by
  unfold bufferResult; split <;> simp

theorem late_run (op : OpDef) (k : KcpIn) (s : State) (h : Accepted op k s) (hc : op.code ≠ 0x0405) :
    lateSteps op (op.ctx k) (entered op k s) = op.run (op.ctx k) (entered op k s) := by
  obtain ⟨h1, h2, h3, h4, h5, h6, h7⟩ := h
  unfold lateSteps
  rw [authority_quiet op _ (logs_entered op k s), h6]
  dsimp only
  rw [relays_quiet _ (logs_entered op k s), h7.1]
  have : kExecAt (op.ctx k).k = false := h4
  simp [this, swap_id op hc, h7.2]

theorem series_counted (k : KcpIn) (s : State) : (countTaken (arrived k s)).series k.path = s.series k.path := by
  unfold State.series arrived countTaken
  cases hp : k.path <;> simp [pathRing, pathSeries, State.bump, State.bumpBy, State.setRing]

theorem take_accepted (op : OpDef) (k : KcpIn) (s : State) (h : Accepted op k s) (hc : op.code ≠ 0x0405)
    (ho : (op.run (op.ctx k) (entered op k s)).2.owed = false) (hf : (op.run (op.ctx k) (entered op k s)).2.status ≠ .fault) :
    kcpTake op.code (some op) k (arrived k s) =
      committed op k (op.run (op.ctx k) (entered op k s)).1 (op.run (op.ctx k) (entered op k s)).2 := by
  have hl := late_run op k s h hc
  obtain ⟨h1, h2, h3, h4, h5, h6, h7⟩ := h
  have key : finishPacket op (op.ctx k) (entered op k s) =
      committed op k (op.run (op.ctx k) (entered op k s)).1 (op.run (op.ctx k) (entered op k s)).2 := by
    unfold finishPacket committed
    dsimp only
    rw [hl, (buffer_status _ _ _).2, ho, (buffer_status _ _ _).1]
    simp [hf]
  rw [← key]
  unfold kcpTake
  dsimp only
  rw [h2]
  dsimp only
  rw [h3, series_counted]
  unfold entered
  by_cases hx : op.xo = true
  · simp [hx]
  · have h5 := h5.resolve_left hx
    unfold unused at h5
    split at h5 <;> first | contradiction | skip
    all_goals
      rename_i heq
      rw [heq]
      simp [hx]

theorem process_accepted (op : OpDef) (k : KcpIn) (s : State) (hs : k.path ≠ .mesh → selfAddressed k s = false) :
    kcpProcess op.code (some op) k (arrived k s) = kcpTake op.code (some op) k (arrived k s) := by
  unfold kcpProcess
  dsimp only
  split
  · rename_i hc
    simp only [Bool.and_eq_true] at hc
    have : selfAddressed k (arrived k s) = selfAddressed k s := by
      obtain ⟨_, _, _, _, _, e⟩ := logs_arrived k s
      rw [e]; rfl
    simp_all
  · rfl

/-- A packet of a ring that is not relayed has SCOPE 0, or SCOPE 1 and this device: the caller takes it once. -/
theorem self_of_relays (op : OpDef) (k : KcpIn) (s : State) (h : relays (op.ctx k) s = false) : k.path ≠ .mesh → selfAddressed k s = false := by
  intro hp
  unfold relays at h
  unfold selfAddressed
  simp [OpDef.ctx, hp] at h
  by_cases h0 : kScope k = 0
  · simp [h0]
  · have := h (by exact decide_eq_true h0)
    have := of_decide_eq_true this.1
    simp [this]

theorem arrive_accepted (op : OpDef) (k : KcpIn) (s : State) (h : Accepted op k s) :
    kcpCommand op k s = kcpProcess op.code (some op) k (arrived k s) := by
  obtain ⟨h1, -⟩ := h
  unfold kcpCommand kcpArrive
  unfold ready at h1
  unfold arrived
  cases hp : k.path <;> simp only [hp, pathRing] at h1 ⊢
  case smbus => simp at h1; have : ¬ (4 ≤ s.smb.replies.length) := by omega
                simp [h1, this]
  case mesh => simp at h1; 
               have : (s.bump .kcpMeshIn).tamzarServes = s.tamzarServes := rfl
               have : (s.bump .kcpMeshIn).kcp = s.kcp := rfl
               simp_all
  all_goals
    simp only [Bool.and_eq_true] at h1
    obtain ⟨⟨⟨⟨a, b⟩, c⟩, d⟩, e⟩ := h1
    have e := Nat.not_lt.mpr (of_decide_eq_true e)
    have a : s.clk.held = false := by simpa using a
    have d' := d
    unfold State.ringReady at d'
    simp at d'
    simp only [a, d'.1.1, d'.1.2, Bool.not_true, Bool.or_self, Bool.false_eq_true, if_false]
    rw [if_neg e]
    simp [b, c, d]

/-- A packet that is accepted runs its opcode and is committed with the opcode's answer. -/
theorem accepted_runs (op : OpDef) (k : KcpIn) (s : State) (h : Accepted op k s) (hc : op.code ≠ 0x0405)
    (ho : (op.run (op.ctx k) (entered op k s)).2.owed = false) (hf : (op.run (op.ctx k) (entered op k s)).2.status ≠ .fault) :
    kcpCommand op k s = committed op k (op.run (op.ctx k) (entered op k s)).1 (op.run (op.ctx k) (entered op k s)).2 := by
  rw [arrive_accepted op k s h, process_accepted op k s (self_of_relays op k s h.2.2.2.2.2.2.1), take_accepted op k s h hc ho hf]

/-- What a packet of an opcode does, from what the opcode's own rules answer to any context of that opcode. -/
theorem does_of_run {i : KcpIn → Instr} {op : OpDef} {ok : KcpIn → List Byte → State → Prop} {t : KcpIn → List Byte → State → State}
    {a : KcpIn → List Byte → State → Answer} (hx : ∀ k s, exec (i k) s = .next (kcpCommand op k s)) (hc : op.code ≠ 0x0405)
    (h : ∀ (c : Ctx) s, c.code = op.code → c.path = c.k.path → c.buffered = op.buffered c.k.path → kExecAt c.k = false →
      ok c.k c.par s → op.run c s = (t c.k c.par s, a c.k c.par s) ∧
      (a c.k c.par s).owed = false ∧ (a c.k c.par s).status ≠ .fault) :
    Does i op ok t a := by
  intro k s hacc hok
  obtain ⟨h1, h2, h3⟩ := h (op.ctx k) (entered op k s) rfl rfl rfl hacc.2.2.2.1 hok
  have h1' : op.run (op.ctx k) (entered op k s) = (t k (effPar op k) (entered op k s), a k (effPar op k) (entered op k s)) := h1
  rw [hx, accepted_runs op k s hacc hc (by rw [h1']; exact h2) (by rw [h1']; exact h3), h1']

end Sys2Proof.Laws
end

