-- ==== Sys2Proof/WellFormed.lean ====
section
/-! DEFINITION. Which commands can occur: the operands of a row agree among themselves and lie in the ranges of the spec. The
meanings answer for every operand; a command that is not well formed is one the outside cannot send. -/

namespace Sys2Proof

/-- A packet holds PLEN parameter bytes (R218). -/
def packetOk (k : KcpIn) : Bool := k.params.length == k.plen.toNat

/-- A doorbell comes after whole units of 64 bytes (R225), and a packet's buffer holds at most 16 MiB (R239). -/
def doorbellOk (placed : List Byte) (dma : List (List Byte)) : Bool :=
  placed.length % 64 == 0 && dma.all fun d => d.length ≤ 2 ^ 24

/-- A BAR4 access lies in the aperture, and a write brings its bytes and strobes (R356, R357). -/
def bar4Ok (write : Bool) (offset : W32) (len : Nat) (data : List Byte) (strobes : List Bool) : Bool :=
  offset.toNat + len ≤ 2 ^ 32 && data.length == (if write then len else 0) && strobes.length == data.length

/-- An SMBus block is at most 255 bytes. -/
def blockOk (bytes : List Byte) : Bool := bytes.length ≤ 255

/-- A frame, packet or body of at most `n` bytes. -/
def frameOk (n : Nat) (bytes : List Byte) : Bool := bytes.length ≤ n

/-- Addresses of an ARP request or a Neighbor Solicitation (R249). -/
def neighbourOk (ipv6 : Bool) (target mac ip : List Byte) : Bool :=
  let n := if ipv6 then 16 else 4
  target.length == n && ip.length == n && mac.length == 6

/-- A Fjotranu frame has 16 header bytes (R252). -/
def fjotranuOk (header body : List Byte) : Bool := header.length == 16 && frameOk 65535 body

/-- SRC of a frame: a system index of 10 bits (R252). -/
def sourceOk (src : Nat) : Bool := src < 1024

/-- Symbol errors name the 40 symbols of a unit (R282). -/
def symbolsOk (errs : SymErrs) : Bool := errs.all fun e => e.1 < 40

/-- The packet of a command that is a KCP opcode. -/
def Instr.packet? (i : Instr) : Option KcpIn :=
  match i with
  | .echo k => some k
  | .ident k => some k
  | .surveyGet k => some k
  | .surveySnapshot k => some k
  | .ringCfg k => some k
  | .safeStop k => some k
  | .paramGet k => some k
  | .paramSet k => some k
  | .planSubmit k => some k
  | .planGet k => some k
  | .planTableGet k => some k
  | .baselineGet k => some k
  | .planPublish k => some k
  | .systemJoin k => some k
  | .systemLeave k => some k
  | .integCfg k => some k
  | .integStart k => some k
  | .integStop k => some k
  | .integStatusGet k => some k
  | .beamCfg k => some k
  | .beamGainWrite k => some k
  | .beamDelayWrite k => some k
  | .beamDirectWrite k => some k
  | .beamSwap k => some k
  | .beamGet k => some k
  | .riddleCfg k => some k
  | .riddleCoefWrite k => some k
  | .riddleSwap k => some k
  | .riddleSync k => some k
  | .captureCfg k => some k
  | .captureArm k => some k
  | .captureDisarm k => some k
  | .captureTrigger k => some k
  | .captureResize k => some k
  | .captureDrain k => some k
  | .captureRelease k => some k
  | .captureMissedGet k => some k
  | .captureStatusGet k => some k
  | .timeRead k => some k
  | .timeSource k => some k
  | .timeMeasure k => some k
  | .timeStep k => some k
  | .timeEpochSet k => some k
  | .cueCancel k => some k
  | .cueListGet k => some k
  | .confirm k => some k
  | .cancel k => some k
  | .laneCfg k => some k
  | .laneStatusGet k => some k
  | .laneDoze k => some k
  | .laneWake k => some k
  | .laneQuiet k => some k
  | .memRead k => some k
  | .memWrite k => some k
  | .memStatusGet k => some k
  | .memRepair k => some k
  | .memTrain k => some k
  | .spareMapGet k => some k
  | .graft k => some k
  | .stripePower k => some k
  | .supervisorHandover k => some k
  | .supervisorReset k => some k
  | .fwImageWrite k => some k
  | .fwUpdate k => some k
  | .callerHandover k => some k
  | .almanacRead k => some k
  | .almanacFreeze k => some k
  | .almanacThaw k => some k
  | .replayStart k => some k
  | .replayInput k => some k
  | .replayStatusGet k => some k
  | .replayStop k => some k
  | .marginGet k => some k
  | .marginSet k => some k
  | .marginMode k => some k
  | _ => none

/-- A well-formed command. -/
def Instr.ok (i : Instr) : Bool :=
  match i with
  | .echo k => packetOk k
  | .ident k => packetOk k
  | .surveyGet k => packetOk k
  | .surveySnapshot k => packetOk k
  | .ringCfg k => packetOk k
  | .ringCfgApply _ => true
  | .safeStop k => packetOk k
  | .paramGet k => packetOk k
  | .paramSet k => packetOk k
  | .planSubmit k => packetOk k
  | .planReady => true
  | .planGet k => packetOk k
  | .planTableGet k => packetOk k
  | .baselineGet k => packetOk k
  | .planPublish k => packetOk k
  | .switchSamplePublish => true
  | .final => true
  | .cool => true
  | .systemJoin k => packetOk k
  | .foundListenEnd => true
  | .joinTimeout => true
  | .systemLeave k => packetOk k
  | .integCfg k => packetOk k
  | .integStart k => packetOk k
  | .integStop k => packetOk k
  | .integStatusGet k => packetOk k
  | .flushPass _ => true
  | .beamCfg k => packetOk k
  | .beamGainWrite k => packetOk k
  | .beamDelayWrite k => packetOk k
  | .beamDirectWrite k => packetOk k
  | .beamSwap k => packetOk k
  | .beamGet k => packetOk k
  | .beamGroupFormed badWeights => badWeights.all (· < 256)
  | .riddleCfg k => packetOk k
  | .riddleCoefWrite k => packetOk k
  | .riddleSwap k => packetOk k
  | .riddleSync k => packetOk k
  | .sieveOutput _ => true
  | .captureCfg k => packetOk k
  | .captureArm k => packetOk k
  | .captureDisarm k => packetOk k
  | .captureTrigger k => packetOk k
  | .captureResize k => packetOk k
  | .captureDrain k => packetOk k
  | .captureDrainDone _ _ => true
  | .captureRelease k => packetOk k
  | .captureMissedGet k => packetOk k
  | .captureStatusGet k => packetOk k
  | .timeRead k => packetOk k
  | .timeSource k => packetOk k
  | .timeMeasure k => packetOk k
  | .timeStep k => packetOk k
  | .timeEpochSet k => packetOk k
  | .cueCancel k => packetOk k
  | .cueListGet k => packetOk k
  | .confirm k => packetOk k
  | .cancel k => packetOk k
  | .systemCueTimeout _ => true
  | .cuePassToHardware _ _ => true
  | .cueRun _ _ => true
  | .laneCfg k => packetOk k
  | .laneStatusGet k => packetOk k
  | .laneDoze k => packetOk k
  | .laneWake k => packetOk k
  | .laneQuiet k => packetOk k
  | .memRead k => packetOk k
  | .memWrite k => packetOk k
  | .memStatusGet k => packetOk k
  | .memRepair k => packetOk k
  | .memTrain k => packetOk k
  | .spareMapGet k => packetOk k
  | .graft k => packetOk k
  | .stripePower k => packetOk k
  | .stripeTestDone _ => true
  | .supervisorHandover k => packetOk k
  | .supervisorReset k => packetOk k
  | .fwImageWrite k => packetOk k
  | .fwUpdate k => packetOk k
  | .callerHandover k => packetOk k
  | .almanacRead k => packetOk k
  | .almanacFreeze k => packetOk k
  | .freezeAckTimeout => true
  | .almanacThaw k => packetOk k
  | .replayStart k => packetOk k
  | .replayInput k => packetOk k
  | .replayStatusGet k => packetOk k
  | .replayStop k => packetOk k
  | .replayDwell => true
  | .marginGet k => packetOk k
  | .marginSet k => packetOk k
  | .marginMode k => packetOk k
  | .marginHourly _ stripeSlack => decide (stripeSlack.length = 10)
  | .commandDoorbell _ _ placed dma => doorbellOk placed dma
  | .replyDoorbell _ _ => true
  | .ringEnable _ _ => true
  | .seqReset _ => true
  | .rwcValueWrite _ _ _ => true
  | .rwcComplementWrite _ _ _ => true
  | .tmNowRead _ => true
  | .genEventEnWrite _ => true
  | .genEventClear _ _ => true
  | .supCfgWrite _ => true
  | .genRplConsWrite _ _ => true
  | .genApertureWrite _ => true
  | .bar4Access write offset len data strobes => bar4Ok write offset len data strobes
  | .registerWrite _ _ _ _ => true
  | .bridgeTimeout _ _ _ => true
  | .lnInCntClr _ => true
  | .xaCntClr _ => true
  | .mcRmwCntClr _ => true
  | .bfCntClr _ => true
  | .rdlCntClr _ => true
  | .genPlanCntClr _ => true
  | .cfCntClr _ => true
  | .tmCntClr _ => true
  | .kcpCntClr _ => true
  | .lnCntClr _ => true
  | .mcCntClr _ => true
  | .tlCntClr _ => true
  | .supCntClr _ => true
  | .pwCntClr _ => true
  | .genLoamCntClr _ => true
  | .genAlmCntClr _ => true
  | .genCntClr _ => true
  | .smbusSetOffset _ _ => true
  | .smbusRegisterAccess _ _ => true
  | .smbusKcpWrite bytes _ => blockOk bytes
  | .smbusReplyRead => true
  | .smbusStatusRead => true
  | .porstRelease _ _ _ => true
  | .rootPllLock => true
  | .coreBootDone _ _ => true
  | .dramTrainingDone eyes _ => decide (eyes.length = 16)
  | .lanesStepEnd => true
  | .timeStepEnd => true
  | .pcieReset _ => true
  | .busMasterOff _ => true
  | .refLoss => true
  | .refRelock => true
  | .rootFault => true
  | .auxrefLoss => true
  | .auxrefRelock => true
  | .pllUnlock _ => true
  | .hedgePllLock _ => true
  | .railDip => true
  | .vddIoLoss => true
  | .tempSensorRead _ => true
  | .syncEdge _ _ => true
  | .trigEdge _ _ _ _ => true
  | .tdcEdge _ _ => true
  | .tdcCalibration _ => true
  | .samplePacket _ bytes _ => frameOk 9216 bytes
  | .slotCloseSuccessor => true
  | .slotCloseStall => true
  | .slotCloseLimit => true
  | .dwellAbsentGrace => true
  | .ethernetFrame _ bytes _ => frameOk 9216 bytes
  | .arpNsRequest _ ipv6 target senderMac senderIp => neighbourOk ipv6 target senderMac senderIp
  | .ptpAnnounce _ _ => true
  | .ptpSync _ _ _ _ _ _ _ => true
  | .ptpDelayResp _ _ _ _ _ _ => true
  | .fjotranuFrame _ header body _ _ _ => fjotranuOk header body
  | .linkFrame _ _ => true
  | .linkFrameSend _ => true
  | .heartbeat _ src _ _ body => sourceOk src && body.segment < 32
  | .heartbeatSend => true
  | .timeExchangeSend _ => true
  | .timeReq _ src _ _ _ => sourceOk src
  | .timeResp _ src _ _ => sourceOk src
  | .meshTrigger _ src _ body => sourceOk src && body.group < 16 && body.sTrig < 2 ^ 48
  | .kcpFrame _ src _ _ packet => sourceOk src && frameOk 4100 packet
  | .kcpReplyFrame _ src reply => sourceOk src && frameOk 4100 reply
  | .surveyFrame _ src records => sourceOk src && frameOk 4096 records
  | .surveySend => true
  | .dozeFrame _ _ => true
  | .laneLock _ => true
  | .laneLockLoss _ _ => true
  | .laneLost _ => true
  | .laneHealthy _ => true
  | .serWindow _ errors symbols => decide (errors ≤ symbols)
  | .egressFrameSend _ => true
  | .dwellBoundary => true
  | .computeEnd _ ev => ev.waits.all (· < 1360) && ev.corrected.all fun x => decide (x.1 < 1360) &&
      (match x.2 with | .slotRow _ row => decide (row < 512) | .xMem | .yMem | .routine => true)
  | .drainEnd => true
  | .tieBreakDone _ _ => true
  | .replayRecomputeDone _ _ => true
  | .cellFault _ _ => true
  | .cellStallTimeout _ => true
  | .rotationPeriod => true
  | .rmwPassStart => true
  | .chunkReadDone _ errs => errs.all fun e => symbolsOk e.2
  | .chunkCommit _ => true
  | .chunkWriteTimeout _ => true
  | .rmwEngineReset => true
  | .dwellCommit => true
  | .almanacRecord => true
  | .checkpointBegin => true
  | .refreshTick _ _ => true
  | .refreshIssue _ _ => true
  | .mr4Read _ _ _ => true
  | .zqCalibration _ _ => true
  | .dqsOscillator _ die _ => decide (die < 6)
  | .scrubRead _ errs _ => symbolsOk errs
  | .rowRepair _ row _ => decide (row < 2 ^ 20)
  | .masterResetBurst _ _ _ done total => decide (done ≤ total)
  | .loamScrub _ _ => true
  | .loamUncorrectableRead _ _ _ => true
  | .loamBankCopyDone _ => true
  | .phaseFault _ => true
  | .stewardFault _ _ => true
  | .leaseLapse => true
  | .noHolderTimeout => true
  | .selftestCycle _ _ => true
  | .revert => true
  | .callerHalfLost => true
  | .callerLeaseLapse => true
  | .callerClaim => true
  | .callerClaimWin => true
  | .deviceLost _ => true
  | .sourceSilent source => decide (1 ≤ source ∧ source ≤ 3)
  | .holdLimitExpiry => true
  | .laneTrainingDone _ => true
  | .linkFrameTimeout _ => true
  | .ptpDelayReqSend _ _ => true
  | .announceReceiptTimeout _ _ => true
  | .busMasterEnableSet => true
  | .pciePerstRelease => true
  | .porstAssert => true
  | .railDipRecovery => true
  | .jtagInstruction _ => true
  | .transferComplete => true
  | .memTrainDone eyes => decide (eyes.length = 16)
  | .freezeAcknowledge => true
  | .leaseRenew => true
  | .stewardStatus _ => true
  | .noHolderSecondTimeout => true
  | .primaryLockTimeout => true

end Sys2Proof
end

