-- ==== Sys2Proof/Laws/PerInstr.lean ====
section
/-! SUPPORT. Statements about every command as syntax, one lemma for each constructor. -/

namespace Sys2Proof.Laws.Shape
open Sys2Proof

/-- A command that is a packet is well formed exactly when its parameters fill PLEN. -/
def Statement (i : Instr) : Prop := ∀ k, i.packet? = some k → i.ok = (k.params.length == k.plen.toNat)

theorem echo (k : KcpIn) : Statement (.echo k) := by
  intro _ h; cases h; rfl
theorem ident (k : KcpIn) : Statement (.ident k) := by
  intro _ h; cases h; rfl
theorem surveyGet (k : KcpIn) : Statement (.surveyGet k) := by
  intro _ h; cases h; rfl
theorem surveySnapshot (k : KcpIn) : Statement (.surveySnapshot k) := by
  intro _ h; cases h; rfl
theorem ringCfg (k : KcpIn) : Statement (.ringCfg k) := by
  intro _ h; cases h; rfl
theorem ringCfgApply (ring : RingId) : Statement (.ringCfgApply ring) := by
  intro _ h; cases h
theorem safeStop (k : KcpIn) : Statement (.safeStop k) := by
  intro _ h; cases h; rfl
theorem paramGet (k : KcpIn) : Statement (.paramGet k) := by
  intro _ h; cases h; rfl
theorem paramSet (k : KcpIn) : Statement (.paramSet k) := by
  intro _ h; cases h; rfl
theorem planSubmit (k : KcpIn) : Statement (.planSubmit k) := by
  intro _ h; cases h; rfl
theorem planReady : Statement .planReady := by
  intro _ h; cases h
theorem planGet (k : KcpIn) : Statement (.planGet k) := by
  intro _ h; cases h; rfl
theorem planTableGet (k : KcpIn) : Statement (.planTableGet k) := by
  intro _ h; cases h; rfl
theorem baselineGet (k : KcpIn) : Statement (.baselineGet k) := by
  intro _ h; cases h; rfl
theorem planPublish (k : KcpIn) : Statement (.planPublish k) := by
  intro _ h; cases h; rfl
theorem switchSamplePublish : Statement .switchSamplePublish := by
  intro _ h; cases h
theorem final : Statement .final := by
  intro _ h; cases h
theorem cool : Statement .cool := by
  intro _ h; cases h
theorem systemJoin (k : KcpIn) : Statement (.systemJoin k) := by
  intro _ h; cases h; rfl
theorem foundListenEnd : Statement .foundListenEnd := by
  intro _ h; cases h
theorem joinTimeout : Statement .joinTimeout := by
  intro _ h; cases h
theorem systemLeave (k : KcpIn) : Statement (.systemLeave k) := by
  intro _ h; cases h; rfl
theorem integCfg (k : KcpIn) : Statement (.integCfg k) := by
  intro _ h; cases h; rfl
theorem integStart (k : KcpIn) : Statement (.integStart k) := by
  intro _ h; cases h; rfl
theorem integStop (k : KcpIn) : Statement (.integStop k) := by
  intro _ h; cases h; rfl
theorem integStatusGet (k : KcpIn) : Statement (.integStatusGet k) := by
  intro _ h; cases h; rfl
theorem flushPass (ue : List Nat) : Statement (.flushPass ue) := by
  intro _ h; cases h
theorem beamCfg (k : KcpIn) : Statement (.beamCfg k) := by
  intro _ h; cases h; rfl
theorem beamGainWrite (k : KcpIn) : Statement (.beamGainWrite k) := by
  intro _ h; cases h; rfl
theorem beamDelayWrite (k : KcpIn) : Statement (.beamDelayWrite k) := by
  intro _ h; cases h; rfl
theorem beamDirectWrite (k : KcpIn) : Statement (.beamDirectWrite k) := by
  intro _ h; cases h; rfl
theorem beamSwap (k : KcpIn) : Statement (.beamSwap k) := by
  intro _ h; cases h; rfl
theorem beamGet (k : KcpIn) : Statement (.beamGet k) := by
  intro _ h; cases h; rfl
theorem beamGroupFormed (badWeights : List Nat) : Statement (.beamGroupFormed badWeights) := by
  intro _ h; cases h
theorem riddleCfg (k : KcpIn) : Statement (.riddleCfg k) := by
  intro _ h; cases h; rfl
theorem riddleCoefWrite (k : KcpIn) : Statement (.riddleCoefWrite k) := by
  intro _ h; cases h; rfl
theorem riddleSwap (k : KcpIn) : Statement (.riddleSwap k) := by
  intro _ h; cases h; rfl
theorem riddleSync (k : KcpIn) : Statement (.riddleSync k) := by
  intro _ h; cases h; rfl
theorem sieveOutput (sieve : Fin 64) : Statement (.sieveOutput sieve) := by
  intro _ h; cases h
theorem captureCfg (k : KcpIn) : Statement (.captureCfg k) := by
  intro _ h; cases h; rfl
theorem captureArm (k : KcpIn) : Statement (.captureArm k) := by
  intro _ h; cases h; rfl
theorem captureDisarm (k : KcpIn) : Statement (.captureDisarm k) := by
  intro _ h; cases h; rfl
theorem captureTrigger (k : KcpIn) : Statement (.captureTrigger k) := by
  intro _ h; cases h; rfl
theorem captureResize (k : KcpIn) : Statement (.captureResize k) := by
  intro _ h; cases h; rfl
theorem captureDrain (k : KcpIn) : Statement (.captureDrain k) := by
  intro _ h; cases h; rfl
theorem captureDrainDone (region : Fin 8) (sub : Fin 16) : Statement (.captureDrainDone region sub) := by
  intro _ h; cases h
theorem captureRelease (k : KcpIn) : Statement (.captureRelease k) := by
  intro _ h; cases h; rfl
theorem captureMissedGet (k : KcpIn) : Statement (.captureMissedGet k) := by
  intro _ h; cases h; rfl
theorem captureStatusGet (k : KcpIn) : Statement (.captureStatusGet k) := by
  intro _ h; cases h; rfl
theorem timeRead (k : KcpIn) : Statement (.timeRead k) := by
  intro _ h; cases h; rfl
theorem timeSource (k : KcpIn) : Statement (.timeSource k) := by
  intro _ h; cases h; rfl
theorem timeMeasure (k : KcpIn) : Statement (.timeMeasure k) := by
  intro _ h; cases h; rfl
theorem timeStep (k : KcpIn) : Statement (.timeStep k) := by
  intro _ h; cases h; rfl
theorem timeEpochSet (k : KcpIn) : Statement (.timeEpochSet k) := by
  intro _ h; cases h; rfl
theorem cueCancel (k : KcpIn) : Statement (.cueCancel k) := by
  intro _ h; cases h; rfl
theorem cueListGet (k : KcpIn) : Statement (.cueListGet k) := by
  intro _ h; cases h; rfl
theorem confirm (k : KcpIn) : Statement (.confirm k) := by
  intro _ h; cases h; rfl
theorem cancel (k : KcpIn) : Statement (.cancel k) := by
  intro _ h; cases h; rfl
theorem systemCueTimeout (seq : W32) : Statement (.systemCueTimeout seq) := by
  intro _ h; cases h
theorem cuePassToHardware (system : Bool) (seq : W32) : Statement (.cuePassToHardware system seq) := by
  intro _ h; cases h
theorem cueRun (system : Bool) (seq : W32) : Statement (.cueRun system seq) := by
  intro _ h; cases h
theorem laneCfg (k : KcpIn) : Statement (.laneCfg k) := by
  intro _ h; cases h; rfl
theorem laneStatusGet (k : KcpIn) : Statement (.laneStatusGet k) := by
  intro _ h; cases h; rfl
theorem laneDoze (k : KcpIn) : Statement (.laneDoze k) := by
  intro _ h; cases h; rfl
theorem laneWake (k : KcpIn) : Statement (.laneWake k) := by
  intro _ h; cases h; rfl
theorem laneQuiet (k : KcpIn) : Statement (.laneQuiet k) := by
  intro _ h; cases h; rfl
theorem memRead (k : KcpIn) : Statement (.memRead k) := by
  intro _ h; cases h; rfl
theorem memWrite (k : KcpIn) : Statement (.memWrite k) := by
  intro _ h; cases h; rfl
theorem memStatusGet (k : KcpIn) : Statement (.memStatusGet k) := by
  intro _ h; cases h; rfl
theorem memRepair (k : KcpIn) : Statement (.memRepair k) := by
  intro _ h; cases h; rfl
theorem memTrain (k : KcpIn) : Statement (.memTrain k) := by
  intro _ h; cases h; rfl
theorem spareMapGet (k : KcpIn) : Statement (.spareMapGet k) := by
  intro _ h; cases h; rfl
theorem graft (k : KcpIn) : Statement (.graft k) := by
  intro _ h; cases h; rfl
theorem stripePower (k : KcpIn) : Statement (.stripePower k) := by
  intro _ h; cases h; rfl
theorem stripeTestDone (stripe : Fin 10) : Statement (.stripeTestDone stripe) := by
  intro _ h; cases h
theorem supervisorHandover (k : KcpIn) : Statement (.supervisorHandover k) := by
  intro _ h; cases h; rfl
theorem supervisorReset (k : KcpIn) : Statement (.supervisorReset k) := by
  intro _ h; cases h; rfl
theorem fwImageWrite (k : KcpIn) : Statement (.fwImageWrite k) := by
  intro _ h; cases h; rfl
theorem fwUpdate (k : KcpIn) : Statement (.fwUpdate k) := by
  intro _ h; cases h; rfl
theorem callerHandover (k : KcpIn) : Statement (.callerHandover k) := by
  intro _ h; cases h; rfl
theorem almanacRead (k : KcpIn) : Statement (.almanacRead k) := by
  intro _ h; cases h; rfl
theorem almanacFreeze (k : KcpIn) : Statement (.almanacFreeze k) := by
  intro _ h; cases h; rfl
theorem freezeAckTimeout : Statement .freezeAckTimeout := by
  intro _ h; cases h
theorem almanacThaw (k : KcpIn) : Statement (.almanacThaw k) := by
  intro _ h; cases h; rfl
theorem replayStart (k : KcpIn) : Statement (.replayStart k) := by
  intro _ h; cases h; rfl
theorem replayInput (k : KcpIn) : Statement (.replayInput k) := by
  intro _ h; cases h; rfl
theorem replayStatusGet (k : KcpIn) : Statement (.replayStatusGet k) := by
  intro _ h; cases h; rfl
theorem replayStop (k : KcpIn) : Statement (.replayStop k) := by
  intro _ h; cases h; rfl
theorem replayDwell : Statement .replayDwell := by
  intro _ h; cases h
theorem marginGet (k : KcpIn) : Statement (.marginGet k) := by
  intro _ h; cases h; rfl
theorem marginSet (k : KcpIn) : Statement (.marginSet k) := by
  intro _ h; cases h; rfl
theorem marginMode (k : KcpIn) : Statement (.marginMode k) := by
  intro _ h; cases h; rfl
theorem marginHourly (cellSlack : List (Nat × Int)) (stripeSlack : List Int) : Statement (.marginHourly cellSlack stripeSlack) := by
  intro _ h; cases h
theorem commandDoorbell (ring : RingId) (index : W32) (placed : List Byte) (dma : List (List Byte)) : Statement (.commandDoorbell ring index placed dma) := by
  intro _ h; cases h
theorem replyDoorbell (ring : RingId) (index : W32) : Statement (.replyDoorbell ring index) := by
  intro _ h; cases h
theorem ringEnable (ring : RingId) (enable : Bool) : Statement (.ringEnable ring enable) := by
  intro _ h; cases h
theorem seqReset (ring : RingId) : Statement (.seqReset ring) := by
  intro _ h; cases h
theorem rwcValueWrite (path : BusPath) (offset : BitVec 16) (value : W32) : Statement (.rwcValueWrite path offset value) := by
  intro _ h; cases h
theorem rwcComplementWrite (path : BusPath) (offset : BitVec 16) (value : W32) : Statement (.rwcComplementWrite path offset value) := by
  intro _ h; cases h
theorem tmNowRead (path : BusPath) : Statement (.tmNowRead path) := by
  intro _ h; cases h
theorem genEventEnWrite (value : W32) : Statement (.genEventEnWrite value) := by
  intro _ h; cases h
theorem genEventClear (value : W32) (sameCycle : BitVec 15) : Statement (.genEventClear value sameCycle) := by
  intro _ h; cases h
theorem supCfgWrite (value : W32) : Statement (.supCfgWrite value) := by
  intro _ h; cases h
theorem genRplConsWrite (hi : Bool) (value : W32) : Statement (.genRplConsWrite hi value) := by
  intro _ h; cases h
theorem genApertureWrite (value : W32) : Statement (.genApertureWrite value) := by
  intro _ h; cases h
theorem bar4Access (write : Bool) (offset : W32) (len : Nat) (data : List Byte) (strobes : List Bool) : Statement (.bar4Access write offset len data strobes) := by
  intro _ h; cases h
theorem registerWrite (path : BusPath) (offset : BitVec 16) (value : W32) (strobes : BitVec 4) : Statement (.registerWrite path offset value strobes) := by
  intro _ h; cases h
theorem bridgeTimeout (path : BusPath) (offset : BitVec 16) (write : Bool) : Statement (.bridgeTimeout path offset write) := by
  intro _ h; cases h
theorem lnInCntClr (value : W32) : Statement (.lnInCntClr value) := by
  intro _ h; cases h
theorem xaCntClr (value : W32) : Statement (.xaCntClr value) := by
  intro _ h; cases h
theorem mcRmwCntClr (value : W32) : Statement (.mcRmwCntClr value) := by
  intro _ h; cases h
theorem bfCntClr (value : W32) : Statement (.bfCntClr value) := by
  intro _ h; cases h
theorem rdlCntClr (value : W32) : Statement (.rdlCntClr value) := by
  intro _ h; cases h
theorem genPlanCntClr (value : W32) : Statement (.genPlanCntClr value) := by
  intro _ h; cases h
theorem cfCntClr (value : W32) : Statement (.cfCntClr value) := by
  intro _ h; cases h
theorem tmCntClr (value : W32) : Statement (.tmCntClr value) := by
  intro _ h; cases h
theorem kcpCntClr (value : W32) : Statement (.kcpCntClr value) := by
  intro _ h; cases h
theorem lnCntClr (value : W32) : Statement (.lnCntClr value) := by
  intro _ h; cases h
theorem mcCntClr (value : W32) : Statement (.mcCntClr value) := by
  intro _ h; cases h
theorem tlCntClr (value : W32) : Statement (.tlCntClr value) := by
  intro _ h; cases h
theorem supCntClr (value : W32) : Statement (.supCntClr value) := by
  intro _ h; cases h
theorem pwCntClr (value : W32) : Statement (.pwCntClr value) := by
  intro _ h; cases h
theorem genLoamCntClr (value : W32) : Statement (.genLoamCntClr value) := by
  intro _ h; cases h
theorem genAlmCntClr (value : W32) : Statement (.genAlmCntClr value) := by
  intro _ h; cases h
theorem genCntClr (value : W32) : Statement (.genCntClr value) := by
  intro _ h; cases h
theorem smbusSetOffset (offset : BitVec 16) (pecOk : Bool) : Statement (.smbusSetOffset offset pecOk) := by
  intro _ h; cases h
theorem smbusRegisterAccess (write : Option W32) (pecOk : Bool) : Statement (.smbusRegisterAccess write pecOk) := by
  intro _ h; cases h
theorem smbusKcpWrite (bytes : List Byte) (pecOk : Bool) : Statement (.smbusKcpWrite bytes pecOk) := by
  intro _ h; cases h
theorem smbusReplyRead : Statement .smbusReplyRead := by
  intro _ h; cases h
theorem smbusStatusRead : Statement .smbusStatusRead := by
  intro _ h; cases h
theorem porstRelease (railsOk : Bool) (pcieRefsel : Bool) (smbAddr : BitVec 3) : Statement (.porstRelease railsOk pcieRefsel smbAddr) := by
  intro _ h; cases h
theorem rootPllLock : Statement .rootPllLock := by
  intro _ h; cases h
theorem coreBootDone (core : Fin 2) (ok : Bool) : Statement (.coreBootDone core ok) := by
  intro _ h; cases h
theorem dramTrainingDone (eyes : List Eyes) (repaired : List (Nat × Nat)) : Statement (.dramTrainingDone eyes repaired) := by
  intro _ h; cases h
theorem lanesStepEnd : Statement .lanesStepEnd := by
  intro _ h; cases h
theorem timeStepEnd : Statement .timeStepEnd := by
  intro _ h; cases h
theorem pcieReset (kind : PcieResetKind) : Statement (.pcieReset kind) := by
  intro _ h; cases h
theorem busMasterOff (d3 : Bool) : Statement (.busMasterOff d3) := by
  intro _ h; cases h
theorem refLoss : Statement .refLoss := by
  intro _ h; cases h
theorem refRelock : Statement .refRelock := by
  intro _ h; cases h
theorem rootFault : Statement .rootFault := by
  intro _ h; cases h
theorem auxrefLoss : Statement .auxrefLoss := by
  intro _ h; cases h
theorem auxrefRelock : Statement .auxrefRelock := by
  intro _ h; cases h
theorem pllUnlock (hedge : Option (Fin 16)) : Statement (.pllUnlock hedge) := by
  intro _ h; cases h
theorem hedgePllLock (hedge : Fin 16) : Statement (.hedgePllLock hedge) := by
  intro _ h; cases h
theorem railDip : Statement .railDip := by
  intro _ h; cases h
theorem vddIoLoss : Statement .vddIoLoss := by
  intro _ h; cases h
theorem tempSensorRead (readings : List (Fin 7 × Int)) : Statement (.tempSensorRead readings) := by
  intro _ h; cases h
theorem syncEdge (firstFrc : W64) (samples : Nat) : Statement (.syncEdge firstFrc samples) := by
  intro _ h; cases h
theorem trigEdge (line : Fin 8) (rising : Bool) (firstFrc : W64) (samples : Nat) : Statement (.trigEdge line rising firstFrc samples) := by
  intro _ h; cases h
theorem tdcEdge (rising : Bool) (time512 : Nat) : Statement (.tdcEdge rising time512) := by
  intro _ h; cases h
theorem tdcCalibration (inRange : Bool) : Statement (.tdcCalibration inRange) := by
  intro _ h; cases h
theorem samplePacket (lane : Fin 128) (bytes : List Byte) (frameOk : Bool) : Statement (.samplePacket lane bytes frameOk) := by
  intro _ h; cases h
theorem slotCloseSuccessor : Statement .slotCloseSuccessor := by
  intro _ h; cases h
theorem slotCloseStall : Statement .slotCloseStall := by
  intro _ h; cases h
theorem slotCloseLimit : Statement .slotCloseLimit := by
  intro _ h; cases h
theorem dwellAbsentGrace : Statement .dwellAbsentGrace := by
  intro _ h; cases h
theorem ethernetFrame (lane : Fin 128) (bytes : List Byte) (fcsOk : Bool) : Statement (.ethernetFrame lane bytes fcsOk) := by
  intro _ h; cases h
theorem arpNsRequest (lane : Fin 128) (ipv6 : Bool) (target : List Byte) (senderMac : List Byte) (senderIp : List Byte) : Statement (.arpNsRequest lane ipv6 target senderMac senderIp) := by
  intro _ h; cases h
theorem ptpAnnounce (lane : Fin 128) (msg : PtpAnnounce) : Statement (.ptpAnnounce lane msg) := by
  intro _ h; cases h
theorem ptpSync (lane : Fin 128) (master : PtpId) (domain : Nat) (t1 t2 correction logInterval : Int) : Statement (.ptpSync lane master domain t1 t2 correction logInterval) := by
  intro _ h; cases h
theorem ptpDelayResp (lane : Fin 128) (master : PtpId) (domain : Nat) (t4 : Int) (correction : Int) (logInterval : Int) : Statement (.ptpDelayResp lane master domain t4 correction logInterval) := by
  intro _ h; cases h
theorem fjotranuFrame (lane : Fin 128) (header : List Byte) (body : List Byte) (fcrc : W32) (uncorrectable : Bool) (rxTime : Int) : Statement (.fjotranuFrame lane header body fcrc uncorrectable rxTime) := by
  intro _ h; cases h
theorem linkFrame (lane : Fin 128) (body : LinkBody) : Statement (.linkFrame lane body) := by
  intro _ h; cases h
theorem linkFrameSend (lane : Fin 128) : Statement (.linkFrameSend lane) := by
  intro _ h; cases h
theorem heartbeat (lane : Fin 128) (src : Nat) (fseq : W32) (system : Bool) (body : HeartbeatBody) : Statement (.heartbeat lane src fseq system body) := by
  intro _ h; cases h
theorem heartbeatSend : Statement .heartbeatSend := by
  intro _ h; cases h
theorem timeExchangeSend (t3 : Int) : Statement (.timeExchangeSend t3) := by
  intro _ h; cases h
theorem timeReq (lane : Fin 128) (src : Nat) (body : TimeBody) (t4 : Int) (t1 : Int) : Statement (.timeReq lane src body t4 t1) := by
  intro _ h; cases h
theorem timeResp (lane : Fin 128) (src : Nat) (body : TimeBody) (t2 : Int) : Statement (.timeResp lane src body t2) := by
  intro _ h; cases h
theorem meshTrigger (lane : Fin 128) (src : Nat) (fseq : W32) (body : TrigBody) : Statement (.meshTrigger lane src fseq body) := by
  intro _ h; cases h
theorem kcpFrame (lane : Fin 128) (src : Nat) (fseq : W32) (dest : BitVec 12) (packet : List Byte) : Statement (.kcpFrame lane src fseq dest packet) := by
  intro _ h; cases h
theorem kcpReplyFrame (lane : Fin 128) (src : Nat) (reply : List Byte) : Statement (.kcpReplyFrame lane src reply) := by
  intro _ h; cases h
theorem surveyFrame (lane : Fin 128) (src : Nat) (records : List Byte) : Statement (.surveyFrame lane src records) := by
  intro _ h; cases h
theorem surveySend : Statement .surveySend := by
  intro _ h; cases h
theorem dozeFrame (lane : Fin 128) (flags : Byte) : Statement (.dozeFrame lane flags) := by
  intro _ h; cases h
theorem laneLock (lane : Fin 128) : Statement (.laneLock lane) := by
  intro _ h; cases h
theorem laneLockLoss (lane : Fin 128) (signalLost : Bool) : Statement (.laneLockLoss lane signalLost) := by
  intro _ h; cases h
theorem laneLost (lane : Fin 128) : Statement (.laneLost lane) := by
  intro _ h; cases h
theorem laneHealthy (lane : Fin 128) : Statement (.laneHealthy lane) := by
  intro _ h; cases h
theorem serWindow (lane : Fin 128) (errors : Nat) (symbols : Nat) : Statement (.serWindow lane errors symbols) := by
  intro _ h; cases h
theorem egressFrameSend (lane : Fin 128) : Statement (.egressFrameSend lane) := by
  intro _ h; cases h
theorem dwellBoundary : Statement .dwellBoundary := by
  intro _ h; cases h
theorem computeEnd (upsets : List Upset) (events : CellEvents) : Statement (.computeEnd upsets events) := by
  intro _ h; cases h
theorem drainEnd : Statement .drainEnd := by
  intro _ h; cases h
theorem tieBreakDone (bed : Fin 80) (upsets : List Upset) : Statement (.tieBreakDone bed upsets) := by
  intro _ h; cases h
theorem replayRecomputeDone (cell : Nat) (spare : Nat) : Statement (.replayRecomputeDone cell spare) := by
  intro _ h; cases h
theorem cellFault (cell : Fin 1360) (cause : CellFaultCause) : Statement (.cellFault cell cause) := by
  intro _ h; cases h
theorem cellStallTimeout (cell : Fin 1360) : Statement (.cellStallTimeout cell) := by
  intro _ h; cases h
theorem rotationPeriod : Statement .rotationPeriod := by
  intro _ h; cases h
theorem rmwPassStart : Statement .rmwPassStart := by
  intro _ h; cases h
theorem chunkReadDone (pos : Nat) (errs : List (Nat × SymErrs)) : Statement (.chunkReadDone pos errs) := by
  intro _ h; cases h
theorem chunkCommit (pos : Nat) : Statement (.chunkCommit pos) := by
  intro _ h; cases h
theorem chunkWriteTimeout (pos : Nat) : Statement (.chunkWriteTimeout pos) := by
  intro _ h; cases h
theorem rmwEngineReset : Statement .rmwEngineReset := by
  intro _ h; cases h
theorem dwellCommit : Statement .dwellCommit := by
  intro _ h; cases h
theorem almanacRecord : Statement .almanacRecord := by
  intro _ h; cases h
theorem checkpointBegin : Statement .checkpointBegin := by
  intro _ h; cases h
theorem refreshTick (chan : Fin 16) (portBusy : Bool) : Statement (.refreshTick chan portBusy) := by
  intro _ h; cases h
theorem refreshIssue (chan : Fin 16) (forced : Bool) : Statement (.refreshIssue chan forced) := by
  intro _ h; cases h
theorem mr4Read (chan : Fin 16) (rates : List Nat) (overtemp : Bool) : Statement (.mr4Read chan rates overtemp) := by
  intro _ h; cases h
theorem zqCalibration (chan : Fin 16) (subB : Bool) : Statement (.zqCalibration chan subB) := by
  intro _ h; cases h
theorem dqsOscillator (chan : Fin 16) (die : Nat) (drift : Int) : Statement (.dqsOscillator chan die drift) := by
  intro _ h; cases h
theorem scrubRead (chan : Fin 16) (errs : SymErrs) (granted : Bool) : Statement (.scrubRead chan errs granted) := by
  intro _ h; cases h
theorem rowRepair (chan : Fin 16) (row : Nat) (lost : List Nat) : Statement (.rowRepair chan row lost) := by
  intro _ h; cases h
theorem masterResetBurst (master : Fin 8) (target : Fin 22) (addr : Nat) (done : Nat) (total : Nat) : Statement (.masterResetBurst master target addr done total) := by
  intro _ h; cases h
theorem loamScrub (corrected : List (Nat × Nat)) (badSpares : List Nat) : Statement (.loamScrub corrected badSpares) := by
  intro _ h; cases h
theorem loamUncorrectableRead (place : LoamPlace) (bank : Fin 256) (addr : Nat) : Statement (.loamUncorrectableRead place bank addr) := by
  intro _ h; cases h
theorem loamBankCopyDone (group : Fin 16) : Statement (.loamBankCopyDone group) := by
  intro _ h; cases h
theorem phaseFault (stripe : Fin 10) : Statement (.phaseFault stripe) := by
  intro _ h; cases h
theorem stewardFault (stripe : Fin 10) (ownChecks : Bool) : Statement (.stewardFault stripe ownChecks) := by
  intro _ h; cases h
theorem leaseLapse : Statement .leaseLapse := by
  intro _ h; cases h
theorem noHolderTimeout : Statement .noHolderTimeout := by
  intro _ h; cases h
theorem selftestCycle (core : Fin 2) (passed : Bool) : Statement (.selftestCycle core passed) := by
  intro _ h; cases h
theorem revert : Statement .revert := by
  intro _ h; cases h
theorem callerHalfLost : Statement .callerHalfLost := by
  intro _ h; cases h
theorem callerLeaseLapse : Statement .callerLeaseLapse := by
  intro _ h; cases h
theorem callerClaim : Statement .callerClaim := by
  intro _ h; cases h
theorem callerClaimWin : Statement .callerClaimWin := by
  intro _ h; cases h
theorem deviceLost (index : BitVec 10) : Statement (.deviceLost index) := by
  intro _ h; cases h
theorem sourceSilent (source : Nat) : Statement (.sourceSilent source) := by
  intro _ h; cases h
theorem holdLimitExpiry : Statement .holdLimitExpiry := by
  intro _ h; cases h
theorem laneTrainingDone (lane : Fin 128) : Statement (.laneTrainingDone lane) := by
  intro _ h; cases h
theorem linkFrameTimeout (lane : Fin 128) : Statement (.linkFrameTimeout lane) := by
  intro _ h; cases h
theorem ptpDelayReqSend (lane : Fin 128) (t3 : Int) : Statement (.ptpDelayReqSend lane t3) := by
  intro _ h; cases h
theorem announceReceiptTimeout (lane : Fin 128) (master : PtpId) : Statement (.announceReceiptTimeout lane master) := by
  intro _ h; cases h
theorem busMasterEnableSet : Statement .busMasterEnableSet := by
  intro _ h; cases h
theorem pciePerstRelease : Statement .pciePerstRelease := by
  intro _ h; cases h
theorem porstAssert : Statement .porstAssert := by
  intro _ h; cases h
theorem railDipRecovery : Statement .railDipRecovery := by
  intro _ h; cases h
theorem jtagInstruction (op : JtagOp) : Statement (.jtagInstruction op) := by
  intro _ h; cases h
theorem transferComplete : Statement .transferComplete := by
  intro _ h; cases h
theorem memTrainDone (eyes : List Eyes) : Statement (.memTrainDone eyes) := by
  intro _ h; cases h
theorem freezeAcknowledge : Statement .freezeAcknowledge := by
  intro _ h; cases h
theorem leaseRenew : Statement .leaseRenew := by
  intro _ h; cases h
theorem stewardStatus (stripe : Fin 10) : Statement (.stewardStatus stripe) := by
  intro _ h; cases h
theorem noHolderSecondTimeout : Statement .noHolderSecondTimeout := by
  intro _ h; cases h
theorem primaryLockTimeout : Statement .primaryLockTimeout := by
  intro _ h; cases h

end Sys2Proof.Laws.Shape
end

