-- ==== Sys2Proof/Machine/Facts.lean ====
section
/-! DEFINITION. Facts that the spec fixes and no step changes: capacities, clocks, ports, identities, layouts in the flash, the limits at the
pins, power, thermal and mechanical figures, and the ball map (R2, R9, R10, R17, R18, R28, R234, R244, R245, R271, R290, R297, R322, R355,
R356, R364, R365, R379 to R385, R388 to R400). Where a step uses one of these numbers it stands in that step; here they stand as the tables
of the spec give them. -/

namespace Sys2Proof.Machine
open Sys2Proof

/-! ### Capacities, hierarchy and clocks (R2, R9, R10, R17, R18) -/

/-- Levels 1 to 4 and 6 to 7 of the data hierarchy (R9), and capacities of R2. -/
structure Capacity where
  inputs : Nat := 4096
  blocks : Nat := 128
  blockPairs : Nat := 8256
  cells : Nat := 1360
  activeCells : Nat := 1280
  beds : Nat := 80
  bedsPerQuadrant : Nat := 20
  cellsPerBed : Nat := 17
  tinesPerCell : Nat := 1024
  beams : Nat := 256
  sieves : Nat := 64
  decimation : Nat × Nat := (2, 4096)
  taps : Nat := 256
  lanes : Nat := 128
  hedges : Nat := 16
  dramChannels : Nat := 16
  dramBytes : Nat := 137438953472
  captureBytes : Nat := 103079215104
  captureRate : Nat := 200000000000
  segments : Nat := 32
  devicesPerSegment : Nat := 32
  devices : Nat := 1024
  deriving DecidableEq, Repr

/-- The part (R1, R2, R9). -/
def capacity : Capacity := {}

/-- Physical index of the cell at quadrant q, bed b, position k (R10). -/
def physicalCell (q b k : Nat) : Nat := 17 * (20 * q + b) + k

/-- Internal clocks of the root PLL (R17). -/
inductive Clock where
  | xclk | dclk | fclk | tclk | pclk
  deriving DecidableEq, Repr

/-- The root PLL in kHz, locked to REFCLK at 100 MHz (R17). -/
def rootKHz : Nat := 8000000

/-- Dividers of R17. -/
def Clock.divider : Clock → Nat
  | .xclk => 5 | .dclk => 2 | .fclk => 8 | .tclk => 16 | .pclk => 32

/-- A clock's frequency in kHz. -/
def Clock.kHz (c : Clock) : Nat := rootKHz / c.divider

/-- A clock's period in 2^-3 × 2^-1 ns = 1/16 ns. A crossing is synchronous: both periods are whole multiples of the root PLL's 2/16 ns
(R18). -/
def Clock.period16 (c : Clock) : Nat := 2 * c.divider

/-- Uses of the Loam's 1 GiB, in MiB (R28): seedbed, staging, beam tables, placement and routines, riddle coefficients and reserve. -/
def loamMiB : List Nat := [768, 136, 32, 8, 80]

/-- The single-fault spares of R297: count of each kind, in the order of the table. -/
def spareCounts : List Nat := [80, 2, 16, 511, 1, 1, 1, 1, 1]

/-- Reply bounds of R234 in ns: Urgent, Normal, Bulk, groundskeeper or SMBus, relayed, after a fail-over. -/
def replyBounds : List Nat := [250000, 1000000, 1000000, 10000000, 1000000, 1000000]

/-- No output stream pauses for more than this after a single fault, in ns (R322). -/
def pauseBound : Nat := 500000

/-! ### Lanes, DRAM and Trellis ports (R244, R245, R271, R290) -/

/-- Hedge and lane within it of a lane, and its edge die (R244). -/
def hedgeOf (l : Nat) : Nat × Nat × Nat := (l / 8, l % 8, l / 32)

/-- Lane rate in Mb/s on the wire and after FEC, code words of the FEC, and the frame sizes of the MAC (R245). -/
structure LanePhy where
  lineMbps : Nat := 106250
  dataMbps : Nat := 100000
  fec : Nat × Nat := (544, 514)
  frameBytes : Nat × Nat := (64, 9216)
  deriving DecidableEq, Repr

/-- Every lane (R245). -/
def lanePhy : LanePhy := {}

/-- Organisation of a DRAM channel (R271). -/
structure DramOrg where
  mtps : Nat := 8000
  subchannels : Nat := 2
  dataBits : Nat := 32
  eccBits : Nat := 8
  ranks : Nat := 1
  dies : Nat := 3
  bankGroups : Nat := 4
  banksPerGroup : Nat := 4
  rows : Nat := 65536
  columns : Nat := 1024
  burst : Nat := 16
  deriving DecidableEq, Repr

/-- Every channel (R271). -/
def dramOrg : DramOrg := {}

/-- Trellis masters 0 to 7: ports, and whether the class is real-time (R290). -/
def trellisMasters : List (Nat × Bool) :=
  [(16, true), (2, false), (4, true), (1, true), (1, false), (2, false), (1, true), (1, false)]

/-- Trellis targets: DRAM channels T0 to T15, Loam T16 to T19, X bridge T20, edge bridge T21 (R290). -/
def trellisTargets : Nat := 22

/-! ### PCI Express, JTAG and flash (R355, R356, R364, R365) -/

/-- Identity in configuration space (R355): device ID, revision ID, class code, MSI-X vectors, max payload, max read request. -/
structure PciIdentity where
  deviceId : BitVec 16 := 0xD4A0
  revisionId : BitVec 8 := 0xB0
  classCode : BitVec 24 := 0x118000
  vectors : Nat := 64
  maxPayload : Nat := 512
  maxReadRequest : Nat := 4096
  deriving DecidableEq, Repr

/-- The one physical function (R355). -/
def pciIdentity : PciIdentity := {}

/-- The BARs: number, size, prefetchable (R356). -/
def pciBars : List (Nat × Nat × Bool) := [(0, 2 ^ 16, false), (2, 2 ^ 19, false), (4, 2 ^ 32, true)]

/-- IDCODE but for the manufacturer's code in [11:1] (R364). -/
def idcode (maker : BitVec 11) : W32 := (0xB#4 ++ 0xD4A0#16 ++ maker ++ 1#1 : BitVec 32)

/-- The areas of the SPI flash: address and size (R365). Directory, board block, health copies 0 and 1, images A and B. -/
def flashAreas : List (Nat × Nat) :=
  [(0x0000000, 4096), (0x0001000, 4096), (0x0100000, 2 ^ 20), (0x0200000, 2 ^ 20), (0x0400000, 2 ^ 24), (0x1400000, 2 ^ 24)]

/-- The device's 7-bit SMBus address (R362). -/
def smbusAddress (straps : BitVec 3) : BitVec 7 := 0x58 + straps.zeroExtend 7

/-! ### Rails, power and temperatures (R379 to R385, R394) -/

/-- The five rails. -/
inductive Rail where
  | vinIvr | vddIo | vddqMem | vddaPll | vddaLane
  deriving DecidableEq, Repr

/-- Nominal, lowest and highest recommended level in mV (R379). -/
def Rail.levels : Rail → Nat × Nat × Nat
  | .vinIvr => (1800, 1746, 1854) | .vddIo => (1800, 1710, 1890) | .vddqMem => (1100, 1067, 1133)
  | .vddaPll => (1200, 1176, 1224) | .vddaLane => (900, 882, 918)

/-- A level is within the recommended range (R379). -/
def Rail.inRange (r : Rail) (mV : Nat) : Bool := decide (r.levels.2.1 ≤ mV ∧ mV ≤ r.levels.2.2)

/-- A level is below 90% of nominal: every die is held in reset (R386). -/
def Rail.low90 (r : Rail) (mV : Nat) : Bool := decide (10 * mV < 9 * r.levels.1)

/-- A level that dips a rail other than VDD_IO (94% of nominal), or that resets the device on VDD_IO (1.62 V) (R387). -/
def Rail.dips (r : Rail) (mV : Nat) : Bool := if r = .vddIo then decide (mV < 1620) else decide (100 * mV < 94 * r.levels.1)

/-- Highest level without damage in mV (R380); the lowest is -300 mV. -/
def Rail.stress : Rail → Nat
  | .vinIvr | .vddIo => 2000 | .vddqMem | .vddaPll => 1400 | .vddaLane => 1100

/-- Other limits of R380: 3.9 V pins, reference and TDC legs, lane and PCI Express legs in mV; junction and storage in °C; ESD in V. -/
structure StressLimits where
  tolerantPins : Int × Int := (-300, 3900)
  references : Int × Int := (-300, 2000)
  serial : Int × Int := (-300, 1100)
  junction : Int := 125
  storage : Int × Int := (-40, 125)
  esdHuman : Nat := 1000
  esdDevice : Nat × Nat := (250, 125)
  deriving DecidableEq, Repr

/-- R380. -/
def stressLimits : StressLimits := {}

/-- Junction temperature range in °C and adaptive core supply in mV of R379; the margin steps take the supply to at most 800 mV. -/
def junctionRange : Nat × Nat := (0, 95)
/-- The adaptive supply before margin steps (R379). -/
def coreSupply : Nat × Nat := (550, 760)
/-- The core supply with `n` margin steps, in mV (R326, R379). -/
def coreSupplyWith (mV n : Nat) : Nat := mV + 5 * min n 8

/-- Power by block in W at the operating points No plan, Hazel, Juniper and Maximum (R381), in the order of the table. -/
def powerTable : List (List Nat) :=
  [[0, 55, 94, 94], [2, 15, 25, 25], [0, 8, 13, 23], [38, 38, 38, 38], [12, 16, 19, 20], [2, 6, 8, 8]] ++
  [[3, 3, 3, 3], [1, 3, 4, 4], [3, 3, 3, 3], [4, 11, 16, 17], [15, 15, 15, 15]]

/-- Total power at an operating point, in W (R381). -/
def powerAt (point : Nat) : Nat := (powerTable.map (·.getD point 0)).sum

/-- The most that any accepted plan draws, in W (R382). -/
def powerMax : Nat := 250

/-- Design current of each rail in mA (R383). -/
def Rail.design : Rail → Nat
  | .vinIvr => 135000 | .vddIo => 500 | .vddqMem => 12000 | .vddaPll => 2500 | .vddaLane => 30000

/-- The VIN_IVR current step in A, its shortest transition in ns, and the steps in a dwell period (R384). -/
def currentStep : Nat × Nat × Nat := (75, 5000, 2)

/-- Regulator phases of a stripe, their current in A, and the highest load in 0.1 A (R385). -/
def stripePhases : Nat × Nat × Nat := (6, 4, 178)

/-- Power left under SAFE_STOP MODE 2, in W (R393). -/
def stoppedPower : Nat := 18

/-- The highest lid temperature at a power in W, in 0.001 °C (R394). -/
def lidLimit (watts : Nat) : Int := 95000 - 45 * watts

/-! ### Pins (R388 to R391) -/

/-- Limits of the reference inputs (R388): frequency in Hz and its tolerance in ppm, high level and crossing point in mV, slew in 0.1 V/ns,
jitter in fs. -/
structure RefLimits where
  hz : Nat := 100000000
  ppm : Nat := 100
  high : Nat × Nat := (600, 850)
  crossing : Nat × Nat := (250, 550)
  slew : Nat × Nat := (6, 40)
  jitter : Nat := 200
  lossNs : Nat := 200
  deriving DecidableEq, Repr

/-- REFCLK and AUXREFCLK (R388). -/
def refLimits : RefLimits := {}

/-- SYNC and TRIG (R389): thresholds in mV; the pulse always counted, the pulse never counted, the spacing counted, in 0.1 ns. -/
structure LineLimits where
  low : Nat := 540
  high : Nat × Nat := (1260, 3600)
  counted : Nat := 60
  never : Nat := 20
  spacing : Nat := 60
  deriving DecidableEq, Repr

/-- R389. -/
def lineLimits : LineLimits := {}

/-- TDC_IN (R390): amplitude and common mode in mV, pulse width and edge spacing in ns, resolution in 0.1 ps, the systematic errors on
background and on factory calibration in ps. -/
structure TdcLimits where
  amplitude : Nat × Nat := (100, 600)
  common : Nat × Nat := (300, 1600)
  width : Nat := 2
  spacing : Nat := 20
  resolution : Nat := 39
  random : Nat := 3
  error : Nat × Nat := (20, 50)
  deriving DecidableEq, Repr

/-- R390. -/
def tdcLimits : TdcLimits := {}

/-- Strap pull-down, strap drive, and the current THERMTRIP_N sinks: kΩ, 0.1 kΩ, mA (R391). -/
def strapLimits : Nat × Nat × Nat := (40, 47, 8)

/-- Temperature sensors of a die, X die, Loam tiers, edge dies (R392), and their accuracy in °C. -/
def sensorCounts : List Nat := [40, 8, 8, 6, 6, 6, 6]
/-- R392. -/
def sensorError : Nat := 2

/-! ### Package and ball map (R395 to R400) -/

/-- Body edge, pitch, lid, seated height in 0.01 mm; ball diameter in 0.01 mm; mass in g (R395). -/
structure PackageBody where
  body : Nat := 7750
  pitch : Nat := 100
  grid : Nat := 76
  lid : Nat := 7000
  height : Nat := 480
  ball : Nat := 60
  coplanarity : Nat := 20
  mass : Nat := 98
  deriving DecidableEq, Repr

/-- R395. -/
def packageBody : PackageBody := {}

/-- Clock, timing and management pins (R399). -/
inductive Pin where
  | refclk (p : Bool) | auxrefclk (p : Bool) | tdcIn (p : Bool) | sync | trig (i : Nat)
  | porstN | pciePerstN | pcieRefsel | thermtripN | smbClk | smbDat | smbAddr (i : Nat)
  | tck | tms | tdi | tdo | trstN | spiClk | spiCsN | spiIo (i : Nat)
  deriving DecidableEq, Repr

/-- Signals of a DRAM channel (R398); `b` is subchannel B, `t` the true half of a pair. -/
inductive DramPin where
  | ck (b t : Bool) | csN (b : Bool) | ca (b : Bool) (i : Nat) | dq (b : Bool) (i : Nat) | dqs (b : Bool) (i : Nat) (t : Bool)
  | cb (b : Bool) (i : Nat) | resetN | alertN (b : Bool)
  deriving DecidableEq, Repr

/-- What a ball carries (R396). `p` is the P or T half of a pair. -/
inductive Ball where
  | gnd | rail (r : Rail) | lane (l : Nat) (tx p : Bool) | pcie (k : Nat) (tx p : Bool) | dram (ch : Nat) (pin : DramPin) | pin (x : Pin)
  deriving DecidableEq, Repr

/-- Subchannel signals in the order of R398: command, then data with each strobe after its byte. -/
def subPins (b : Bool) : List DramPin :=
  let byte (i : Nat) : List DramPin :=
    List.append ((List.range 8).map fun j => DramPin.dq b (8 * i + j)) [DramPin.dqs b i true, DramPin.dqs b i false]
  List.flatten [[DramPin.ck b true, DramPin.ck b false, DramPin.csN b], (List.range 14).map (DramPin.ca b), (List.range 4).flatMap byte,
    (List.range 8).map (DramPin.cb b), [DramPin.dqs b 4 true, DramPin.dqs b 4 false]]

/-- The 137 signals of a channel in order (R398). -/
def dramPins : List DramPin := subPins false ++ subPins true ++ [.resetN, .alertN false, .alertN true]

/-- Position p of line i of a channel's block (R398). -/
def dramBall (ch i p : Nat) : Ball :=
  if p = 0 ∧ i ≤ 10 then .gnd
  else if p = 12 ∧ i ≤ 7 then .rail .vddqMem
  else
    match dramPins[13 * i + p - min i 11 - min i 8 - (if i ≤ 10 then 1 else 0)]? with
    | some x => .dram ch x
    | none => .gnd

/-- Pins of R399 by row and column: references, TDC, SYNC and TRIG. -/
def pinsClocks : List (Nat × Nat × Pin) :=
  List.flatten
    [[(71, 2, Pin.refclk true), (71, 3, Pin.refclk false), (71, 5, Pin.auxrefclk true), (71, 6, Pin.auxrefclk false),
      (73, 2, Pin.tdcIn true), (73, 3, Pin.tdcIn false), (73, 5, Pin.sync)],
     (List.range 4).map fun i => (75, 2 + i, Pin.trig i), (List.range 4).map fun i => (76, 2 + i, Pin.trig (4 + i))]

/-- Pins of R399 by row and column: resets, straps and the buses. -/
def pinsBuses : List (Nat × Nat × Pin) :=
  List.flatten
    [[(71, 72, Pin.porstN), (71, 73, Pin.pciePerstN), (71, 74, Pin.pcieRefsel), (71, 75, Pin.thermtripN), (72, 72, Pin.smbClk),
      (72, 73, Pin.smbDat)],
     (List.range 3).map fun i => (72, 74 + i, Pin.smbAddr i),
     [(74, 72, Pin.tck), (74, 73, Pin.tms), (74, 74, Pin.tdi), (74, 75, Pin.tdo), (74, 76, Pin.trstN), (75, 71, Pin.spiClk),
      (75, 72, Pin.spiCsN)],
     (List.range 4).map fun i => (75, 73 + i, Pin.spiIo i)]

/-- Rail balls of the pin blocks (R399) by row and column. -/
def railTable : List (Nat × Nat × Rail) :=
  [(72, 1, Rail.vddaPll), (72, 6, Rail.vddaPll), (74, 1, Rail.vddaPll), (74, 6, Rail.vddaPll), (73, 71, Rail.vddIo), (73, 76, Rail.vddIo),
   (76, 71, Rail.vddIo), (76, 76, Rail.vddIo)]

/-- The pins of R399 by row and column. -/
def pinTable : List (Nat × Nat × Ball) :=
  List.append ((List.append pinsClocks pinsBuses).map fun x => (x.1, x.2.1, Ball.pin x.2.2)) (railTable.map fun x => (x.1, x.2.1, Ball.rail x.2.2))

/-- The PCI Express corners (R397): row `r` 1 to 6 and column from 2 of the pair's first ball. -/
def pcieBall (r c : Nat) (tx : Bool) : Ball :=
  match [1, 2, 4, 5].findIdx? (· = r) with
  | none => .gnd
  | some j => if c = 2 ∨ c = 3 then .pcie (2 * j) tx (c = 2) else if c = 5 ∨ c = 6 then .pcie (2 * j + 1) tx (c = 5) else .gnd

/-- A lane band (R397): `d` the edge die, `e` the line from the package edge 1 to 4, `x` the place along it. -/
def laneBall (d e x : Nat) : Ball :=
  if x < 8 ∨ 3 ≤ x % 4 ∨ x % 4 = 2 then .gnd
  else
    let c := (x - 8) / 4
    if 15 < c then .gnd else .lane (32 * d + 16 * ((e - 1) / 2) + c) (e % 2 = 1) (x % 4 = 0)

/-- A lane supply ball (R396). -/
def supplyBall (r c : Nat) : Ball := if (r + c) % 2 = 0 then .rail .vddaLane else .gnd

/-- What the ball at a row and column carries (R396 to R399). -/
def ballAt (r c : Nat) : Ball :=
  let mid (x : Nat) : Bool := decide (7 ≤ x ∧ x ≤ 70)
  if r ≤ 6 ∧ c ≤ 6 then pcieBall r c true
  else if r ≤ 6 ∧ 71 ≤ c then pcieBall r (c - 70) false
  else if 71 ≤ r ∧ (c ≤ 6 ∨ 71 ≤ c) then ((pinTable.find? fun x => x.1 = r && x.2.1 = c).map (·.2.2)).getD .gnd
  else if mid c ∧ r ≤ 4 then laneBall 0 r c
  else if mid r ∧ 73 ≤ c then laneBall 1 (77 - c) r
  else if mid c ∧ 73 ≤ r then laneBall 2 (77 - r) c
  else if mid r ∧ c ≤ 4 then laneBall 3 c r
  else if r ≤ 6 ∨ 71 ≤ r ∨ c ≤ 6 ∨ 71 ≤ c then supplyBall r c
  else if r ≤ 18 ∧ c ≤ 58 then dramBall ((c - 7) / 13) (r - 7) ((c - 7) % 13)
  else if r ≤ 58 ∧ 59 ≤ c then dramBall (4 + (r - 7) / 13) (70 - c) ((r - 7) % 13)
  else if 59 ≤ r ∧ 19 ≤ c then dramBall (8 + (c - 19) / 13) (70 - r) ((c - 19) % 13)
  else if 19 ≤ r ∧ c ≤ 18 then dramBall (12 + (r - 19) / 13) (c - 7) ((r - 19) % 13)
  else if (r + c) % 10 = 0 ∨ (r + c) % 10 = 3 ∨ (r + c) % 10 = 6 then .rail .vinIvr
  else .gnd

/-- Balls of the grid that a predicate counts. -/
def ballCount (f : Ball → Bool) : Nat :=
  ((List.range 76).map fun r => ((List.range 76).filter fun c => f (ballAt (r + 1) (c + 1))).length).sum

/-- Handling (R400): moisture level, floor life in h, peak reflow in °C, parts in a tray. -/
def handling : Nat × Nat × Nat × Nat := (3, 168, 250, 5)

end Sys2Proof.Machine
end

