-- ==== Sys2Proof/Tests/Slice0.lean ====
section
/-! SUPPORT. Tests: the well-formedness checks refuse ill-formed commands, the worked examples of spec/, and for every obligation states and
operands that meet its hypotheses. -/

set_option maxRecDepth 100000
set_option Elab.async false

open Sys2Proof Sys2Proof.Machine Sys2Proof.Safety

namespace Sys2Proof.Tests

/-! ### States and packets -/

/-- A packet of a code with parameter bytes, its length and its CRC-32C as R218 asks. -/
def pk (code : BitVec 16) (ps : List Byte) (path : Path := .urg) (flags : BitVec 16 := 0) (route : W32 := 0) (dma : List Byte := []) : KcpIn :=
  let k : KcpIn := { path := path, opcodeN := ~~~ code, flags := flags, seq := 5, route := route, plen := BitVec.ofNat 16 ps.length
                     params := ps, dma := dma }
  { k with crc := kCrc code k }

/-- A device of one, in service: core 0 holds the supervisor lease, the rings are enabled, no plan is active. -/
def live : State :=
  let s := State.reset
  let on (x : Ring) : Ring := { x with enable := true }
  { s with
    clk := { s.clk with held := false, porst := false, rootLock := true, refPresent := true, auxrefPresent := true }
    boot := { s.boot with step := 8 }
    time := { s.time with frcOn := true, frc := 5000 }
    sup := { s.sup with lease := 0x102, leaseN := ~~~ 0x102, core0 := .active, core1 := .standby }
    pcie := { s.pcie with up := true, perst := false, busMaster := true }
    mesh := { s.mesh with caller := true, lead := true }
    cells := { s.cells with powered := 0x3FF }
    kcp := { s.kcp with urg := on s.kcp.urg, nrm := on s.kcp.nrm, blk := on s.kcp.blk, gkr := on s.kcp.gkr } }

/-- A small plan: one block, two channels, two cells. -/
def plan0 : Plan :=
  { version := 0x100000001, req := { T := 65536, fadeSlots := 1, channels := [3, 4], sources := [⟨7, 0, 1, 1⟩] }
    blocks := [0], layout := [3, 4], cellMap := [0, 1], tX := 1000, dNum := 100000
    routes := [{ device := 0, lane := 8, source := 7, firstBlock := 0, nBlocks := 1, slice := 0 }], roles := 0x24 }

/-- The device under that plan. -/
def busy : State := { live with plan := { live.plan with active := some plan0 } }

/-- A packet that meets what an opcode's statement asks of it. -/
def Meets (op : OpDef) (k : KcpIn) (s : State) (ok : KcpIn → List Byte → State → Prop) : Prop :=
  Accepted op k s ∧ ok k (effPar op k) (entered op k s)


/-- An item of R239. -/
def item (id : Nat) (v : List Byte) : List Byte := le2 id ++ le2 v.length ++ v ++ zeros ((4 - v.length % 4) % 4)

/-- The items that parameter bytes hold from a byte on. -/
def items (off : Nat) (p : List Byte) : List (Nat × Nat × List Byte) := (parseItems p.length off (p.drop (off - 32))).1.getD []

/-- The left part of a sum. -/
def leftOf {a b : Type} (d : a) : a ⊕ b → a
  | .inl x => x
  | .inr _ => d

/-- A heartbeat of device 1. -/
def beat : HeartbeatBody :=
  { birth := 7, caller := false, standby := false, lead := false, partitioned := false, synced := false, segment := 0, sup := 0, lease := callerWord 0 1
    leaseN := ~~~ callerWord 0 1, reach := 2, planVersion := 0, timeNs := 0, timeFrac := 0 }

/-- The device after a failed training. -/
def failedTraining : State := { live with boot := { live.boot with trainFail := true } }

/-- The caller of a system of two; device 1 was heard now and is the standby caller. -/
def pair : State :=
  { live with
    boot := { live.boot with system := 2 }
    mesh := { live.mesh with
      standbyIndex := 1, carrying := true, lease := callerWord 0 1, leaseN := ~~~ callerWord 0 1
      voters := [{ index := 0, birth := live.birth }, { index := 1, birth := 7 }]
      heard := [{ index := 1, birth := 7, heardAt := 5000, wideAt := some 5000, body := beat }]
      system := [{ index := 1, device := [] }] } }

/-! ### Witnesses of the hypotheses: packets -/

theorem test_w_DeviceReadsAnswer :
    Meets opIdent (pk 0x0002 []) live Claims.always ∧
    Meets opSurveyGet (pk 0x0003 (le2 4 ++ le2 1359 ++ le2 1 ++ zeros 6)) live (fun _ p _ =>
      surveyIndexes (fieldAt 0 2 p) = some 1360 ∧ fieldAt 2 2 p < 1360 ∧ fieldAt 2 2 p + fieldAt 4 2 p ≤ 1360) ∧
    Meets opSurveySnapshot (pk 0x0004 [] .gkr) live Claims.always ∧
    Meets opLaneStatusGet (pk 0x0702 [127, 1, 0, 0, 0, 0, 0, 0]) live (fun _ p _ => fieldAt 0 1 p < 128 ∧ fieldAt 0 1 p + fieldAt 1 1 p ≤ 128) ∧
    Meets opTimeRead (pk 0x0601 []) live Claims.always ∧
    Meets opCueListGet (pk 0x0607 (zeros 4)) live Claims.always ∧
    Meets opMemStatusGet (pk 0x0803 [15, 0, 0, 0]) live (fun _ p s => s.boot.trainFail = false ∧ fieldAt 0 1 p < 16) ∧
    Meets opSpareMapGet (pk 0x0901 []) live Claims.always ∧
    Meets opReplayStatusGet (pk 0x0A06 []) live (fun _ _ s => s.boot.trainFail = false) ∧
    Meets opMarginGet (pk 0x0B01 []) live Claims.always ∧
    Meets opMemStatusGet (pk 0x0803 [15, 0, 0, 0]) failedTraining (fun k _ s => s.boot.trainFail = true ∧ k.path ≠ .gkr ∧ k.path ≠ .smbus) ∧
    Meets opReplayStatusGet (pk 0x0A06 []) failedTraining (fun k _ s => s.boot.trainFail = true ∧ k.path ≠ .gkr ∧ k.path ≠ .smbus) := by
  unfold Meets Accepted Claims.always; dsimp only; and_intros <;> decide +kernel

theorem test_w_PlanAndCaptureReadsAnswer :
    Meets opPlanGet (pk 0x0202 (zeros 8)) busy (fun _ p s => whichPlan p s = .inl (plan0, 0)) ∧
    Meets opPlanTableGet (pk 0x0203 (zeros 8)) busy (fun _ p s => whichPlan p s = .inl (plan0, 0)) ∧
    Meets opBaselineGet (pk 0x0204 (zeros 8)) busy (fun _ p s => whichPlan p s = .inl (plan0, 0)) ∧
    Meets opIntegStatusGet (pk 0x0304 (le2 1 ++ le2 1 ++ zeros 4)) busy
      (fun _ p s => s.plan.active = some plan0 ∧ fieldAt 0 2 p < plan0.C ∧ fieldAt 0 2 p + fieldAt 2 2 p ≤ plan0.C) ∧
    Meets opBeamGet (pk 0x0406 (le2 255 ++ zeros 2)) busy (fun _ p s => s.plan.active.isSome = true ∧ fieldAt 0 2 p < 256) ∧
    Meets opCaptureStatusGet (pk 0x0509 [7, 0, 0, 0]) live (fun _ p s => s.boot.trainFail = false ∧ fieldAt 0 1 p < 8) ∧
    Meets opCaptureMissedGet (pk 0x0508 []) live (fun _ _ s => s.boot.trainFail = false) := by
  unfold Meets Accepted; dsimp only; and_intros <;> decide +kernel

theorem test_w_EchoAndParameters :
    Meets opEcho (pk 0x0001 [1, 2, 3, 4] .nrm) live Claims.always ∧
    Meets opParamGet (pk 0x0101 (le2 (0x1428 / 4) ++ zeros 2)) live (fun _ p _ => ∀ e ∈ paramEntries 4 p, paramKnown (fieldAt 0 2 e.2) = true) ∧
    Meets opParamSet (pk 0x0102 (le2 (0x1428 / 4) ++ zeros 2 ++ le4 500 ++ compl (le4 500))) live
      (fun _ p _ => ∀ e ∈ paramEntries 12 p, paramFault e.1 e.2 = none) ∧
    Meets opParamSet (pk 0x0102 (le2 (0x1428 / 4) ++ zeros 2 ++ le4 500 ++ le4 500)) live
      (fun _ p _ => ∃ e ∈ paramEntries 12 p, paramFault e.1 e.2 ≠ none) := by
  unfold Meets Accepted Claims.always; dsimp only; and_intros <;> decide +kernel

theorem test_w_SafeStopActs :
    Meets opSafeStop (pk 0x0006 [2, 0, 0, 0] .gkr) live (fun _ p _ => fieldAt 0 1 p ≤ 2) ∧
    Meets opSafeStop (pk 0x0006 [3, 0, 0, 0] .gkr) live (fun _ p _ => 2 < fieldAt 0 1 p) ∧
    (busy.role 16 = 2 ∧ busy.lanes.lane.length = 128 ∧ busy.rmw.pass = none ∧ busy.gk.stopped = false) ∧
    (let s := { busy with rmw := { busy.rmw with pass := some { dwell := { ver := 1, chan := 0, sweep := 0 } } } }
     s.arraysRun = true ∧ s.gk.stopped = false ∧ s.gk.commitWait = false ∧ s.rmw.pass ≠ none) ∧
    (let s := safeStop 1 { busy with rmw := { busy.rmw with pass := some { dwell := { ver := 1, chan := 0, sweep := 0 } } } }
     s.gk.stopped = true ∧ 1 ≤ s.gk.mode ∧ (safeStop 2 s).gk.mode = 2) := by
  unfold Meets Accepted; dsimp only; and_intros <;> decide +kernel

theorem test_w_MarginsAreSetAndKept :
    Meets opMarginSet (pk 0x0B02 [9, 9, 0, 0]) live (fun _ p s => fieldAt 0 1 p < 10 ∧ s.plan.active = none) ∧
    Meets opMarginSet (pk 0x0B02 [9, 8, 0, 0]) busy (fun _ p s => fieldAt 0 1 p < 10 ∧ s.plan.active ≠ none) ∧
    Meets opMarginMode (pk 0x0B03 [1, 0, 0, 0]) live (fun _ p _ => fieldAt 0 1 p ≤ 1) ∧
    Meets opMarginSet (pk 0x0B02 [10, 8, 0, 0]) live (fun _ p _ => 10 ≤ fieldAt 0 1 p) ∧
    Meets opMarginMode (pk 0x0B03 [2, 0, 0, 0]) live (fun _ p _ => 1 < fieldAt 0 1 p) ∧
    9 < live.cells.margin.length ∧ live.healthSerial.toNat + 1 < 2 ^ 32 := by
  unfold Meets Accepted; dsimp only; and_intros <;> decide +kernel


theorem test_w_PlanSubmitStartsOneComputation :
    (let ps := item 20 [1]
     let b := { live with plan := { live.plan with request := some plan0.req } }
     let is := items 32 ps
     let r := leftOf {} (planItems is b.baseRequest)
     Meets opPlanSubmit (pk 0x0201 ps) b (fun _ p s => s.boot.trainFail = false ∧ (parseItems p.length 32 p).1 = some is ∧ s.plan.computing = none ∧
       s.plan.pendingPlan = none ∧ repeatedItem is [] = none ∧ planItems is s.baseRequest = .inl r ∧
       requestFault r.withWidth s.plan.request.isSome is (32 + p.length) = none)) ∧
    Meets opPlanSubmit (pk 0x0201 (item 20 [1])) { live with plan := { live.plan with pendingPlan := some plan0 } }
      (fun _ p s => s.boot.trainFail = false ∧ (parseItems p.length 32 p).1.isSome = true ∧ (s.plan.computing.isSome = true ∨ s.plan.pendingPlan.isSome = true)) ∧
    (let ps := item 20 [1] ++ item 20 [1]
     let is := items 32 ps
     Meets opPlanSubmit (pk 0x0201 ps) live (fun _ p s => s.boot.trainFail = false ∧ (parseItems p.length 32 p).1 = some is ∧ s.plan.computing = none ∧
       s.plan.pendingPlan = none ∧ (repeatedItem is []).isSome = true)) ∧
    (let ps := item 9999 [1]
     let is := items 32 ps
     Meets opPlanSubmit (pk 0x0201 ps) live (fun _ p s => s.boot.trainFail = false ∧ (parseItems p.length 32 p).1 = some is ∧ s.plan.computing = none ∧
       s.plan.pendingPlan = none ∧ repeatedItem is [] = none ∧ (match planItems is s.baseRequest with | .inr _ => true | .inl _ => false) = true)) ∧
    (let ps := item 20 [1]
     let is := items 32 ps
     let r := leftOf {} (planItems is live.baseRequest)
     Meets opPlanSubmit (pk 0x0201 ps) live (fun _ p s => s.boot.trainFail = false ∧ (parseItems p.length 32 p).1 = some is ∧ s.plan.computing = none ∧
       s.plan.pendingPlan = none ∧ repeatedItem is [] = none ∧ planItems is s.baseRequest = .inl r ∧
       (requestFault r.withWidth s.plan.request.isSome is (32 + p.length)).isSome = true)) ∧
    Meets opPlanSubmit (pk 0x0201 (item 20 [1])) failedTraining (fun k _ s => s.boot.trainFail = true ∧ k.path ≠ .gkr ∧ k.path ≠ .smbus) ∧
    Meets opPlanPublish (pk 0x0205 (le8 7 ++ le2 1 ++ le2 2 ++ zeros 4 ++ zeros 16) .mesh) live
      (fun _ p s => fieldAt 8 2 p < fieldAt 10 2 p ∧
        pagesDone (BitVec.ofNat 64 (fieldAt 0 8 p)) (fieldAt 10 2 p)
          (s.plan.pages.filter (fun x => x.version = BitVec.ofNat 64 (fieldAt 0 8 p) && x.npage = fieldAt 10 2 p &&
            x.page ≠ fieldAt 8 2 p) ++ [Claims.pageOf p]) = none) := by
  unfold Meets Accepted; dsimp only; and_intros <;> decide +kernel

theorem test_w_SystemMembership :
    (let l0 : List Lane := (List.range 128).map fun i => { fj := decide (i < 8) }
     let s := { live with lanes := { live.lanes with lane := l0 } }
     Meets opSystemJoin (pk 0x0206 [1, 31, 0, 0]) s (fun _ p s => fieldAt 0 1 p ≤ 1 ∧ fieldAt 1 1 p ≤ 31 ∧ s.plan.active = none ∧
       s.boot.system = 0 ∧ ∀ l < 8, (s.lane l).fj = true)) ∧
    Meets opSystemLeave (pk 0x0207 []) { pair with mesh := { pair.mesh with caller := false } }
      (fun _ _ s => s.mayNotLeave = false ∧ s.plan.active = none) ∧
    Meets opSystemLeave (pk 0x0207 []) { pair with mesh := { pair.mesh with caller := false }, plan := busy.plan }
      (fun _ _ s => s.mayNotLeave = false ∧ s.plan.active.isSome = true) ∧
    Meets opSystemLeave (pk 0x0207 []) pair (fun _ _ s => s.boot.system = 2 ∧ s.mesh.caller = true ∧ 1 < s.members.length) ∧
    Meets opCallerHandover (pk 0x0908 []) pair (fun _ _ _ => pair.boot.system = 2 ∧ pair.mesh.standbyIndex ≠ 0x3FF ∧
      (pair.heardAt pair.now 250000).any (·.index = pair.mesh.standbyIndex) = true) ∧
    (let l0 : List Lane := (List.range 128).map fun i => { fj := decide (i < 7) }
     let s := { live with lanes := { live.lanes with lane := l0 } }
     Meets opSystemJoin (pk 0x0206 [1, 31, 0, 0]) s (fun _ p s => fieldAt 1 1 p ≤ 31 ∧ s.plan.active = none ∧ s.boot.system = 0 ∧ ∃ l < 8, (s.lane l).fj = false)) ∧
    Meets opSystemJoin (pk 0x0206 [2, 0, 0, 0]) live (fun _ p _ => 1 < fieldAt 0 1 p) ∧
    Meets opSystemJoin (pk 0x0206 [1, 32, 0, 0]) live (fun _ p _ => fieldAt 0 1 p ≤ 1 ∧ 31 < fieldAt 1 1 p) ∧
    Meets opSystemJoin (pk 0x0206 [0, 31, 0, 0]) busy (fun _ p s => fieldAt 0 1 p ≤ 1 ∧ fieldAt 1 1 p ≤ 31 ∧ s.plan.active.isSome = true) ∧
    Meets opSystemJoin (pk 0x0206 [0, 31, 0, 0]) pair (fun _ p s => fieldAt 0 1 p ≤ 1 ∧ fieldAt 1 1 p ≤ 31 ∧ s.boot.system ≠ 0) ∧
    Meets opCallerHandover (pk 0x0908 []) live (fun _ _ s => s.boot.system ≠ 2) ∧
    (let s := { live with mesh := { live.mesh with founding := true } }
     s.mesh.founding = true ∧ s.tamzarServes = true) ∧
    (let s := { live with boot := { live.boot with system := 1 } }
     s.boot.system = 1 ∧ s.mesh.founding = false ∧ s.plan.pendingPlan = none ∧ s.tamzarServes = true) := by
  unfold Meets Accepted; dsimp only; and_intros <;> decide +kernel

theorem test_w_RingCfgWaitsForItsRing :
    (∀ r : RingId, r = .nrm ∨ r = .blk →
      Meets opRingCfg (pk 0x0005 ([BitVec.ofNat 8 (ringNum r), 0, 13, 20] ++ le8 0x100000 ++ le8 0x200000 ++ le8 0x300040 ++ [63, 0, 0, 0])) live
        (fun k p s => k.path = .urg ∧ fieldAt 0 1 p = ringNum r ∧ Claims.ringFault p = none ∧ (s.ring r).pendingCfg = none)) ∧
    (∀ r : RingId, r = .nrm ∨ r = .blk →
      let old : RingPending := { k := pk 0x0005 (zeros 32), cmdLog2 := 13, rplLog2 := 13, cmdBase := 0, rplBase := 0, wb := 0, vector := 0, window := false }
      Meets opRingCfg (pk 0x0005 ([BitVec.ofNat 8 (ringNum r), 0, 20, 13] ++ le8 0x100000 ++ le8 0x200000 ++ le8 0x300040 ++ [63, 0, 0, 0]))
        (live.setRing r { live.ring r with pendingCfg := some old })
        (fun k p s => k.path = .urg ∧ fieldAt 0 1 p = ringNum r ∧ Claims.ringFault p = none ∧ (s.ring r).pendingCfg = some old)) ∧
    Meets opRingCfg (pk 0x0005 ([1, 0, 12, 13] ++ zeros 28)) live (fun _ p _ => Claims.ringFault p = some 34) ∧
    (let p : RingPending := { k := pk 0x0005 (zeros 32), cmdLog2 := 13, rplLog2 := 13, cmdBase := 0, rplBase := 0, wb := 0, vector := 0, window := false }
     let s := live.setRing .nrm { live.kcp.nrm with pendingCfg := some p }
     let t := live.setRing .nrm { live.kcp.nrm with pendingCfg := some p, owed := 1 }
     ((s.ring .nrm).pendingCfg = some p ∧ s.tamzarServes = true ∧ (s.ring .nrm).cons = (s.ring .nrm).prod ∧ s.owedOn .nrm = 0) ∧
     (t.ring .nrm).pendingCfg = some p ∧ t.owedOn .nrm ≠ 0) := by
  unfold Meets Accepted; dsimp only
  refine ⟨fun r hr => ?_, fun r hr => ?_, by decide +kernel⟩ <;> (rcases hr with rfl | rfl <;> and_intros <;> decide +kernel)


theorem test_w_IntegrationCommandsAct :
    (let p0 := plan0
     Meets opIntegCfg (pk 0x0301 (le4 4 ++ [1, 0, 0, 0])) busy (fun _ p s => s.plan.active = some p0 ∧ integRefusal p0 (integParams p) s = none) ∧
     (let a : Answer := ansField 32
      Meets opIntegCfg (pk 0x0301 (le4 0 ++ [1, 0, 0, 0])) busy (fun _ p s => s.plan.active = some p0 ∧ integRefusal p0 (integParams p) s = some a)) ∧
     Meets opIntegStart (pk 0x0302 []) busy (fun _ _ s => s.plan.active = some p0 ∧ s.integrating = false ∧ s.rmw.stopAt = none ∧ s.rmw.flushLeft = [])) ∧
    Meets opIntegStop (pk 0x0303 []) live (fun _ _ s => s.plan.active = none) ∧
    Meets opIntegStart (pk 0x0302 []) { busy with rmw := { busy.rmw with running := true } } (fun _ _ s => s.plan.active.isSome = true ∧ s.integrating = true) ∧
    Meets opIntegStart (pk 0x0302 []) { busy with rmw := { busy.rmw with running := true, stopAt := some 9 } } (fun _ _ s => s.plan.active.isSome = true ∧ s.integrating = false ∧ (s.rmw.stopAt.isSome = true ∨ s.rmw.flushLeft ≠ [])) ∧
    Meets opIntegStop (pk 0x0303 []) { busy with rmw := { busy.rmw with running := true } } (fun _ _ s => s.plan.active.isSome = true ∧ s.integrating = true) ∧
    Meets opIntegStop (pk 0x0303 []) busy (fun _ _ s => s.plan.active.isSome = true ∧ s.integrating = false) ∧
    busy.integrating = false ∧
    (let s := { busy with rmw := { busy.rmw with running := true, eras := [{ start := some 5, cfg := {} }] } }
     s.integrating = true ∧ (s.integBoundary 7).isSome = true) := by
  unfold Meets Accepted; dsimp only; and_intros <;> decide +kernel

/-- Both banks and epochs are engaged by a swap of beam 255. -/
def engaged : State := { busy with beams := { busy.beams with swaps := [{ beam := 255, s0 := 0, k := 0, bank := true, epoch := true }] } }

theorem test_w_BeamWritesTakeRanges :
    (let p0 := plan0
     Meets opBeamGainWrite (pk 0x0402 ([1, 0] ++ le2 1 ++ le2 31 ++ le2 1 ++ [1, 0, 255, 127])) busy (fun _ p s => s.plan.active = some p0 ∧ fieldAt 0 1 p ≤ 1 ∧ fieldAt 2 2 p < p0.layout.length ∧ fieldAt 4 2 p < p0.inputs ∧
      fieldAt 4 2 p + fieldAt 6 2 p ≤ p0.inputs ∧ s.gainBusy (fieldAt 0 1 p = 1) = false) ∧
     Meets opBeamGainWrite (pk 0x0402 ([1, 0] ++ le2 1 ++ le2 31 ++ le2 1 ++ [1, 0, 255, 127])) engaged (fun _ p s => s.plan.active = some p0 ∧ fieldAt 0 1 p ≤ 1 ∧ fieldAt 2 2 p < p0.layout.length ∧ fieldAt 4 2 p < p0.inputs ∧
      fieldAt 4 2 p + fieldAt 6 2 p ≤ p0.inputs ∧ s.gainBusy (fieldAt 0 1 p = 1) = true) ∧
     Meets opBeamDelayWrite (pk 0x0403 (le2 255 ++ [1, 1] ++ le8 65536 ++ le2 31 ++ le2 1 ++ zeros 4 ++ zeros 12)) busy (fun _ p s => s.plan.active = some p0 ∧ fieldAt 0 2 p < 256 ∧ fieldAt 2 1 p ≤ 1 ∧ fieldAt 3 1 p ≤ 1 ∧ fieldAt 12 2 p < p0.inputs ∧
      fieldAt 12 2 p + fieldAt 14 2 p ≤ p0.inputs ∧ s.epochBusy (fieldAt 0 2 p) (fieldAt 2 1 p = 1) = false) ∧
     Meets opBeamDelayWrite (pk 0x0403 (le2 255 ++ [1, 1] ++ le8 65536 ++ le2 31 ++ le2 1 ++ zeros 4 ++ zeros 12)) engaged (fun _ p s => s.plan.active = some p0 ∧ fieldAt 0 2 p < 256 ∧ fieldAt 2 1 p ≤ 1 ∧ fieldAt 3 1 p ≤ 1 ∧ fieldAt 12 2 p < p0.inputs ∧
      fieldAt 12 2 p + fieldAt 14 2 p ≤ p0.inputs ∧ s.epochBusy (fieldAt 0 2 p) (fieldAt 2 1 p = 1) = true) ∧
     Meets opBeamDirectWrite (pk 0x0404 (le2 255 ++ [1, 0] ++ le2 31 ++ le2 1 ++ [127, 129, 0, 0])) busy (fun _ p s => s.plan.active = some p0 ∧ fieldAt 0 2 p < 256 ∧ fieldAt 2 1 p ≤ 1 ∧ fieldAt 4 2 p < p0.inputs ∧
      fieldAt 4 2 p + fieldAt 6 2 p ≤ p0.inputs ∧ (∀ i < 2 * fieldAt 6 2 p, intAt (8 + i) 1 p ≠ -128) ∧
      s.directBusy (fieldAt 0 2 p) (fieldAt 2 1 p = 1) = false) ∧
     Meets opBeamDirectWrite (pk 0x0404 (le2 255 ++ [1, 0] ++ le2 31 ++ le2 1 ++ [127, 129, 0, 0]))
       { engaged with beams := { engaged.beams with next := { desc := [(255, { mode := .direct })] } } } (fun _ p s => s.plan.active = some p0 ∧ fieldAt 0 2 p < 256 ∧ fieldAt 2 1 p ≤ 1 ∧ fieldAt 4 2 p < p0.inputs ∧
      fieldAt 4 2 p + fieldAt 6 2 p ≤ p0.inputs ∧ (∀ i < 2 * fieldAt 6 2 p, intAt (8 + i) 1 p ≠ -128) ∧
      s.directBusy (fieldAt 0 2 p) (fieldAt 2 1 p = 1) = true)) ∧
    (let ps := le2 255 ++ le2 1 ++ item 1 [1] ++ item 6 [3]
     let p0 := { plan0 with req := { plan0.req with beamBudget := 1 } }
     let items := items 36 ps
     let d := leftOf {} (beamItems (descItems items) {})
     let fs := leftOf [] (beamFreqs p0 items)
     let busy := { busy with plan := { busy.plan with active := some p0 } }
     Meets opBeamCfg (pk 0x0401 ps) busy (fun _ p s => s.plan.active = some p0 ∧ (parseItems p.length 36 (p.drop 4)).1 = some items ∧ repeatedItem items [] = none ∧
      fieldAt 0 2 p < 256 ∧ fieldAt 0 2 p + fieldAt 2 2 p ≤ 256 ∧ beamItems (descItems items) {} = .inl d ∧
      beamFreqs p0 items = .inl fs ∧ widerRefused p0 items s = none ∧
      beamsOver p0 (fieldAt 2 2 p) s.beams.next (beamCfgTables (fieldAt 0 2 p) (fieldAt 2 2 p) items fs s.beams.next) = false)) ∧
    Meets opBeamDirectWrite (pk 0x0404 (le2 255 ++ [1, 0] ++ le2 31 ++ le2 1 ++ [127, 129, 0, 0])) live (fun _ _ s => s.plan.active = none) ∧
    (live.beams.weightEnd ≤ 0 * plan0.req.T ∧ 0 * plan0.req.T < ({ live with beams := { live.beams with weightEnd := 1 } } : State).beams.weightEnd) ∧
    (Canonical live ∧ (zeros 4).length = 4 * 1 ∧ live.heldGain true 0 31 = none) := by
  unfold Meets Accepted Canonical; dsimp only; and_intros <;> decide +kernel

theorem test_w_SwapsAreEntered :
    (let p0 := plan0
     let fading : State := { busy with beams := { busy.beams with swaps := [{ beam := 3, s0 := 0, k := 65536, bank := true, epoch := false }] } }
     Meets opBeamSwap (pk 0x0405 (le2 255 ++ [3, 0] ++ le4 65536)) busy (fun _ p s => s.plan.active = some p0 ∧ fieldAt 0 2 p < 256 ∧ fieldAt 2 1 p ≤ 3 ∧ fieldAt 4 4 p ≤ 65536 ∧
      s.swapsOf (fieldAt 0 2 p) = [] ∧ Claims.target p ≠ s.endSet (fieldAt 0 2 p) ∧
      (0 < fieldAt 4 4 p → s.fadeLoad (s.nextSweep * p0.req.T) (fieldAt 4 4 p) < p0.req.fadeSlots)) ∧
     Meets opBeamSwap (pk 0x0405 (le2 255 ++ [1, 0] ++ le4 0)) fading (fun _ p s => s.plan.active = some p0 ∧ fieldAt 0 2 p < 256 ∧ fieldAt 2 1 p ≤ 3 ∧ fieldAt 4 4 p ≤ 65536 ∧
      s.swapsOf (fieldAt 0 2 p) = [] ∧ Claims.target p ≠ s.endSet (fieldAt 0 2 p) ∧
      (0 < fieldAt 4 4 p → s.fadeLoad (s.nextSweep * p0.req.T) (fieldAt 4 4 p) < p0.req.fadeSlots)) ∧
     Meets opBeamSwap (pk 0x0405 (le2 255 ++ [0, 0] ++ le4 65536)) busy (fun _ p s => s.plan.active = some p0 ∧ fieldAt 0 2 p < 256 ∧ fieldAt 2 1 p ≤ 3 ∧ fieldAt 4 4 p ≤ 65536 ∧
      Claims.target p = s.endSet (fieldAt 0 2 p)) ∧
     Meets opBeamSwap (pk 0x0405 (le2 255 ++ [1, 0] ++ le4 1)) fading (fun _ p s => s.plan.active = some p0 ∧ fieldAt 0 2 p < 256 ∧ fieldAt 2 1 p ≤ 3 ∧ fieldAt 4 4 p ≤ 65536 ∧
      s.swapsOf (fieldAt 0 2 p) = [] ∧ Claims.target p ≠ s.endSet (fieldAt 0 2 p) ∧ 0 < fieldAt 4 4 p ∧
      p0.req.fadeSlots ≤ s.fadeLoad (s.nextSweep * p0.req.T) (fieldAt 4 4 p)) ∧
     (let x : Swap := { beam := 3, s0 := 0, k := 65536, bank := true, epoch := false }
      let xs : List Swap := []
      Meets opBeamSwap (pk 0x0405 (le2 3 ++ [0, 0] ++ le4 65536)) fading (fun _ p s => s.plan.active = some p0 ∧ fieldAt 0 2 p < 256 ∧ fieldAt 2 1 p ≤ 3 ∧ fieldAt 4 4 p ≤ 65536 ∧
      s.swapsOf (fieldAt 0 2 p) = xs ++ [x] ∧ Claims.target p ≠ s.endSet (fieldAt 0 2 p) ∧
      (xs ++ [x]).any (fun y => y.deferred && decide (s.nextSweep ≤ y.s0 / p0.req.T)) = false ∧
      s.nextSweep * p0.req.T < x.stop ∧ s.nextSweep ≤ x.stop / p0.req.T ∧
      (0 < fieldAt 4 4 p → s.fadeLoad x.stop (fieldAt 4 4 p) < p0.req.fadeSlots))) ∧
     Meets opBeamSwap (pk 0x0405 (le2 3 ++ [0, 0] ++ le4 0))
       { busy with beams := { busy.beams with swaps := [{ beam := 3, s0 := 65536, k := 0, bank := true, epoch := false, deferred := true }] } } (fun _ p s => s.plan.active = some p0 ∧ fieldAt 0 2 p < 256 ∧ fieldAt 2 1 p ≤ 3 ∧ fieldAt 4 4 p ≤ 65536 ∧
      Claims.target p ≠ s.endSet (fieldAt 0 2 p) ∧
      (s.swapsOf (fieldAt 0 2 p)).any (fun y => y.deferred && decide (s.nextSweep ≤ y.s0 / p0.req.T)) = true)) ∧
    Meets opBeamSwap (pk 0x0405 (le2 3 ++ [0, 0] ++ le4 0)) live (fun _ _ s => s.plan.active = none) := by
  unfold Meets Accepted; dsimp only; and_intros <;> decide +kernel

theorem test_w_FadesStayWithinFadeSlots :
    (∀ x, Claims.fadesAt busy x ≤ plan0.req.fadeSlots) ∧
    (let s := { busy with beams := { busy.beams with swaps := [{ beam := 3, s0 := 0, k := 65536, bank := true, epoch := false }] } }
     let c : Ctx := { path := .urg, code := 0x0405, k := {}, par := le2 255 ++ [3, 0] ++ le4 65536 }
     (∀ x, Claims.fadesAt s x ≤ plan0.req.fadeSlots) ∧ fieldAt 0 2 c.par < 256 ∧ fieldAt 2 1 c.par ≤ 3 ∧ fieldAt 4 4 c.par ≤ 65536 ∧
       0 < fieldAt 4 4 c.par ∧ s.swapsOf (fieldAt 0 2 c.par) = [] ∧ Claims.target c.par ≠ s.endSet (fieldAt 0 2 c.par) ∧
       ∃ x, 65535 ≤ x ∧ x < 65535 + fieldAt 4 4 c.par ∧ plan0.req.fadeSlots < Claims.fadesAt s x + 1) := by
  refine ⟨fun _ => Nat.zero_le 1, fun x => ?_, ?_, ?_, ?_, ?_, ?_, ?_, 65535, ?_, ?_, ?_⟩
  · show (List.filter _ [_]).length ≤ 1
    exact Nat.le_trans (List.length_filter_le ..) (Nat.le_refl 1)
  all_goals decide +kernel

theorem test_w_RiddleCommandsAct :
    (let ps := [63, 0, 0, 0] ++ item 1 [1] ++ item 2 (le2 3) ++ item 3 (le2 1)
     let p0 := plan0
     let items := items 36 ps
     let g := leftOf {} (sieveItems 63 items {})
     Meets opRiddleCfg (pk 0x0411 ps) { busy with beams := { busy.beams with next := { desc := [(3, { mode := .poly, chans := [3] })] } } } (fun _ p s => s.plan.active = some p0 ∧ (parseItems p.length 36 (p.drop 4)).1 = some items ∧ repeatedItem items [] = none ∧
      fieldAt 0 1 p < 64 ∧ sieveItems (fieldAt 0 1 p) items (s.sieve (fieldAt 0 1 p)).last = .inl g ∧
      sieveRefusal p0 (fieldAt 0 1 p) g items s = none)) ∧
    Meets opRiddleCoefWrite (pk 0x0412 ([63, 1] ++ le2 256 ++ le4 131071 ++ [40, 0] ++ le2 255 ++ le2 1 ++ zeros 2 ++ le4 5)) busy (fun _ p s => s.plan.active.isSome = true ∧ fieldAt 0 1 p < 64 ∧ fieldAt 1 1 p ≤ 1 ∧ 1 ≤ fieldAt 2 2 p ∧ fieldAt 2 2 p ≤ 256 ∧
      -131072 ≤ intAt 4 4 p ∧ intAt 4 4 p ≤ 131071 ∧ fieldAt 8 1 p ≤ 40 ∧ fieldAt 10 2 p < 256 ∧
      fieldAt 10 2 p + fieldAt 12 2 p ≤ 256 ∧ (s.sieve (fieldAt 0 1 p)).last.enable = false ∧
      (s.sieve (fieldAt 0 1 p)).swaps.any (·.bank = decide (fieldAt 1 1 p = 1)) = false) ∧
    Meets opRiddleCoefWrite (pk 0x0412 ([0, 0] ++ le2 1 ++ le4 (2 ^ 32 - 131072) ++ [0, 0] ++ le2 0 ++ le2 2 ++ zeros 2 ++ zeros 8)) busy (fun _ p s => s.plan.active.isSome = true ∧ fieldAt 0 1 p < 64 ∧ fieldAt 1 1 p ≤ 1 ∧ 1 ≤ fieldAt 2 2 p ∧ fieldAt 2 2 p ≤ 256 ∧
      -131072 ≤ intAt 4 4 p ∧ intAt 4 4 p ≤ 131071 ∧ fieldAt 8 1 p ≤ 40 ∧ fieldAt 10 2 p < 256 ∧
      fieldAt 10 2 p + fieldAt 12 2 p ≤ 256 ∧ (s.sieve (fieldAt 0 1 p)).last.enable = false ∧
      (s.sieve (fieldAt 0 1 p)).swaps.any (·.bank = decide (fieldAt 1 1 p = 1)) = false) ∧
    Meets opRiddleCoefWrite (pk 0x0412 ([63, 1] ++ le2 256 ++ le4 131071 ++ [40, 0] ++ le2 255 ++ le2 1 ++ zeros 2 ++ le4 5))
      (busy.onSieve 63 fun x => { x with swaps := [{ at_ := 5, bank := true }] }) (fun _ p s => s.plan.active.isSome = true ∧ fieldAt 0 1 p < 64 ∧ fieldAt 1 1 p ≤ 1 ∧ 1 ≤ fieldAt 2 2 p ∧ fieldAt 2 2 p ≤ 256 ∧
      -131072 ≤ intAt 4 4 p ∧ intAt 4 4 p ≤ 131071 ∧ fieldAt 8 1 p ≤ 40 ∧ fieldAt 10 2 p < 256 ∧
      fieldAt 10 2 p + fieldAt 12 2 p ≤ 256 ∧ (s.sieve (fieldAt 0 1 p)).last.enable = false ∧
      (s.sieve (fieldAt 0 1 p)).swaps.any (·.bank = decide (fieldAt 1 1 p = 1)) = true) ∧
    (let p0 := plan0
     let s := { busy with beams := { busy.beams with next := { desc := [(3, { mode := .poly, chans := [3] })] } }, riddle := { busy.riddle with sieves := (List.range 64).map fun i => if i = 63 then { known := true, cfg := { enable := true, source := 3, decim := 2 } } else {} } }
     let n := (firstOutput 0 1 (s.grids 63) false).1
     let d := (firstOutput 0 1 (s.grids 63) false).2
     Meets opRiddleSwap (pk 0x0413 [63, 1, 0, 0]) s (fun _ p s => s.plan.active = some p0 ∧ fieldAt 0 1 p < 64 ∧ fieldAt 1 1 p ≤ 1 ∧
      firstOutput (s.nextSweep * p0.req.T) ((s.sieve (fieldAt 0 1 p)).coef (fieldAt 1 1 p = 1)).len (s.grids (fieldAt 0 1 p)) false = (n, d))) ∧
    (let g : SieveGrid := { start := 5, total := 2, m := 2, stop := none }
     g.stop = none ∧ 0 < g.total ∧ 0 < g.m) ∧
    (let p0 := plan0
     Meets opRiddleSync (pk 0x0414 (le8 (2 ^ 63))) busy (fun _ _ s => s.plan.active = some p0)) ∧
    Meets opRiddleSync (pk 0x0414 (le8 (2 ^ 63))) live (fun _ _ s => s.plan.active = none) ∧
    live.riddle.sieves.length = 64 := by
  unfold Meets Accepted; dsimp only; and_intros <;> decide +kernel

/-- The plan with room for a cold frame. -/
def planCf : Plan :=
  { plan0 with req := { plan0.req with captureBytes := some (2 ^ 30), captureRate := 10 }
               regions := [{ kind := 5, base := 2 ^ 33, size := 2 ^ 30 }], cfBudget := 10 }

/-- The device under that plan, with sub-region 0 of region 7 in a state. -/
def busyCf (rs : RegionState) (x : CapSub) : State :=
  { live with plan := { live.plan with active := some planCf }, cf := { live.cf with regions := (List.range 8).map fun i =>
      if i = 7 then { configured := true, state := rs, subs := [x] } else {} } }

theorem test_w_CaptureIsConfigured :
    (let p0 := planCf
     (let ps := [7, 0, 0, 0] ++ item 1 [1] ++ item 2 (le2 1024) ++ item 3 [1]
      let items := items 36 ps
      let g := leftOf {} (regionItems p0.req.wide items {})
      Meets opCaptureCfg (pk opCaptureCfg.code ps) (busyCf .off {}) (fun _ p s => s.boot.trainFail = false ∧ s.plan.active = some p0 ∧ (parseItems p.length 36 (p.drop 4)).1 = some items ∧
      repeatedItem items [] = none ∧ fieldAt 0 1 p < 8 ∧
      regionItems p0.req.wide items (s.region (fieldAt 0 1 p)).cfg = .inl g ∧ (s.region (fieldAt 0 1 p)).state = .off ∧
      captureRefusal p0 (fieldAt 0 1 p) g items s = none)) ∧
     (let ps := [7, 0, 0, 0] ++ item 1 [1] ++ item 2 (le2 3) ++ item 3 [1]
      let items := items 36 ps
      let g := leftOf {} (regionItems p0.req.wide items {})
      Meets opCaptureCfg (pk opCaptureCfg.code ps) (busyCf .off {}) (fun _ p s => s.boot.trainFail = false ∧ s.plan.active = some p0 ∧ (parseItems p.length 36 (p.drop 4)).1 = some items ∧
      repeatedItem items [] = none ∧ fieldAt 0 1 p < 8 ∧
      regionItems p0.req.wide items (s.region (fieldAt 0 1 p)).cfg = .inl g ∧ (s.region (fieldAt 0 1 p)).state = .off ∧
      captureRefusal p0 (fieldAt 0 1 p) g items s = none) ∧
      Meets opCaptureCfg (pk opCaptureCfg.code ps) (busyCf .armed { state := .live }) (fun _ p s => s.boot.trainFail = false ∧ s.plan.active = some p0 ∧ (parseItems p.length 36 (p.drop 4)).1 = some items ∧
      repeatedItem items [] = none ∧ fieldAt 0 1 p < 8 ∧
      regionItems p0.req.wide items (s.region (fieldAt 0 1 p)).cfg = .inl g ∧ (s.region (fieldAt 0 1 p)).state ≠ .off) ∧
      (let p0 := { planCf with regions := [{ kind := 5, base := 2 ^ 33, size := 0 }] }
       let s := { busyCf .off {} with plan := { live.plan with active := some p0 } }
       let o := (captureRefusal p0 7 g items s).getD 0
       Meets opCaptureCfg (pk opCaptureCfg.code ps) s (fun _ p s => s.boot.trainFail = false ∧ s.plan.active = some p0 ∧ (parseItems p.length 36 (p.drop 4)).1 = some items ∧
      repeatedItem items [] = none ∧ fieldAt 0 1 p < 8 ∧
      regionItems p0.req.wide items (s.region (fieldAt 0 1 p)).cfg = .inl g ∧ (s.region (fieldAt 0 1 p)).state = .off ∧
      captureRefusal p0 (fieldAt 0 1 p) g items s = some o))) ∧
     Meets opCaptureResize (pk opCaptureResize.code ([7, 0] ++ le2 1024)) (busyCf .armed { state := .live }) (fun _ p s => s.boot.trainFail = false ∧ fieldAt 0 1 p < 8 ∧ s.plan.active = some p0 ∧ Claims.holdsNothing (s.region (fieldAt 0 1 p)) ∧
      3 ≤ fieldAt 2 2 p ∧ fieldAt 2 2 p ≤ 1024 ∧
      depthOk p0.req.T { (s.region (fieldAt 0 1 p)).cfg with depth := fieldAt 2 2 p } = true ∧
      spaceFits p0 (s.regionsWith (fieldAt 0 1 p) { (s.region (fieldAt 0 1 p)).cfg with depth := fieldAt 2 2 p }) = true) ∧
     Meets opCaptureResize (pk opCaptureResize.code ([7, 0] ++ le2 3)) (busyCf .off {}) (fun _ p s => s.boot.trainFail = false ∧ fieldAt 0 1 p < 8 ∧ s.plan.active = some p0 ∧ Claims.holdsNothing (s.region (fieldAt 0 1 p)) ∧
      3 ≤ fieldAt 2 2 p ∧ fieldAt 2 2 p ≤ 1024 ∧
      depthOk p0.req.T { (s.region (fieldAt 0 1 p)).cfg with depth := fieldAt 2 2 p } = true ∧
      spaceFits p0 (s.regionsWith (fieldAt 0 1 p) { (s.region (fieldAt 0 1 p)).cfg with depth := fieldAt 2 2 p }) = true) ∧
     (let x : CapSub := { state := .frozen }
      let xs : List CapSub := []
      Meets opCaptureResize (pk opCaptureResize.code ([7, 0] ++ le2 3)) (busyCf .armed x) (fun _ p s => s.boot.trainFail = false ∧ fieldAt 0 1 p < 8 ∧ s.plan.active = some p0 ∧
      (s.region (fieldAt 0 1 p)).subs.filter (·.held) = x :: xs))) ∧
    Meets opCaptureCfg (pk opCaptureCfg.code [7, 0, 0, 0]) failedTraining (fun k _ s => s.boot.trainFail = true ∧ k.path ≠ .gkr ∧ k.path ≠ .smbus) ∧
    Meets opCaptureResize (pk opCaptureResize.code ([7, 0] ++ le2 3)) failedTraining (fun k _ s => s.boot.trainFail = true ∧ k.path ≠ .gkr ∧ k.path ≠ .smbus) := by
  unfold Meets Accepted Claims.holdsNothing; dsimp only; and_intros <;> decide +kernel

theorem test_w_CaptureRegionsAct :
    Meets opCaptureArm (pk opCaptureArm.code [7, 0, 0, 0]) (busyCf .off {}) (fun _ p s => s.boot.trainFail = false ∧ fieldAt 0 1 p < 8) ∧
    Meets opCaptureDisarm (pk opCaptureDisarm.code [7, 0, 0, 0]) (busyCf .armed { state := .live }) (fun _ p s => s.boot.trainFail = false ∧ fieldAt 0 1 p < 8) ∧
    Meets opCaptureRelease (pk opCaptureRelease.code [7, 0, 0, 0]) (busyCf .armed { state := .frozen }) (fun _ p s => s.boot.trainFail = false ∧ fieldAt 0 1 p < 8 ∧ fieldAt 1 1 p < (s.region (fieldAt 0 1 p)).subs.length ∧
      ((s.region (fieldAt 0 1 p)).subs.getD (fieldAt 1 1 p) {}).state = .frozen) ∧
    Meets opCaptureDrain (pk opCaptureDrain.code [7, 0, 1, 0]) (busyCf .armed { state := .frozen }) (fun _ p s => s.boot.trainFail = false ∧ fieldAt 0 1 p < 8 ∧ fieldAt 1 1 p < (s.region (fieldAt 0 1 p)).subs.length ∧
      fieldAt 2 1 p = 1 ∧ ((s.region (fieldAt 0 1 p)).subs.getD (fieldAt 1 1 p) {}).state = .frozen) ∧
    Meets opCaptureDrain (pk opCaptureDrain.code (zeros 8 ++ le4 4 ++ le4 65536 ++ le8 (2 ^ 40)) .blk (dma := [7, 0, 0, 0])) (busyCf .armed { state := .frozen })
      (fun k p s => s.boot.trainFail = false ∧ fieldAt 0 1 p < 8 ∧ fieldAt 1 1 p < (s.region (fieldAt 0 1 p)).subs.length ∧
      fieldAt 2 1 p = 0 ∧ opCaptureDrain.buffered k.path = true ∧
      ((s.region (fieldAt 0 1 p)).subs.getD (fieldAt 1 1 p) {}).state = .frozen) ∧
    Meets opCaptureRelease (pk opCaptureRelease.code [7, 0, 0, 0]) (busyCf .armed { state := .live }) (fun _ p s => s.boot.trainFail = false ∧ fieldAt 0 1 p < 8 ∧ fieldAt 1 1 p < (s.region (fieldAt 0 1 p)).subs.length ∧
      ((s.region (fieldAt 0 1 p)).subs.getD (fieldAt 1 1 p) {}).state ≠ .frozen) ∧
    Meets opCaptureDrain (pk opCaptureDrain.code [7, 0, 1, 0]) (busyCf .armed { state := .posting }) (fun k p s => s.boot.trainFail = false ∧ fieldAt 0 1 p < 8 ∧ fieldAt 1 1 p < (s.region (fieldAt 0 1 p)).subs.length ∧
      (fieldAt 2 1 p = 1 ∨ fieldAt 2 1 p = 0 ∧ opCaptureDrain.buffered k.path = true) ∧
      ((s.region (fieldAt 0 1 p)).subs.getD (fieldAt 1 1 p) {}).state ≠ .frozen) ∧
    Meets opCaptureTrigger (pk opCaptureTrigger.code ([128, 1, 0, 0] ++ le8 65536 ++ le4 7 ++ zeros 4)) (busyCf .armed { state := .live }) (fun _ p s => s.boot.trainFail = false ∧ fieldAt 1 1 p = 1) ∧
    Meets opCaptureTrigger (pk opCaptureTrigger.code ([128, 0, 0, 0] ++ zeros 16))
      { busyCf .armed { state := .live } with time := { live.time with epochSet := true, pNum := 2, pDen := 1 } } (fun _ p s => s.boot.trainFail = false ∧ fieldAt 1 1 p = 0 ∧ s.time.epochSet = true) ∧
    Meets opCaptureTrigger (pk opCaptureTrigger.code ([128, 0, 0, 0] ++ zeros 16)) (busyCf .armed { state := .live }) (fun _ p s => s.boot.trainFail = false ∧ fieldAt 1 1 p = 0 ∧ s.time.epochSet = false) ∧
    Meets opCaptureTrigger (pk opCaptureTrigger.code ([128, 0, 0, 0] ++ zeros 16)) failedTraining (fun k _ s => s.boot.trainFail = true ∧ k.path ≠ .gkr ∧ k.path ≠ .smbus) ∧
    (let r : Region := { subs := [{ state := .frozen }, {}] }
     r.state ≠ .suspended ∧ r.live = none ∧ r.lowest .free = some 1) ∧
    (let r : Region := { subs := [{ state := .frozen }] }
     r.state ≠ .suspended ∧ r.live = none ∧ r.lowest .free = none) ∧
    (let r : Region := { state := .armed, subs := [{ state := .live }] }
     r.live = some 0 ∧ r.lowest .posting = none ∧ 0 < r.subs.length) ∧
    (let s := busyCf .armed { state := .draining, drain := some { host := false, seq := 1, left := [] } }
     let d : DrainRun := { host := false, seq := 1, left := [] }
     s.dieRuns = true ∧ ((s.region 7).subs.getD 0 {}).drain = some d ∧ d.host = false ∧ d.left = []) ∧
    (((busyCf .armed {}).region 7).subs.getD 15 {}).drain = none := by
  unfold Meets Accepted; dsimp only; and_intros <;> decide +kernel

theorem test_w_TimeCommandsAct :
    (let ps := item 5 (le4 64000) ++ item 3 [127]
     let items := items 32 ps
     let t := leftOf {} (timeItems live items live.time)
     Meets opTimeSource (pk opTimeSource.code ps) live (fun _ p s => (parseItems p.length 32 p).1 = some items ∧ repeatedItem items [] = none ∧ timeItems s items s.time = .inl t ∧
      (∀ x ∈ items, x.1 ≠ 1))) ∧
    (let ps := item 1 [3]
     let items := items 32 ps
     let t := leftOf {} (timeItems live items live.time)
     Meets opTimeSource (pk opTimeSource.code ps) live (fun _ p s => (parseItems p.length 32 p).1 = some items ∧ repeatedItem items [] = none ∧ timeItems s items s.time = .inl t ∧
      (∃ x ∈ items, x.1 = 1) ∧ 3 ∈ t.sources)) ∧
    (let ps := item 3 [128]
     let items := items 32 ps
     let o := 32
     Meets opTimeSource (pk opTimeSource.code ps) live (fun _ p s => (parseItems p.length 32 p).1 = some items ∧ repeatedItem items [] = none ∧ timeItems s items s.time = .inr o)) ∧
    Meets opTimeMeasure (pk opTimeMeasure.code (zeros 24)) live (fun _ _ s => 3 ∈ s.time.sources ∧ s.aboveHost = false ∧
      (s.time.hostTimes.filter fun t => !(s.passed t (10 ^ 9))).length < 100) ∧
    Meets opTimeMeasure (pk opTimeMeasure.code (zeros 24)) { live with time := { live.time with hostTimes := List.replicate 100 live.now } } (fun _ _ s => 3 ∈ s.time.sources ∧ s.aboveHost = false ∧
      100 ≤ (s.time.hostTimes.filter fun t => !(s.passed t (10 ^ 9))).length) ∧
    Meets opTimeMeasure (pk opTimeMeasure.code (zeros 24)) { live with time := { live.time with sources := [1] } } (fun _ _ s => 3 ∉ s.time.sources ∨ s.aboveHost = true) ∧
    Meets opTimeStep (pk opTimeStep.code ([0, 0] ++ le8 5 ++ [1, 0] ++ compl (le8 5 ++ [1, 0]) ++ zeros 2)) live (fun k p s => fieldAt 0 1 p = 0 ∧ slice 12 10 p = compl (slice 2 10 p) ∧ (kRestep k = true ∨ s.time.state = .unset)) ∧
    Meets opTimeStep (pk opTimeStep.code ([0, 0] ++ le8 5 ++ [1, 0] ++ compl (le8 5 ++ [1, 0]) ++ zeros 2) .urg 0x10)
      { live with time := { live.time with state := .lock, synced := true } } (fun k p s => fieldAt 0 1 p = 0 ∧ slice 12 10 p = compl (slice 2 10 p) ∧ (kRestep k = true ∨ s.time.state = .unset)) ∧
    Meets opTimeStep (pk opTimeStep.code ([1, 0] ++ zeros 10 ++ compl (zeros 10) ++ zeros 2) .urg 0x10) live (fun k p _ => fieldAt 0 1 p = 1 ∧ slice 12 10 p = compl (slice 2 10 p) ∧ kRestep k = true) ∧
    Meets opTimeStep (pk opTimeStep.code ([1, 0] ++ zeros 10 ++ compl (zeros 10) ++ zeros 2)) live (fun k p s => fieldAt 0 1 p = 1 ∧ slice 12 10 p = compl (slice 2 10 p) ∧ kRestep k = false ∧ s.time.state = .unset) ∧
    Meets opTimeStep (pk opTimeStep.code ([1, 0] ++ zeros 10 ++ compl (zeros 10) ++ zeros 2))
      { live with time := { live.time with state := .lock, synced := true } } (fun k p s => fieldAt 0 1 p ≤ 1 ∧ slice 12 10 p = compl (slice 2 10 p) ∧ kRestep k = false ∧ s.time.state ≠ .unset) ∧
    Meets opTimeStep (pk opTimeStep.code ([1, 0] ++ zeros 10 ++ zeros 10 ++ zeros 2)) live (fun _ p _ => fieldAt 0 1 p ≤ 1 ∧ slice 12 10 p ≠ compl (slice 2 10 p)) ∧
    Meets opTimeEpochSet (pk opTimeEpochSet.code (le8 1000 ++ [1, 0] ++ zeros 2 ++ le4 3 ++ le8 3000000000)) live (fun _ p _ => fieldAt 12 4 p ≠ 0 ∧ fieldAt 12 4 p ≤ fieldAt 16 8 p ∧ fieldAt 16 8 p ≤ 10 ^ 9 * fieldAt 12 4 p) ∧
    Meets opTimeEpochSet (pk opTimeEpochSet.code (le8 1000 ++ [1, 0] ++ zeros 2 ++ le4 3 ++ le8 3)) live (fun _ p _ => fieldAt 12 4 p ≠ 0 ∧ fieldAt 12 4 p ≤ fieldAt 16 8 p ∧ fieldAt 16 8 p ≤ 10 ^ 9 * fieldAt 12 4 p) ∧
    Meets opTimeEpochSet (pk opTimeEpochSet.code (le8 1000 ++ [1, 0] ++ zeros 2 ++ le4 3 ++ le8 2)) live (fun _ p _ => fieldAt 12 4 p ≠ 0 ∧ (fieldAt 16 8 p < fieldAt 12 4 p ∨ 10 ^ 9 * fieldAt 12 4 p < fieldAt 16 8 p)) ∧
    live.boot.system ≠ 2 := by
  unfold Meets Accepted; dsimp only; and_intros <;> decide +kernel

/-- A held system cue, TENTATIVE, numbered 9. -/
def heldCue (system : Bool) : CueEntry :=
  CueEntry.sealed { id := 1, point := 0x200000000000, seq := 9, opcode := 0x0302, cls := .sweep, complement := 0, system := system, tentative := system }

theorem test_w_CuesAreCancelledAndConfirmed :
    (let e := heldCue false
     let s := { live with cues := { live.cues with entries := [heldCue true, e] } }
     Meets opCueCancel (pk opCueCancel.code (le4 9 ++ zeros 4)) s (fun _ p s => fieldAt 4 1 p = 0 ∧ s.cueEntry false (BitVec.ofNat 32 (fieldAt 0 4 p)) = some e)) ∧
    (let e := heldCue true
     let s := { live with cues := { live.cues with entries := [heldCue false, e] } }
     Meets opCueCancel (pk opCueCancel.code (le4 9 ++ [1, 0, 0, 0])) s (fun k p s => fieldAt 4 1 p = 1 ∧ s.cueEntry true (BitVec.ofNat 32 (fieldAt 0 4 p)) = some e ∧ (k.path = .mesh ∨ s.mesh.caller = true)) ∧
     Meets opConfirm (pk opConfirm.code (le4 9) .mesh) s (fun _ p s => s.cueEntry true (BitVec.ofNat 32 (fieldAt 0 4 p)) = some e) ∧
     Meets opCancel (pk opCancel.code (le4 9) .mesh) s (fun _ p s => s.cueEntry true (BitVec.ofNat 32 (fieldAt 0 4 p)) = some e)) ∧
    Meets opCueCancel (pk opCueCancel.code (le4 9 ++ [1, 0, 0, 0])) { live with mesh := { live.mesh with caller := false } } (fun k p s => fieldAt 4 1 p = 1 ∧ k.path ≠ .mesh ∧ s.mesh.caller = false) ∧
    Meets opCueCancel (pk opCueCancel.code (le4 9 ++ zeros 4)) { live with cues := { live.cues with done := [(false, 9)] } } (fun _ p s => fieldAt 4 1 p = 0 ∧ s.cueEntry false (BitVec.ofNat 32 (fieldAt 0 4 p)) = none ∧
      (s.cues.hw.any (fun e => e.seq = BitVec.ofNat 32 (fieldAt 0 4 p) && e.system == false) = true ∨
        (false, BitVec.ofNat 32 (fieldAt 0 4 p)) ∈ s.cues.done)) ∧
    Meets opCueCancel (pk opCueCancel.code (le4 9 ++ zeros 4)) { live with cues := { live.cues with done := [(true, 9)] } } (fun _ p s => fieldAt 4 1 p = 0 ∧ s.cueEntry false (BitVec.ofNat 32 (fieldAt 0 4 p)) = none ∧
      s.cues.hw.any (fun e => e.seq = BitVec.ofNat 32 (fieldAt 0 4 p) && e.system == false) = false ∧
        (false, BitVec.ofNat 32 (fieldAt 0 4 p)) ∉ s.cues.done) ∧
    Meets opConfirm (pk opConfirm.code (le4 9) .mesh) live (fun _ p s => s.cueEntry true (BitVec.ofNat 32 (fieldAt 0 4 p)) = none) ∧
    Meets opCancel (pk opCancel.code (le4 9) .mesh) live (fun _ p s => s.cueEntry true (BitVec.ofNat 32 (fieldAt 0 4 p)) = none) := by
  unfold Meets Accepted; dsimp only; and_intros <;> decide +kernel

theorem test_w_LaneCommandsAct :
    (let ps := [127, 0, 0, 0] ++ item 11 (le2 4000)
     let items := items 36 ps
     let y := leftOf {} (laneItems items (busy.lane 127))
     Meets opLaneCfg (pk opLaneCfg.code ps) busy (fun _ p s => s.boot.trainFail = false ∧ (parseItems p.length 36 (p.drop 4)).1 = some items ∧ repeatedItem items [] = none ∧
      fieldAt 0 1 p < 128 ∧ laneItems items (s.lane (fieldAt 0 1 p)) = .inl y ∧ (∀ x ∈ items, 6 < x.1) ∧
      (s.untaggedPlan (fieldAt 0 1 p) = false ∨ vlanItem items = none) ∧ s.time.ptpLanes = []) ∧
     Meets opLaneCfg (pk opLaneCfg.code ps) { busy with time := { busy.time with ptpLanes := [127] } } (fun _ p s => s.boot.trainFail = false ∧ (parseItems p.length 36 (p.drop 4)).1 = some items ∧ repeatedItem items [] = none ∧
      fieldAt 0 1 p < 128 ∧ laneItems items (s.lane (fieldAt 0 1 p)) = .inl y ∧ (∀ x ∈ items, 6 < x.1) ∧
      (s.untaggedPlan (fieldAt 0 1 p) = false ∨ vlanItem items = none) ∧ s.time.ptpLanes ≠ [])) ∧
    (let ps := [8, 0, 0, 0] ++ item 1 [0]
     let items := items 36 ps
     let y := leftOf {} (laneItems items (busy.lane 8))
     Meets opLaneCfg (pk opLaneCfg.code ps) busy (fun _ p s => s.boot.trainFail = false ∧ (parseItems p.length 36 (p.drop 4)).1 = some items ∧ repeatedItem items [] = none ∧
      fieldAt 0 1 p < 128 ∧ laneItems items (s.lane (fieldAt 0 1 p)) = .inl y ∧ (∃ x ∈ items, x.1 ≤ 6) ∧
      (s.untaggedPlan (fieldAt 0 1 p) = false ∨ vlanItem items = none) ∧ s.laneTraffic (fieldAt 0 1 p) = true)) ∧
    Meets opLaneDoze (pk opLaneDoze.code ([0, 128] ++ zeros 14 ++ [3, 0, 0, 0])) live (fun _ p s => s.boot.trainFail = false ∧ dozeRefusal (maskLanes p) ((fieldAt 16 1 p).testBit 0) ((fieldAt 16 1 p).testBit 1) s = none) ∧
    (let code := 1
     Meets opLaneDoze (pk opLaneDoze.code ([0, 1] ++ zeros 14 ++ [2, 0, 0, 0])) busy (fun _ p s => s.boot.trainFail = false ∧
      dozeRefusal (maskLanes p) ((fieldAt 16 1 p).testBit 0) ((fieldAt 16 1 p).testBit 1) s = some code)) ∧
    Meets opLaneWake (pk opLaneWake.code ([1] ++ zeros 14 ++ [128, 3, 0, 0, 0])) busy (fun _ _ s => s.boot.trainFail = false) ∧
    Meets opLaneWake (pk opLaneWake.code ([1] ++ zeros 14 ++ [128, 3, 0, 0, 0])) failedTraining (fun k _ s => s.boot.trainFail = true ∧ k.path ≠ .gkr ∧ k.path ≠ .smbus) ∧
    Meets opLaneQuiet (pk opLaneQuiet.code ([255] ++ zeros 14 ++ [255])) busy Claims.always ∧
    (let ps := [127, 0, 0, 0] ++ item 6 [3]
     let k := pk opLaneCfg.code ps
     let items := items 36 ps
     let y := leftOf {} (laneItems items (busy.lane 127))
     let p := effPar opLaneCfg k
     let e := entered opLaneCfg k busy
     Accepted opLaneCfg k busy ∧ e.boot.trainFail = false ∧ (parseItems p.length 36 (p.drop 4)).1 = some items ∧ repeatedItem items [] = none ∧
       fieldAt 0 1 p < 128 ∧ laneItems items (e.lane (fieldAt 0 1 p)) = .inl y ∧ (∃ x ∈ items, x.1 ≤ 6) ∧
       (e.untaggedPlan (fieldAt 0 1 p) = false ∨ vlanItem items = none) ∧ e.laneTraffic (fieldAt 0 1 p) = false ∧
       e.lanes.lane.length = 128) := by
  unfold Meets Accepted Claims.always; dsimp only; and_intros <;> decide +kernel

theorem test_w_MemoryCommandsAct :
    Meets opMemRead (pk opMemRead.code (le8 (2 ^ 33) ++ le8 64 ++ le8 4096) .blk) live (fun _ p s => s.boot.trainFail = false ∧ fieldAt 0 8 p + fieldAt 8 8 p ≤ dramEnd ∧ pcieReadable (fieldAt 0 8 p) (fieldAt 8 8 p) = true) ∧
    Meets opMemRead (pk opMemRead.code (le8 (127 * 2 ^ 30) ++ le8 64 ++ le8 4096) .blk) live (fun _ p s => s.boot.trainFail = false ∧ fieldAt 0 8 p + fieldAt 8 8 p ≤ dramEnd ∧ pcieReadable (fieldAt 0 8 p) (fieldAt 8 8 p) = false) ∧
    Meets opMemRead (pk opMemRead.code (le8 (dramEnd - 63) ++ le8 64 ++ le8 4096) .blk) live (fun _ p s => s.boot.trainFail = false ∧ dramEnd < fieldAt 0 8 p + fieldAt 8 8 p) ∧
    Meets opMemWrite (pk opMemWrite.code (le8 (2 ^ 33) ++ le8 64 ++ le8 4096) .blk) live (fun _ p s => s.boot.trainFail = false ∧ s.pcieWritable (fieldAt 0 8 p) (fieldAt 8 8 p) = true) ∧
    Meets opMemWrite (pk opMemWrite.code (le8 0 ++ le8 64 ++ le8 4096) .blk) live (fun _ p s => s.boot.trainFail = false ∧ s.pcieWritable (fieldAt 0 8 p) (fieldAt 8 8 p) = false) ∧
    Meets opMemRepair (pk opMemRepair.code ([0, 0, 0, 0] ++ le8 0)) live (fun _ p s => s.boot.trainFail = false ∧ fieldAt 0 1 p < 16 ∧ fieldAt 4 8 p < spareBase ∧ chanOf (fieldAt 4 8 p) = fieldAt 0 1 p) ∧
    Meets opMemRepair (pk opMemRepair.code ([16, 0, 0, 0] ++ le8 0)) live (fun _ p s => s.boot.trainFail = false ∧ 16 ≤ fieldAt 0 1 p) ∧
    Meets opMemRepair (pk opMemRepair.code ([1, 0, 0, 0] ++ le8 0)) live (fun _ p s => s.boot.trainFail = false ∧ fieldAt 0 1 p < 16 ∧ (spareBase ≤ fieldAt 4 8 p ∨ chanOf (fieldAt 4 8 p) ≠ fieldAt 0 1 p)) ∧
    Meets opMemRepair (pk opMemRepair.code ([1, 0, 0, 0] ++ le8 spareBase)) live (fun _ p s => s.boot.trainFail = false ∧ fieldAt 0 1 p < 16 ∧ (spareBase ≤ fieldAt 4 8 p ∨ chanOf (fieldAt 4 8 p) ≠ fieldAt 0 1 p)) ∧
    Meets opMemTrain (pk opMemTrain.code [1, 0, 0, 0]) live (fun _ _ s => s.boot.trainFail = false ∧ s.plan.active = none) ∧
    Meets opMemTrain (pk opMemTrain.code [1, 0, 0, 0]) busy (fun _ _ s => s.boot.trainFail = false ∧ s.plan.active.isSome = true) ∧
    Meets opMemTrain (pk opMemTrain.code [1, 0, 0, 0]) failedTraining (fun k _ s => s.boot.trainFail = true ∧ k.path ≠ .gkr ∧ k.path ≠ .smbus) ∧
    Meets opMemRead (pk opMemRead.code (le8 (2 ^ 33) ++ le8 64 ++ le8 4096) .blk) failedTraining (fun k _ s => s.boot.trainFail = true ∧ k.path ≠ .gkr ∧ k.path ≠ .smbus) ∧
    (let q : SubReq := { master := 4, addr := 0, bytes := 1, write := true, xfer := 1, data := [5] }
     q.write = true ∧ q.data ≠ []) ∧
    (let q : SubReq := { master := 4, addr := 0, bytes := 64, write := false, xfer := 1, data := [] }
     q.write = false ∧ q.xfer ≠ 0) := by
  unfold Meets Accepted; dsimp only; and_intros <;> decide +kernel

theorem test_w_DramStoresAreReadBack :
    Memory.wf [⟨5, 9⟩] = true ∧ (6 : Nat) ≠ 5 ∧ Canonical { live with mem := { live.mem with dram := [⟨5, 9⟩] } } ∧ (6 < 7 ∨ 7 + 2 ≤ 6) := by
  unfold Canonical; decide +kernel

/-- The device under the small plan, every bed spared by its cell 16. -/
def spared : State :=
  { busy with cells := { busy.cells with spareMap := List.replicate 80 16, spareMapN := List.replicate 80 0xEF } }

theorem test_w_SparesAndStripesByCommand :
    (let p0 := plan0
     let sp := 16
     Meets opGraft (pk opGraft.code (le2 1 ++ zeros 2)) spared (fun _ p s => fieldAt 0 2 p < 1360 ∧ s.spareOf (bedOf (fieldAt 0 2 p)) = some sp ∧ sp ≠ fieldAt 0 2 p ∧
      fieldAt 0 2 p ∉ s.cells.retired ∧ s.plan.active = some p0 ∧ fieldAt 0 2 p ∈ p0.cellMap ∧
      s.graftingIn (bedOf (fieldAt 0 2 p)) = false) ∧
     Meets opGraft (pk opGraft.code (le2 1 ++ zeros 2)) { busy with cells := { busy.cells with spareMap := List.replicate 80 0xFF, spareMapN := List.replicate 80 0 } }
       (fun _ p s => fieldAt 0 2 p < 1360 ∧ s.spareOf (bedOf (fieldAt 0 2 p)) ≠ some (fieldAt 0 2 p) ∧
      fieldAt 0 2 p ∉ s.cells.retired ∧ s.plan.active = some p0 ∧ fieldAt 0 2 p ∈ p0.cellMap ∧
      (s.spareOf (bedOf (fieldAt 0 2 p)) = none ∨ s.graftingIn (bedOf (fieldAt 0 2 p)) = true)) ∧
     Meets opGraft (pk opGraft.code (le2 1 ++ zeros 2)) { spared with cells := { spared.cells with grafts := [{ cell := 0, decided := 0 }] } }
       (fun _ p s => fieldAt 0 2 p < 1360 ∧ s.spareOf (bedOf (fieldAt 0 2 p)) ≠ some (fieldAt 0 2 p) ∧
      fieldAt 0 2 p ∉ s.cells.retired ∧ s.plan.active = some p0 ∧ fieldAt 0 2 p ∈ p0.cellMap ∧
      (s.spareOf (bedOf (fieldAt 0 2 p)) = none ∨ s.graftingIn (bedOf (fieldAt 0 2 p)) = true)) ∧
     Meets opStripePower (pk opStripePower.code [9, 0, 0, 0]) busy (fun _ p s => fieldAt 0 1 p < 10 ∧ fieldAt 1 1 p = 0 ∧ s.plan.active = some p0 ∧
      s.cells.powered.getLsbD (fieldAt 0 1 p) = true ∧ s.cells.stripeOff.any (·.stripe = fieldAt 0 1 p) = false)) ∧
    Meets opGraft (pk opGraft.code (le2 1359 ++ zeros 2)) live (fun _ p s => fieldAt 0 2 p < 1360 ∧ s.spareOf (bedOf (fieldAt 0 2 p)) ≠ some (fieldAt 0 2 p) ∧
      fieldAt 0 2 p ∉ s.cells.retired ∧ s.plan.active = none) ∧
    Meets opGraft (pk opGraft.code (le2 1360 ++ zeros 2)) live (fun _ p _ => 1360 ≤ fieldAt 0 2 p) ∧
    Meets opGraft (pk opGraft.code (le2 7 ++ zeros 2)) { live with cells := { live.cells with retired := [7] } } (fun _ p s => fieldAt 0 2 p ∈ s.cells.retired) ∧
    Meets opGraft (pk opGraft.code (le2 16 ++ zeros 2)) spared (fun _ p s => s.spareOf (bedOf (fieldAt 0 2 p)) = some (fieldAt 0 2 p)) ∧
    Meets opGraft (pk opGraft.code (le2 2 ++ zeros 2)) spared (fun _ p s => s.plan.active = some plan0 ∧ fieldAt 0 2 p ∉ plan0.cellMap) ∧
    Meets opStripePower (pk opStripePower.code [9, 1, 0, 0]) live (fun _ p s => fieldAt 0 1 p < 10 ∧ fieldAt 1 1 p = 1 ∧ s.cells.stripeLost.getLsbD (fieldAt 0 1 p) = false) ∧
    Meets opStripePower (pk opStripePower.code [9, 1, 0, 0]) { live with cells := { live.cells with stripeLost := 0x200 } } (fun _ p s => fieldAt 0 1 p < 10 ∧ fieldAt 1 1 p = 1 ∧ s.cells.stripeLost.getLsbD (fieldAt 0 1 p) = true) ∧
    Meets opStripePower (pk opStripePower.code [9, 0, 0, 0]) { busy with cells := { busy.cells with powered := 0x1FF } } (fun _ p s => fieldAt 0 1 p < 10 ∧ fieldAt 1 1 p = 0 ∧ s.plan.active.isSome = true ∧
      (s.cells.powered.getLsbD (fieldAt 0 1 p) = false ∨ s.cells.stripeOff.any (·.stripe = fieldAt 0 1 p) = true)) ∧
    (let k := pk opStripePower.code [9, 0, 0, 0]
     let p := effPar opStripePower k
     let e := entered opStripePower k live
     Accepted opStripePower k live ∧ fieldAt 0 1 p < 10 ∧ fieldAt 1 1 p = 0 ∧ e.plan.active = none ∧
       e.cells.powered.getLsbD (fieldAt 0 1 p) = true ∧ e.cells.stripeOff.any (·.stripe = fieldAt 0 1 p) = false) ∧
    ({ live with cells := { live.cells with powered := 0x1FF } } : State).cells.powered.getLsbD 9 = false ∧
    (let s := { live with cells := { live.cells with stripeTest := [9] } }
     s.dieRuns = true ∧ (9 : Fin 10).val ∈ s.cells.stripeTest) ∧
    (9 : Fin 10).val ∉ live.cells.stripeTest := by
  unfold Meets Accepted; dsimp only; and_intros <;> decide +kernel

theorem test_w_SupervisorCommandsAct :
    Meets opSupervisorHandover (pk opSupervisorHandover.code []) live (fun _ _ s => s.core (1 - s.leaseCore) = .standby ∧ s.plan.active = none) ∧
    Meets opSupervisorHandover (pk opSupervisorHandover.code []) busy (fun _ _ s => s.core (1 - s.leaseCore) = .standby ∧ s.plan.active.isSome = true) ∧
    Meets opSupervisorHandover (pk opSupervisorHandover.code []) { live with sup := { live.sup with core1 := .failed } } (fun _ _ s => s.core (1 - s.leaseCore) ≠ .standby) ∧
    (let n := 1
     n < 2 ∧ Meets opSupervisorReset (pk opSupervisorReset.code [1, 0, 0, 0] .gkr) live (fun _ p _ => fieldAt 0 1 p = n)) ∧
    Meets opSupervisorReset (pk opSupervisorReset.code [2, 0, 0, 0] .gkr) live (fun _ p _ => fieldAt 0 1 p = 2) ∧
    Meets opSupervisorReset (pk opSupervisorReset.code [3, 0, 0, 0] .gkr) live (fun _ p _ => 2 < fieldAt 0 1 p) ∧
    Meets opFwImageWrite (pk opFwImageWrite.code ([1] ++ zeros 7 ++ le8 4096 ++ le8 16) .blk) live (fun _ p s => fieldAt 0 1 p = 1 ∧ fieldAt 16 8 p ≤ 16 * 2 ^ 20 ∧ s.running 0 = false ∧ s.running 1 = false) ∧
    Meets opFwImageWrite (pk opFwImageWrite.code ([0] ++ zeros 7 ++ le8 4096 ++ le8 (2 ^ 24)) .blk)
      { live with boot := { live.boot with image0 := true, image1 := true } } (fun _ p s => fieldAt 0 1 p = 0 ∧ fieldAt 16 8 p ≤ 16 * 2 ^ 20 ∧ s.running 0 = true ∧ s.running 1 = true) ∧
    Meets opFwImageWrite (pk opFwImageWrite.code ([0] ++ zeros 7 ++ le8 4096 ++ le8 16) .blk) live (fun _ p s => fieldAt 0 1 p ≤ 1 ∧ fieldAt 16 8 p ≤ 16 * 2 ^ 20 ∧
      (s.running 0 = decide (fieldAt 0 1 p = 1) ∨ s.running 1 = decide (fieldAt 0 1 p = 1))) ∧
    Meets opFwImageWrite (pk opFwImageWrite.code ([1] ++ zeros 7 ++ le8 4096 ++ le8 (2 ^ 24)) .blk)
      { live with boot := { live.boot with image1 := true } } (fun _ p s => fieldAt 0 1 p ≤ 1 ∧ fieldAt 16 8 p ≤ 16 * 2 ^ 20 ∧
      (s.running 0 = decide (fieldAt 0 1 p = 1) ∨ s.running 1 = decide (fieldAt 0 1 p = 1))) ∧
    Meets opFwUpdate (pk opFwUpdate.code [1, 0, 0, 0]) live (fun _ p s => fieldAt 0 1 p ≤ 1 ∧ ¬ (s.running 0 = decide (fieldAt 0 1 p = 1) ∧ s.running 1 = decide (fieldAt 0 1 p = 1)) ∧
      (s.image (fieldAt 0 1 p = 1)).valid = true ∧
      (s.image (fieldAt 0 1 p = 1)).compat = (s.image (s.running s.leaseCore)).compat ∧ s.boot.fwUpdate ≠ 1 ∧
      s.core (1 - s.leaseCore) = .standby) ∧
    Meets opFwUpdate (pk opFwUpdate.code [0, 0, 0, 0]) live (fun _ p s => fieldAt 0 1 p ≤ 1 ∧ s.running 0 = decide (fieldAt 0 1 p = 1) ∧ s.running 1 = decide (fieldAt 0 1 p = 1)) ∧
    Meets opFwUpdate (pk opFwUpdate.code [1, 0, 0, 0]) { live with flash := { live.flash with imageB := { live.flash.imageB with compat := 2 } } }
      (fun _ p s => fieldAt 0 1 p ≤ 1 ∧ ¬ (s.running 0 = decide (fieldAt 0 1 p = 1) ∧ s.running 1 = decide (fieldAt 0 1 p = 1)) ∧
      ((s.image (fieldAt 0 1 p = 1)).valid = false ∨
        (s.image (fieldAt 0 1 p = 1)).compat ≠ (s.image (s.running s.leaseCore)).compat)) ∧
    Meets opFwUpdate (pk opFwUpdate.code [1, 0, 0, 0]) { live with boot := { live.boot with fwUpdate := 1 } } (fun _ p s => fieldAt 0 1 p ≤ 1 ∧ ¬ (s.running 0 = decide (fieldAt 0 1 p = 1) ∧ s.running 1 = decide (fieldAt 0 1 p = 1)) ∧ (s.image (fieldAt 0 1 p = 1)).valid = true ∧
      (s.image (fieldAt 0 1 p = 1)).compat = (s.image (s.running s.leaseCore)).compat ∧
      (s.boot.fwUpdate = 1 ∨ s.core (1 - s.leaseCore) ≠ .standby)) ∧
    Meets opFwUpdate (pk opFwUpdate.code [1, 0, 0, 0]) { live with sup := { live.sup with core1 := .failed } } (fun _ p s => fieldAt 0 1 p ≤ 1 ∧ ¬ (s.running 0 = decide (fieldAt 0 1 p = 1) ∧ s.running 1 = decide (fieldAt 0 1 p = 1)) ∧ (s.image (fieldAt 0 1 p = 1)).valid = true ∧
      (s.image (fieldAt 0 1 p = 1)).compat = (s.image (s.running s.leaseCore)).compat ∧
      (s.boot.fwUpdate = 1 ∨ s.core (1 - s.leaseCore) ≠ .standby)) ∧
    live.leaseHeld = true ∧ live.core (1 - live.leaseCore) = .standby ∧ live.leaseCore < 2 := by
  unfold Meets Accepted; dsimp only; and_intros <;> decide +kernel

/-- A journal whose mirror holds the records 5 and 6. -/
def kept : State :=
  { live with alm := { live.alm with rn := 6, mirror := [{ rn := 5, frc := 9, type := 0x10, src := 3 }, { rn := 6, frc := 9, type := 0x10, src := 3 }] } }

theorem test_w_AlmanacCommandsAct :
    Meets opAlmanacRead (pk opAlmanacRead.code (le8 6 ++ le4 1 ++ zeros 4 ++ le8 4096 ++ le8 4096) .blk) kept (fun _ p s => s.boot.trainFail = false ∧ (s.heldRecord (fieldAt 0 8 p)).isSome = true) ∧
    Meets opAlmanacRead (pk opAlmanacRead.code (le8 4 ++ le4 1 ++ zeros 4 ++ le8 4096 ++ le8 4096) .blk) kept (fun _ p s => s.boot.trainFail = false ∧ s.heldRecord (fieldAt 0 8 p) = none) ∧
    (let r := RingId.urg
     Meets opAlmanacFreeze (pk opAlmanacFreeze.code []) live (fun k _ s => s.boot.trainFail = false ∧ pathRing k.path = some r ∧ (freezeStart 0xFFFF s).alm.freezeAsked = true ∧
      (freezeStart 0xFFFF s).passed (freezeStart 0xFFFF s).alm.freezeAt 1000000 = false)) ∧
    Meets opAlmanacFreeze (pk opAlmanacFreeze.code [] .mesh) live (fun k _ s => s.boot.trainFail = false ∧ pathRing k.path = none ∧ (freezeStart 0xFFFF s).alm.freezeAsked = true ∧
      (freezeStart 0xFFFF s).passed (freezeStart 0xFFFF s).alm.freezeAt 1000000 = false) ∧
    Meets opAlmanacFreeze (pk opAlmanacFreeze.code []) { live with gk := { live.gk with mirrorFrozen := true } } (fun _ _ s => s.boot.trainFail = false ∧ ((freezeStart 0xFFFF s).alm.freezeAsked = false ∨
      (freezeStart 0xFFFF s).passed (freezeStart 0xFFFF s).alm.freezeAt 1000000 = true)) ∧
    Meets opAlmanacThaw (pk opAlmanacThaw.code []) live (fun _ _ s => s.boot.trainFail = false ∧ s.frozen = false) ∧
    Meets opAlmanacThaw (pk opAlmanacThaw.code []) failedTraining (fun k _ s => s.boot.trainFail = true ∧ k.path ≠ .gkr ∧ k.path ≠ .smbus) ∧
    live.gk.mirrorFrozen = false ∧
    (let s := { live with gk := { live.gk with mirrorFrozen := true } }
     let k := pk opAlmanacThaw.code []
     Accepted opAlmanacThaw k s ∧ (entered opAlmanacThaw k s).boot.trainFail = false ∧ (entered opAlmanacThaw k s).frozen = true) := by
  unfold Meets Accepted; dsimp only; and_intros <;> decide +kernel

/-- A replay image: a checkpoint of zeros, and the digest of dwell 0. -/
def imaged : State :=
  let b : AlmRec := { rn := 1, frc := 0, type := 0x60, src := 1, body := zeros 32 }
  let e : AlmRec := { rn := 2, frc := 0, type := 0x60, src := 1, body := zeros 16 }
  let d : AlmRec := { rn := 3, frc := 0, type := 0x20, src := 1, body := zeros 8 }
  { live with mem := { live.mem with dram :=
    ((b.bytes ++ e.bytes ++ d.bytes).zipIdx.map fun (x, i) => ((imageBase + i, x) : Host.Cell)).filter (·.2 ≠ 0) } }

/-- A replay that waits for input. -/
def replaying : State := { live with rpl := { live.rpl with state := 1, input := true } }

theorem test_w_ReplayCommandsAct :
    (let i : Ckpt := { begin_ := 1, bodies := zeros 32, crc := 0, kc := 0 }
     let b := (rdBlock (zeros 32)).1
     let x := (rdBlock (zeros 32)).2
     Meets opReplayStart (pk opReplayStart.code (zeros 24)) imaged (fun _ p s => s.boot.trainFail = false ∧ s.plan.active = none ∧ s.replaying = false ∧ fieldAt 0 8 p ≤ fieldAt 8 8 p ∧
      fieldAt 16 1 p ≤ 1 ∧ windowCkpt s.image_.1 (fieldAt 0 8 p) = some (i, b, x) ∧
      s.image_.1.any (fun r => r.type = 0x20 && decide (fieldAt 8 8 p / b.basis.req.T ≤ fieldAt 4 4 r.body)) = true ∧
      replayNeed b.basis ≤ replaySize)) ∧
    Meets opReplayStart (pk opReplayStart.code (zeros 24)) live (fun _ p s => s.boot.trainFail = false ∧ s.plan.active = none ∧ s.replaying = false ∧ fieldAt 0 8 p ≤ fieldAt 8 8 p ∧
      fieldAt 16 1 p ≤ 1 ∧ windowCkpt s.image_.1 (fieldAt 0 8 p) = none) ∧
    Meets opReplayStart (pk opReplayStart.code (zeros 24)) busy (fun _ _ s => s.boot.trainFail = false ∧ s.plan.active.isSome = true) ∧
    Meets opReplayStart (pk opReplayStart.code (zeros 24)) replaying (fun _ _ s => s.boot.trainFail = false ∧ s.plan.active = none ∧ s.replaying = true) ∧
    Meets opReplayInput (pk opReplayInput.code (le8 4096 ++ le8 8208) .blk) replaying (fun _ p s => s.boot.trainFail = false ∧ s.replaying = true ∧ s.rpl.input = true ∧ fieldAt 8 8 p % 8208 = 0 ∧
      s.rpl.units.length * 8208 + fieldAt 8 8 p ≤ inputSize) ∧
    Meets opReplayInput (pk opReplayInput.code (le8 4096 ++ le8 0) .blk) replaying (fun _ p s => s.boot.trainFail = false ∧ s.replaying = true ∧ s.rpl.input = true ∧ fieldAt 8 8 p % 8208 = 0 ∧
      s.rpl.units.length * 8208 + fieldAt 8 8 p ≤ inputSize) ∧
    Meets opReplayInput (pk opReplayInput.code (le8 4096 ++ le8 (8208 * (inputSize / 8208 + 1))) .blk) replaying (fun _ p s => s.boot.trainFail = false ∧ s.replaying = true ∧ s.rpl.input = true ∧ fieldAt 8 8 p % 8208 = 0 ∧
      inputSize < s.rpl.units.length * 8208 + fieldAt 8 8 p) ∧
    Meets opReplayInput (pk opReplayInput.code (le8 4096 ++ le8 8208) .blk) live (fun _ _ s => s.boot.trainFail = false ∧ (s.replaying = false ∨ s.rpl.input = false)) ∧
    Meets opReplayStop (pk opReplayStop.code []) live (fun _ _ s => s.boot.trainFail = false ∧ s.replaying = false) ∧
    Meets opReplayStop (pk opReplayStop.code []) replaying (fun _ _ s => s.boot.trainFail = false ∧ s.replaying = true) ∧
    Meets opReplayStop (pk opReplayStop.code []) failedTraining (fun k _ s => s.boot.trainFail = true ∧ k.path ≠ .gkr ∧ k.path ≠ .smbus) ∧
    Canonical imaged := by
  unfold Meets Accepted Canonical; dsimp only; and_intros <;> decide +kernel

theorem test_w_RingsAreRungAndEnabled :
    live.clk.held = false ∧
    (live.ring .urg).enable = true ∧
    (live.ring .urg).halted = false ∧
    ((128 : W32) - (live.ring .urg).cons).toNat ≤ (live.ring .urg).cmdUnits ∧
    (live.ring .urg).cmdUnits < ((129 : W32) - (live.ring .urg).cons).toNat ∧
    (State.reset.ring .blk).enable = false ∧
    (RingId.blk ≠ RingId.gkr) ∧
    live.gkServes = true ∧
    live.busUp = true ∧
    ({ live with kcp := State.reset.kcp }.ring .gkr).enable = false ∧
    ({ live with boot := { live.boot with step := 2 } } : State).busUp = false ∧
    RingId.urg ≠ RingId.gkr := by
  and_intros <;> decide +kernel

theorem test_w_DoorbellRunsItsPacket :
    (let k := { pk 0x0001 [1, 2, 3, 4] .nrm with executeAt := 0 }
     let s := { live with kcp := { live.kcp with bulkNext := true } }
     k.path = ringPath .nrm ∧ k.params.length = k.plen.toNat ∧ Accepted opEcho k s ∧ (∀ q, (s.ring q).mem = [] ∧ (s.ring q).dma = []) ∧
       s.kcp.meshWaiting = [] ∧ (s.ring .nrm).stall = false ∧ (s.ring .nrm).prod = (s.ring .nrm).cons ∧ kUnits k ≤ (s.ring .nrm).cmdUnits ∧
       s.kcp.bulkNext = true) := by
  unfold Accepted; dsimp only; and_intros <;> first | decide +kernel | (intro q; cases q <;> decide +kernel)

theorem test_w_RwcPairsTakeEffectTogether :
    live.gkServes = true ∧
    (live.setHolder .smbus (some (0x1428, 500))).holder .smbus = some (0x1428, 500) ∧
    (501 : W32) ≠ ~~~ 500 ∧
    live.holder .bar0 = none ∧
    BusPath.bar0 ≠ BusPath.smbus ∧
    ({ live with rwc := { live.rwc with smbus := some (0x1428, 500) } } : State).gkServes = true := by
  and_intros <;> decide +kernel

theorem test_w_TimeReadsAreLatched :
    2 ≤ live.boot.step ∧
    (0x1414 = 0x1408 ∨ 0x1414 = 0x140C ∨ 0x1414 = 0x1410 ∨ 0x1414 = 0x1414) := by
  and_intros <;> decide +kernel

theorem test_w_RegisterWritesAct :
    live.gkServes = true ∧
    live.busUp = true ∧
    (0x7FFF : W32) &&& ~~~ (live.pcie.eventEn.zeroExtend 32) &&& live.pcie.event.zeroExtend 32 = 0 ∧
    (let s := { live with pcie := { live.pcie with event := BitVec.ofNat 15 (2 ^ (14 : Fin 15).val) } }
     s.gkServes = true ∧ s.pcie.event = BitVec.ofNat 15 (2 ^ (14 : Fin 15).val) ∧ s.pcie.eventEn = 0) ∧
    aoOffset (0x1800 : BitVec 16).toNat = false ∧
    (0x1800 : BitVec 16).toNat % 4 = 0 ∧
    (7 : Nat) ≠ 15 ∧
    live.clk.held = false ∧
    (0x2400 : BitVec 16).toNat % 4 = 0 ∧ (readReg .bar0 0x2400 live).isSome = true ∧ aoOffset 0x2400 = false ∧
    (0x142C : BitVec 16).toNat % 4 = 0 ∧ aoOffset (0x142C : BitVec 16).toNat = true ∧
    (0x1801 : BitVec 16).toNat % 4 ≠ 0 ∧
    (let s := { live with boot := { live.boot with step := 2 } }
     s.gkServes = true ∧ s.busUp = false) := by
  and_intros <;> decide +kernel

theorem test_w_CountersAreClearedByTheirRegister :
    live.busUp = true ∧
    live.gkServes = true ∧
    (1 : W32).getLsbD 0 = true ∧
    (2 : W32).getLsbD 0 = false ∧
    live.ctr.words.length = Ctr.offsets.length ∧
    (∃ i < Ctr.offsets.length, Ctr.offsets.getD i 0 = 0x1464 ∧ 0x1438 ≤ 0x1464 ∧ 0x1464 ≤ 0x1464) ∧
    (∃ i < Ctr.offsets.length, Ctr.offsets.getD i 0 = 0x180C ∧ ¬ (0x1438 ≤ 0x180C ∧ 0x180C ≤ 0x1464)) := by
  and_intros <;> decide +kernel

theorem test_w_Bar4ReachesDram :
    live.pcie.up = true ∧
    live.pcie.perst = false ∧
    live.dramUp = true ∧
    (0xFFFFFFF8 : W32).toNat + 8 ≤ 2 ^ 32 ∧
    pcieReadable (Claims.bar4 0xFFFFFFF8 live) 8 = true ∧
    live.pcieWritable (Claims.bar4 0x40000000 live) [1, 2].length = true ∧
    live.pcieWritable (Claims.bar4 0x3FFFFFFF live) 2 = false ∧
    Canonical live ∧
    pcieReadable (Claims.bar4 0xFFFFFFF8 { live with pcie := { live.pcie with aperture := 124 } }) 8 = false ∧
    live.pcieWritable (Claims.bar4 0x40000000 live) 0 = true ∧
    (∀ ch, (live.reel ch).waiting = []) ∧
    State.reset.dramUp = false := by
  unfold Canonical
  and_intros <;> first
    | decide +kernel
    | (intro ch
       rcases Nat.lt_or_ge ch 32 with h | h
       · revert ch; decide +kernel
       · show (live.tl.reels.getD ch {}).waiting = []
         have hl : live.tl.reels.length ≤ ch := Nat.le_trans (by decide +kernel) h
         rw [List.getD_eq_getElem?_getD, List.getElem?_eq_none hl]; rfl)

theorem test_w_SmbusCodesAct :
    live.gkServes = true ∧
    (let s := { live with smb := { live.smb with offset := 0x1400 } }
     s.gkServes = true ∧ aoOffset s.smb.offset.toNat = true ∧ (∃ v, readReg .smbus s.smb.offset.toNat s = some v) ∧ s.smb.offset ≠ 0x1404) ∧
    36 ≤ (zeros 36).length ∧
    (zeros 100).length ≤ 100 ∧
    ((zeros 35).length < 36 ∨ 100 < (zeros 35).length) ∧
    ((zeros 101).length < 36 ∨ 100 < (zeros 101).length) ∧
    (let r : Reply := { result := zeros 204 }
     let s := { live with smb := { live.smb with replies := [r] } }
     s.gkServes = true ∧ s.smb.replies = [r] ∧ (replyBytes r).length = 240 ∧ (replyBytes r).length ≤ s.smb.readPos + 240 ∧
       s.smb.readPos ≤ (replyBytes r).length) ∧
    (let r : Reply := { result := zeros 208 }
     let s := { live with smb := { live.smb with replies := [r] } }
     s.gkServes = true ∧ s.smb.replies = [r] ∧ s.smb.readPos + 240 < (replyBytes r).length) ∧
    State.reset.gkServes = false ∧
    (let s := { live with smb := { live.smb with offset := 0x1800 } }
     s.gkServes = true ∧ s.busUp = true ∧ aoOffset s.smb.offset.toNat = false ∧ (readReg .smbus s.smb.offset.toNat s).isSome = true) ∧
    live.smb.replies = [] := by
  refine ⟨?_, ⟨?_, ?_, ⟨_, rfl⟩, ?_⟩, ?_⟩ <;> decide +kernel

theorem test_w_BringUpStepsFollow :
    State.reset.clk.porst = true ∧
    (let s := { live with boot := { live.boot with step := 1 } }
     s.clk.held = false ∧ s.boot.step = 1 ∧ s.clk.twinActive = false ∧ s.boot.thermalHold = false) ∧
    (let s := { live with boot := { live.boot with step := 1, thermalHold := true } }
     s.clk.held = false ∧ s.boot.step = 1 ∧ s.boot.thermalHold = true) ∧
    (let s := { live with boot := { live.boot with step := 3 }, sup := { live.sup with lease := 0, core0 := .boot, core1 := .failed } }
     s.clk.held = false ∧ s.boot.step = 3 ∧ s.core (0 : Fin 2) = .boot ∧ s.bootImage.isSome = true ∧ s.leaseHeld = false ∧ (0 : Fin 2).val = s.preferred ∧
       s.core (1 - (0 : Fin 2).val) ≠ .boot) ∧
    (let s := { live with boot := { live.boot with step := 4 } }
     s.clk.held = false ∧ s.boot.step = 4 ∧ s.leaseHeld = true ∧ s.boot.trainFail = false) ∧
    (0x7FFF : BitVec 16) ≠ BitVec.allOnes 16 ∧
    live.clk.held = false ∧
    ({ live with boot := { live.boot with step := 6 } } : State).boot.step = 6 ∧
    ({ live with boot := { live.boot with step := 7 } } : State).boot.step = 7 ∧
    live.clk.porst = false ∧
    (let s := { live with boot := { live.boot with step := 4 }, sup := { live.sup with lease := 0, core0 := .boot, core1 := .failed } }
     3 < s.boot.step ∧ s.core (0 : Fin 2) = .boot ∧ s.bootImage.isSome = true ∧ s.leaseHeld = false) ∧
    (let s := { live with boot := { live.boot with step := 3 }, sup := { live.sup with core0 := .boot, core1 := .boot } }
     s.boot.step = 3 ∧ s.core (1 : Fin 2) = .boot ∧ s.bootImage.isSome = true ∧ s.core (1 - (1 : Fin 2).val) = .boot) ∧
    (let s := { live with sup := { live.sup with core1 := .boot } }
     3 ≤ s.boot.step ∧ s.core (1 : Fin 2) = .boot ∧ s.bootImage.isSome = true ∧ s.leaseHeld = true ∧ s.boot.fwUpdate ≠ 1) ∧
    (let s := { live with sup := { live.sup with core1 := .boot }, flash := { imageA := { magicOk := false }, imageB := { magicOk := false } } }
     s.core (1 : Fin 2) = .boot ∧ s.bootImage = none) ∧
    live.mem.chan.length = 16 ∧
    (let e : Eyes := { read := 375, write := 375, command := 400 }
     ∀ i < 16, eyesGood ((List.replicate 16 e).getD i {}) = true) ∧
    eyesGood { read := 374, write := 375, command := 400 } = false ∧ eyesGood { read := 375, write := 375, command := 399 } = false ∧
    live.boot.step ≠ 6 ∧ live.boot.step ≠ 7 := by
  and_intros <;> decide +kernel

theorem test_w_ReferencesAndRails :
    live.clk.rootLock = true ∧
    live.clk.refPresent = true ∧
    live.clk.held = false ∧
    live.clk.auxrefPresent = true ∧
    (let s := { live with clk := { live.clk with refPresent := false, auxrefPresent := false } }
     s.clk.rootLock = true ∧ s.clk.refPresent = false ∧ s.clk.auxrefPresent = false) ∧
    (let s := { live with clk := { live.clk with hedgePllLock := 0x8000, hedgePllOn := 0x8000 } }
     s.clk.hedgePllLock.getLsbD (15 : Fin 16) = true ∧ s.clk.hedgePllOn.getLsbD (15 : Fin 16) = true ∧
       s.refHere (s.clk.hedgeRefAux.getLsbD (15 : Fin 16)) = true) ∧
    (let s := { live with clk := { live.clk with held := true } }
     s.clk.held = true ∧ s.clk.porst = false ∧ s.clk.outOfOrder = false) ∧
    ({ live with clk := { live.clk with pcieRefAux := true } } : State).clk.pcieRefAux = true ∧
    (let s := { live with clk := { live.clk with pciePllLock := true } }
     s.clk.pciePllLock = true ∧ s.refHere s.clk.pcieRefAux = true) := by
  and_intros <;> decide +kernel

theorem test_w_PcieSideResets :
    2 ≤ live.boot.step ∧
    live.pcie.up = true ∧
    live.msixOpen = true ∧
    3 ≤ live.boot.step ∧
    State.reset.boot.step < 3 ∧
    (let x : Transfer := { seq := 1, kind := .memRead, addr := 4096, data := [1], len := 1 }
     let s := { live with pcie := { live.pcie with transfers := [x] } }
     s.pcie.transfers = x :: [] ∧ x.kind = .memRead ∧ x.data ≠ [] ∧ s.msixOpen = true ∧ s.pcie.dmaStopped = false) ∧
    (State.reset.clk.porst = true) ∧
    (let s := { live with gk := { live.gk with stopped := true, mode := 2 } }
     s.clk.porst = true ∨ (s.gk.stopped = true ∧ s.gk.mode = 2)) ∧
    live.clk.porst = false ∧
    live.gk.stopped = false ∧
    State.reset.boot.step < 2 ∧ State.reset.pcie.up = false ∧
    (let x : Transfer := { seq := 1, kind := .memWrite, addr := 4096, len := 1 }
     let s := { live with pcie := { live.pcie with transfers := [x] } }
     s.pcie.transfers = x :: [] ∧ x.kind = .memWrite ∧ x.xfer = 0 ∧ s.msixOpen = true ∧ s.pcie.dmaStopped = false) ∧
    live.pcie.transfers = [] ∧
    live.gk.mode ≠ 2 := by
  and_intros <;> decide +kernel

theorem test_w_TemperatureTrips :
    live.gkServes = true ∧
    (∃ x ∈ [((6 : Fin 7), (1100 : Int))], (1100 : Int) ≤ x.2 ∧ x.1.val < live.gk.temps.length) ∧
    (let s := { live with boot := { live.boot with thermalHold := true, step := 2 } }
     s.gkServes = true ∧ (∀ x ∈ [((6 : Fin 7), (899 : Int))], x.2 < (900 : Int)) ∧ (∀ x ∈ s.gk.temps, x < (900 : Int)) ∧ s.boot.thermalHold = true ∧
       s.boot.step = 2) ∧
    (∀ x ∈ [((6 : Fin 7), (1099 : Int))], x.2 < (1100 : Int)) ∧
    (∀ x ∈ live.gk.temps, x < (1100 : Int)) ∧
    live.boot.thermalHold = false := by
  and_intros <;> decide +kernel


/-- A request of one block that the device can place. -/
def request0 : Request := { T := 65536, channels := [3, 4], rate := 1000000, sources := [⟨7, 0, 1, 1⟩] }

/-- A device that computes a request. -/
def planning (r : Request) : State :=
  { live with plan := { live.plan with computing := some { cause := 1, req := r, version := 0x100000001, startedAt := 5000 } } }

/-- What makePlan answers on a request there. -/
def planOn (r : Request) : Plan × Nat :=
  makePlan r 0x100000001 none none 1 false { planning r with plan := { (planning r).plan with computing := none } }

/-- A device under the plan of that request that computes a forced plan, with some lanes lost. -/
def forcing (lost : List Nat) (sources : List Source) : State :=
  let p := { (planOn request0).1 with req := { (planOn request0).1.req with sources := sources } }
  { live with
    lanes := { live.lanes with lane := (List.range 128).map fun l => { live.lane l with lost := lost.contains l } }
    plan := { live.plan with active := some p, computing := some { cause := 1, forced := true, req := p.req, version := 0x100000002, startedAt := 5000 } } }

/-- What makePlan answers there, as planReady asks it. -/
def forcedOn (s : State) : Plan × Nat :=
  let p := s.plan.active.getD plan0
  makePlan { p.req with start := none } (learnedVersion 0x100000002 s) (some p) none 1 true { s with plan := { s.plan with computing := none } }

/-- The plan of request0. -/
def placed : Plan := (planOn request0).1

/-- The forced plan changes what the F-engines see. -/
def forcedSeen (s : State) : Bool := seenChange (s.plan.active.getD plan0) { (forcedOn s).1 with req := { (forcedOn s).1.req with start := none } }

theorem test_w_plan_refused : (planOn { request0 with sources := [] }).2 ≠ 0 := by decide +kernel
theorem test_w_plan_checked : (planOn { request0 with dryRun := true }).2 = 0 := by decide +kernel
theorem test_w_plan_published : (planOn request0).2 = 0 ∧ (placed.provisional && (planning request0).boot.learned) = false := by decide +kernel
theorem test_w_forced_refused : (forcedOn (forcing [] [])).2 ≠ 0 := by decide +kernel
theorem test_w_forced_at_once : (forcedOn (forcing [] request0.sources)).2 = 0 ∧ forcedSeen (forcing [] request0.sources) = false := by decide +kernel
theorem test_w_forced_followed : (forcedOn (forcing [8] request0.sources)).2 = 0 ∧ forcedSeen (forcing [8] request0.sources) = true ∧
    (forcing [8] request0.sources).mesh.partitioned = false := by decide +kernel

theorem test_w_PlanEventsAct :
    ((planning request0).tamzarServes = true ∧ (planning request0).seam = none) ∧
    ((forcing [8] []).tamzarServes = true ∧ (forcing [8] []).seam = none) ∧
    (let q := { plan0 with version := 0x100000002, seenByF := true }
     let s := { busy with plan := { busy.plan with pendingPlan := some q } }
     s.tamzarServes = true ∧ s.plan.active = some plan0 ∧ s.plan.follower = none ∧ s.plan.pendingPlan = some q ∧ q.wantsSwitch s = true ∧
       ({ s with plan := { s.plan with follower := some q } } : State).plan.follower = some q) ∧
    (let p := { plan0 with version := 0x10100000001 }
     let s := { busy with plan := { busy.plan with active := some p } }
     s.tamzarServes = true ∧ s.plan.active = some p ∧ p.provisional = true ∧ s.boot.learned = false) ∧
    (let s := { busy with plan := { busy.plan with coolAt := some 5000, derated := true } }
     s.tamzarServes = true ∧ s.plan.coolAt = some 5000 ∧ s.plan.derated = true ∧ s.mem.chan.any (·.hot) = false) ∧
    live.plan.active = none ∧ live.time.epochSet = false ∧ live.plan.coolAt = none ∧ live.plan.computing = none := by
  and_intros <;> decide +kernel

/-- The dwell of local channel 0 in sweep 0 of the plan. -/
def dwell0 : Dwell := { ver := 0x100000001, chan := 0, sweep := 0 }

/-- The device receives on lane 8: slot 0 takes the packets of dwell 0. -/
def recv : State :=
  { busy with
    lanes := { busy.lanes with lane := (List.range 128).map fun l => if l = 8 then { state := .lock, ipv4 := [10, 0, 0, 1] } else {} }
    ingest := { busy.ingest with opened := true, expected := some dwell0, slot0 := { state := .arriving, dwell := some dwell0, openedAt := 5000 } } }

/-- A packet's place. -/
def spot : SlotPkt := { block := 0, sub := 1, mask := 0, data := [] }

/-- A packet of zeros from source 7. -/
def zeroPkt : List Byte := zeros 28 ++ le4 7 ++ zeros 8208

theorem length_zeroPkt : zeroPkt.length = 8240 := by
  rw [zeroPkt, List.length_append, List.length_append, length_zeros, length_zeros]; rfl

/-- The CRC register after some zero bytes. -/
def zrun (n c : Nat) : Nat := (zeros n).foldl (crcByte 0x82F63B78) c

theorem zrun_add (a b c : Nat) : zrun (a + b) c = zrun b (zrun a c) := by
  simp [zrun, zeros, ← List.replicate_append_replicate]

/-- Each value is 513 zero bytes after the one before it. -/
def stepsOk : List Nat → Bool
  | a :: b :: r => zrun 513 a == b && stepsOk (b :: r)
  | _ => true

theorem zrun_steps : ∀ (xs : List Nat) (a : Nat), stepsOk (a :: xs) = true → zrun (xs.length * 513) a = xs.getLastD a
  | [], a, _ => by simp [zrun, zeros]
  | b :: xs, a, h => by
    simp only [stepsOk, Bool.and_eq_true, beq_iff_eq] at h
    rw [List.length_cons, Nat.succ_mul, Nat.add_comm, zrun_add, h.1, zrun_steps xs b h.2]
    cases xs <;> rfl

theorem crc_zeroPkt_of (d v : Nat) (a : Nat) (xs : List Nat) (hp : (le2 (d % 1024) ++ le2 8 ++ le4 0 ++ (zeros 28 ++ le4 7)).foldl (crcByte 0x82F63B78) 0xFFFFFFFF = a)
    (hl : xs.length = 16) (hs : stepsOk (a :: xs) = true) (hv : xs.getLastD a ^^^ 0xFFFFFFFF = v) : packetCrc d 8 0 zeroPkt = v := by
  have e : slice 0 8240 zeroPkt = zeroPkt := by have h := slice_front zeroPkt [] length_zeroPkt; rwa [List.append_nil] at h
  have z := zrun_steps xs a hs
  rw [hl] at z
  unfold packetCrc crc32c
  rw [e, zeroPkt, show (0 : W32).toNat = 0 from rfl, ← List.append_assoc, List.foldl_append, hp]
  unfold zrun at z
  rw [show (8208 : Nat) = 16 * 513 from rfl, z, hv]

/-- The CRC of that packet to system index 0, and to system index 1. -/
theorem crc_zeroPkt : packetCrc 0 8 0 zeroPkt = 504047246 ∧ packetCrc 1 8 0 zeroPkt = 2230833880 :=
  ⟨crc_zeroPkt_of 0 _ 2818907146 [342957290, 2749760141, 1301599051, 1455172851, 1929845205, 41409813, 1158392781, 1283909740, 277423707, 545959757, 4209782109, 848746917, 367587191, 2290234004, 2516849360, 3790920049] (by decide +kernel) rfl (by decide +kernel) (by decide +kernel),
   crc_zeroPkt_of 1 _ 1975847201 [1885500589, 2246178992, 921636591, 4150455354, 1227630145, 3162487980, 3196162112, 4091970560, 4094605607, 2916925663, 3866764361, 1019618329, 3676221348, 2866068864, 1310806015, 2064133415] (by decide +kernel) rfl (by decide +kernel) (by decide +kernel)⟩

theorem crc_any (d : Nat) (x : List Byte) : packetCrc d 8 0 (zeroPkt ++ x) = packetCrc d 8 0 (zeroPkt ++ []) := by
  unfold packetCrc; rw [slice_front _ x length_zeroPkt, slice_front _ [] length_zeroPkt]

theorem crc_goodPkt (d : Nat) (x : List Byte) : packetCrc d 8 0 (zeroPkt ++ x) = packetCrc d 8 0 zeroPkt := by
  rw [crc_any, List.append_nil]

theorem front_zeroPkt (x : List Byte) : zeroPkt ++ x = (zeros 28 ++ le4 7) ++ (zeros 8208 ++ x) := by rw [← List.append_assoc]; rfl

theorem head_zeroPkt (x : List Byte) (o n : Nat) (h : o + n ≤ 32) : fieldAt o n (zeroPkt ++ x) = fieldAt o n (zeros 28 ++ le4 7) := by
  rw [front_zeroPkt, fieldAt_before _ _ (by rw [List.length_append, length_zeros]; exact h)]

theorem source_zeroPkt (x : List Byte) : fieldAt 28 4 (zeroPkt ++ x) = 7 := by rw [head_zeroPkt x 28 4 (by omega)]; decide +kernel
theorem hint_zeroPkt (x : List Byte) : fieldAt 24 4 (zeroPkt ++ x) = 0 := by rw [head_zeroPkt x 24 4 (by omega)]; decide +kernel
theorem dest_zeroPkt (x : List Byte) : fieldAt 14 2 (zeroPkt ++ x) = 0 := by rw [head_zeroPkt x 14 2 (by omega)]; decide +kernel
theorem crcField_zeroPkt (x : List Byte) : fieldAt 8240 4 (zeroPkt ++ x) = fieldAt 0 4 x := fieldAt_after 4 _ _ length_zeroPkt

/-- What checkPacket answers on that packet with a CRC field. -/
theorem checkPacket_zeroPkt (x : List Byte) (s : State) : checkPacket 8 (zeroPkt ++ x) s =
    (let table := s.ingest.streams.filter (·.lane = 8)
     let known := table.find? (·.source = 7#32)
     let first : Bool := match known with
       | some y => decide (packetCrc s.mesh.index.toNat 8 y.e (zeroPkt ++ x) = fieldAt 0 4 x)
       | none => false
     if first then .accept 0 ((known.map (·.e)).getD 0 + 1)
     else if packetCrc s.mesh.index.toNat 8 0 (zeroPkt ++ x) = fieldAt 0 4 x then
       match known with
       | none => if table.length ≥ 8 then .excess else .accept 0 (0 + 1)
       | some y => if (0 - y.e).toNat < 2 ^ 31 then .accept (0 - y.e).toNat (0 + 1) else .behind
     else if packetCrc 0 8 0 (zeroPkt ++ x) = fieldAt 0 4 x then .misrouted else .bad) := by
  simp only [checkPacket, source_zeroPkt, hint_zeroPkt, dest_zeroPkt, crcField_zeroPkt]
  rfl

/-- With its lane's stream table full. -/
def fullTable : State := { recv with ingest := { recv.ingest with streams := (List.range 8).map fun i => { lane := 8, source := BitVec.ofNat 32 (100 + i) } } }

/-- With another system index. -/
def renamed : State := { recv with mesh := { recv.mesh with index := 1 } }

theorem test_w_packet_checks : checkPacket 8 (zeroPkt ++ le4 504047246) recv = .accept 0 1 ∧ checkPacket 8 (zeroPkt ++ zeros 4) recv = .bad ∧
    checkPacket 8 (zeroPkt ++ le4 504047246) renamed = .misrouted ∧ checkPacket 8 (zeroPkt ++ le4 504047246) fullTable = .excess := by
  have v : fieldAt 0 4 (le4 504047246) = 504047246 ∧ fieldAt 0 4 (zeros 4) = 0 := by decide +kernel
  have c : packetCrc 0 8 0#32 zeroPkt = 504047246 ∧ packetCrc 1 8 0#32 zeroPkt = 2230833880 := crc_zeroPkt
  have g (d : Nat) (x : List Byte) : packetCrc d 8 0#32 (zeroPkt ++ x) = packetCrc d 8 0#32 zeroPkt := crc_goodPkt d x
  have e : recv.ingest.streams.filter (·.lane = 8) = [] ∧ renamed.ingest.streams.filter (·.lane = 8) = [] := by decide +kernel
  have u : (fullTable.ingest.streams.filter (·.lane = 8)).find? (·.source = 7#32) = none ∧
      (fullTable.ingest.streams.filter (·.lane = 8)).length = 8 := by decide +kernel
  have i : recv.mesh.index.toNat = 0 ∧ renamed.mesh.index.toNat = 1 ∧ fullTable.mesh.index.toNat = 0 := by decide +kernel
  simp [checkPacket_zeroPkt, v, e, u, i, g, c]

theorem test_w_SamplePacketsAreJudged :
    recv.rxOpen 8 = true ∧
    recv.role 8 = 1 ∧
    { recv with plan := { recv.plan with active := some { plan0 with roles := 0 } } }.role 8 ≠ 1 ∧
    renamed.rxOpen 8 = true ∧ renamed.role 8 = 1 ∧
    fullTable.rxOpen 8 = true ∧ fullTable.role 8 = 1 ∧
    (recv.lane 8).fj = false ∧
    (0 < 3 ∧ recv.slotIn .arriving = some 0 ∧ (recv.slot 0).dwell = some dwell0 ∧ (recv.slot 0).state = .arriving ∧ recv.planOf dwell0.ver = some plan0 ∧
      (recv.slot 0).pkts.any (fun x => x.block = spot.block && x.sub = spot.sub && x.half = spot.half) = false ∧
      (recv.slot 0).pkts.length + 1 < plan0.packets ∧ recv.ingest.cfgUsed.getLsbD 18 = true) ∧
    ({ recv with ingest := { recv.ingest with cfgUsed := 0x1408 } } : State).ingest.cfgUsed.getLsbD 18 = false ∧
    recv.ingest.lateRun < 999 ∧
    ({ recv with ingest := { recv.ingest with lateRun := 999 } } : State).ingest.lateRun = 999 ∧
    (let s := recv.setSlot 0 { recv.slot 0 with pkts := [spot] }
     s.slotIn .arriving = some 0 ∧ (s.slot 0).dwell = some dwell0 ∧
       (s.slot 0).pkts.any (fun x => x.block = spot.block && x.sub = spot.sub && x.half = spot.half) = true) ∧
    recv.laneRuns = true ∧
    recv.arraysRun = true ∧
    (recv.lane 8).state = .lock ∧
    (let b := recv.macOf 8 ++ zeros 6 ++ [8, 0] ++ [0x45, 0, 0, 0, 0, 0, 0, 0, 64, 17, 0x70, 0xED, 0, 0, 0, 0, 10, 0, 0, 1] ++ [0, 0, 0xCB, 0x20, 0x20, 0x3C, 0, 0] ++ zeros 8244
     (etherType b).1 ≠ 0x8808 ∧ ptpMessage b = none ∧ addressMessage b = none ∧ udpOffset b = some 34 ∧ beAt (34 + 2) 2 b = (recv.lane 8).ingestPort ∧
       frameGood 8 b (receivedOn 8 recv) = true) ∧
    (etherType (zeros 12 ++ [0x88, 8])).1 = 0x8808 ∧
    (let b := zeros 12 ++ [0x88, 0xF7] ++ zeros 44
     (etherType b).1 ≠ 0x8808 ∧ (ptpMessage b).isSome = true) ∧
    (let b := zeros 12 ++ [8, 6, 0, 1, 8, 0, 6, 4, 0, 1] ++ zeros 20
     (etherType b).1 ≠ 0x8808 ∧ ptpMessage b = none ∧ (addressMessage b).isSome = true) ∧
    (let b := zeros 12 ++ [0x88, 0xB5] ++ zeros 46
     (etherType b).1 ≠ 0x8808 ∧ ptpMessage b = none ∧ addressMessage b = none ∧ udpOffset b = none) ∧
    live.rxOpen 9 = false ∧ (live.lane 9).state ≠ .lock := by
  and_intros <;> decide +kernel

theorem test_w_SlotsClose :
    (let s := recv.setSlot 0 { recv.slot 0 with pkts := [spot], graceAt := some 5000 }
     s.arraysRun = true ∧ s.slotIn .arriving = some 0 ∧ (s.slot 0).pkts ≠ [] ∧ (s.slot 0).graceAt = some 5000 ∧ (s.slot 0).dwell = some dwell0 ∧
       s.planOf dwell0.ver = some plan0 ∧ 0 < 3 ∧ s.ingest.bay = []) ∧
    (let s := recv.setSlot 0 { recv.slot 0 with graceAt := some 5000 }
     s.arraysRun = true ∧ s.slotIn .arriving = some 0 ∧ (s.slot 0).pkts = [] ∧ (s.slot 0).graceAt = some 5000 ∧ s.ingest.expected = some dwell0 ∧
       s.ingest.bay = []) := by
  and_intros <;> decide +kernel


/-- Slot 0 holds dwell 0 in a state; slot 1 the next dwell, CLOSED. -/
def slots (a : SlotState) (x : XArray) : State :=
  { busy with
    ingest := { busy.ingest with slot0 := { state := a, dwell := some dwell0 }, slot1 := { state := .closed, dwell := some { dwell0 with chan := 1 } } }
    xa := x }

/-- A block pair of dwell 0 in staging. -/
def pair0 : StagedPair := { pos := 0, sums := [], waits := [], count := 0, ready := true }

/-- The staging half of dwell 0. -/
def half0 : Staged := { dwell := dwell0, boundaryAt := 5000, pairs := [pair0], drained := true }

/-- A pass of dwell 0 whose chunk has its old sums and is queued. -/
def pass0 (n : Nat) : Pass := { dwell := dwell0, flight := [{ pos := 0, old := some [], queued := true, fails := n }] }

/-- The device with a pass of dwell 0. -/
def passing (ps : Option Pass) : State :=
  { slots .retained { busy.xa with staging := [half0] } with
    rmw := { busy.rmw with pass := ps, desc := [{ start := some 0 }, {}], eras := [{ start := some 0, cfg := {} }], running := true } }

theorem test_w_DwellsMoveThroughTheArrays :
    (let s := slots .computing { busy.xa with computing := some dwell0, uncorr := true }
     s.arraysRun = true ∧ s.xa.computing = some dwell0 ∧ s.planOf dwell0.ver = some plan0 ∧ s.xa.computingSlot < 3 ∧ s.xa.uncorr = true) ∧
    (let s := slots .computing { busy.xa with computing := some dwell0 }
     s.arraysRun = true ∧ s.xa.computing = some dwell0 ∧ s.planOf dwell0.ver = some plan0 ∧ s.xa.computingSlot < 3 ∧ s.xa.uncorr = false ∧
       s.plan.stopCorr = false ∧ s.xa.replays = []) ∧
    (let s := slots .retained { busy.xa with drain := some { dwell := dwell0 } }
     s.arraysRun = true ∧ s.slotIn .closed = some 1 ∧ s.xa.computing = none ∧ s.xa.boundaryHeld = false ∧ s.xa.drain = some { dwell := dwell0 } ∧
       s.beams.forming = none ∧ s.planOf dwell0.ver = some plan0 ∧ s.xa.staging = [] ∧ s.rmw.pass = none) ∧
    (let s := slots .retained busy.xa
     s.arraysRun = true ∧ s.slotIn .closed = some 1 ∧ s.xa.computing = none ∧ s.xa.boundaryHeld = false ∧ s.xa.drain = none ∧ s.xa.withheld = [] ∧
       s.beams.forming = none) ∧
    (let h : Shadow := { bed := 0, spare := 0, target := 1, deal := 1, pos := 0 }
     let t0 : TieBreak := { dwell := dwell0, shadow := h, target := { deal := 1, cell := 1, pos := 0, low := [] }, helper := 79 }
     let s := slots .retained { busy.xa with tieBreaks := [t0] }
     s.arraysRun = true ∧ s.xa.tieBreaks.find? (·.shadow.bed = (0 : Fin 80).val) = some t0 ∧ s.planOf t0.dwell.ver = some plan0 ∧
       s.slotOf t0.dwell = some 0 ∧ s.spareOf t0.helper = some 1343 ∧ s.helperBusy t0 = false) ∧
    (let r : Replay := { dwell := dwell0, cell := 5, deal := 4, shares := [(17, 0, 9)], started := true }
     let s := slots .retained { busy.xa with replays := [r] }
     s.arraysRun = true ∧ s.xa.replays = [r] ∧ r.started = true ∧ r.shares = [(17, 0, 9)] ∧ s.staged r.dwell = none ∧ s.rmw.pass = none) ∧
    (let s := { slots .retained busy.xa with beams := { busy.beams with forming := some dwell0, group := 62 } }
     s.arraysRun = true ∧ s.beams.forming = some dwell0 ∧ s.planOf dwell0.ver = some plan0 ∧ (formGroup plan0 dwell0 s).beams.group < plan0.req.T / 1024) ∧
    (let s := { slots .retained busy.xa with beams := { busy.beams with forming := some dwell0, group := 62 } }
     s.arraysRun = true ∧ s.slotIn .closed = some 1 ∧ s.xa.computing = none ∧ s.xa.boundaryHeld = false ∧ s.xa.drain = none ∧ s.xa.withheld = [] ∧
       s.beams.forming = some dwell0) ∧
    (let s := { slots .retained busy.xa with beams := { busy.beams with forming := some dwell0, group := 63 } }
     plan0.req.T / 1024 ≤ (formGroup plan0 dwell0 s).beams.group) ∧
    (let f : SieveOut := { dwell := dwell0, reset := 0, k := 0, re := 1, im := 2, settling := false, firstFine := true, overflow := false, flaggedIn := 0, bank := false,
                            cfg := {}, decim := 2 }
     let s := { busy with riddle := { busy.riddle with sieves := (List.range 64).map fun i => if i = 63 then { ready := [f] } else {} } }
     s.arraysRun = true ∧ (s.sieve (63 : Fin 64)).ready = f :: [] ∧ (63 : Fin 64).val < s.riddle.sieves.length) ∧
    live.xa.computing = none ∧ live.xa.drain = none ∧ live.xa.tieBreaks = [] ∧ live.xa.replays = [] ∧ live.beams.forming = none ∧
    (live.sieve (63 : Fin 64)).ready = [] := by
  and_intros <;> decide +kernel

theorem test_w_RmwPassesCommit :
    (passing (some (pass0 0))).rmw.pass = some (pass0 0) ∧
    (busy.arraysRun = true ∧ busy.rmw.pass = none ∧ busy.xa.staging.find? (·.add) = none) ∧
    (let s := passing none
     s.arraysRun = true ∧ s.rmw.pass = none ∧ s.xa.staging.find? (·.add) = some half0 ∧ s.planOf half0.dwell.ver = some plan0 ∧
       integAt s.rmw.eras half0.dwell.sweep = some (0, 0, {}) ∧ (s.chanDesc half0.dwell.chan).fresh = true ∧
       (s.chanDesc half0.dwell.chan).start = some 0 ∧ s.harvestRoom [] = true) ∧
    (let k : Chunk := { pos := 0 }
     let ps : Pass := { dwell := dwell0, flight := [k] }
     let s := passing (some ps)
     s.arraysRun = true ∧ s.rmw.pass = some ps ∧ s.planOf ps.dwell.ver = some plan0 ∧ ps.flight.find? (·.pos = 0) = some k ∧ k.old = none ∧
       (s.chanDesc ps.dwell.chan).fresh = true) ∧
    (∀ n < 6, let k : Chunk := { pos := 0, old := some [], queued := true, fails := n }
     let s := passing (some (pass0 n))
     s.arraysRun = true ∧ s.rmw.pass = some (pass0 n) ∧ s.planOf (pass0 n).dwell.ver = some plan0 ∧ s.staged (pass0 n).dwell = some half0 ∧
       (pass0 n).flight.find? (·.pos = 0) = some k ∧ half0.pairs.find? (·.pos = 0) = some pair0 ∧ k.old = some [] ∧ k.queued = true ∧ k.fails = n) ∧
    (let x := { half0 with add := false }
     let s := { slots .free { busy.xa with staging := [x] } with ingest := busy.ingest }
     s.arraysRun = true ∧ s.rmw.pass = none ∧ s.xa.staging = [x] ∧ x.add = false ∧ x.drained = true ∧ x.pairs.all (·.ready) = true ∧
       s.planOf x.dwell.ver = some plan0 ∧ s.commitRoom = true ∧ s.slotOf x.dwell = none) ∧
    (let ps := { pass0 0 with committed := [0] }
     let s := { passing (some ps) with ingest := busy.ingest }
     s.arraysRun = true ∧ s.rmw.pass = some ps ∧ s.planOf ps.dwell.ver = some plan0 ∧ s.staged ps.dwell = some half0 ∧
       half0.pairs.length ≤ ps.committed.length ∧ ps.harvest = none ∧ s.commitRoom = true ∧ s.slotOf ps.dwell = none ∧ s.gk.commitWait = false ∧
       ps.dwell.chan < s.rmw.desc.length) ∧
    (let s := { busy with rmw := { busy.rmw with flushLeft := [0, 1], flushPlan := some plan0, stopAt := some 9, desc := [{}, {}] } }
     s.arraysRun = true ∧ s.rmw.pass = none ∧ s.xa.staging = [] ∧ s.rmw.flushLeft = 0 :: [1] ∧ [1] ≠ [] ∧ s.rmw.flushPlan = some plan0 ∧
       s.rmw.stopAt = some 9 ∧ 0 < s.rmw.desc.length ∧ s.classServed 3 = false ∧ s.rmw.flush = {}) ∧
    (let k : Chunk := { pos := 0 }
     let ps : Pass := { dwell := dwell0, flight := [k] }
     let s := { passing (some ps) with rmw := { (passing (some ps)).rmw with desc := [{ start := some 0, fresh := false }, {}] } }
     s.rmw.pass = some ps ∧ ps.flight.find? (·.pos = 0) = some k ∧ k.old = none ∧ (s.chanDesc ps.dwell.chan).fresh = false ∧ s.mem.poison = []) ∧
    (let s := passing (some (pass0 0))
     let u := tryQueue plan0 s
     u.rmw.pass = some (pass0 0) ∧ u.staged dwell0 = some half0) ∧
    live.rmw.pass = none ∧ live.rmw.flushLeft = [] := by
  and_intros <;> decide +kernel


theorem test_w_UnitsFailAndAreReplaced :
    live.canFault 1359 = true ∧
    CellFaultCause.ecc ≠ .routine ∧
    (busy.canFault 1 = true ∧ (busy.plan.active.isSome = true ∨ busy.plan.pendingPlan.isSome = true) ∧ busy.xa.routineBad.contains 1 = false) ∧
    (let s := slots .computing { busy.xa with computing := some dwell0 }
     s.canFault 1 = true ∧ s.plan.active = some plan0 ∧ s.xa.computing.isSome = true ∧ plan0.cellMap.contains 1 = true) ∧
    (live.xa.drain = none ∧ live.xa.withheld = [] ∧ live.spareOf (bedOf 1359) ≠ some 1359 ∧ live.plan.active = none ∧ live.cells.retired.contains 1359 = false) ∧
    (busy.dieRuns = true ∧ busy.plan.active = some plan0 ∧ busy.cells.rotDue = none ∧ busy.sup.rotationPeriod ≠ 0) ∧
    (live.dieRuns = true ∧ live.cells.powered.getLsbD (9 : Fin 10) = true ∧ live.cells.sparePhaseIn.getLsbD (9 : Fin 10) = false) ∧
    (let s := { busy with cells := { busy.cells with sparePhaseIn := 0x200 } }
     s.dieRuns = true ∧ s.cells.powered.getLsbD (9 : Fin 10) = true ∧ s.cells.sparePhaseIn.getLsbD (9 : Fin 10) = true ∧ s.plan.active.isSome = true) ∧
    live.cells.stewardFault.getLsbD (9 : Fin 10) = false ∧
    (24 < 25 ∧ live.cells.marginNext = [] ∧ live.cells.margin.getD 9 0 < 8) ∧
    (live.cells.loamCopy = [] ∧ live.cells.loamRemap = [] ∧ live.cells.loamSpareUsed = 0) ∧
    ({ live with cells := { live.cells with loamCopy := [(15, 255)] } } : State).cells.loamCopy.find? (·.1 = (15 : Fin 16).val) = some (15, 255) ∧
    (let s := { spared with xa := busy.xa }
     (busy.plan.pendingPlan = none ∧ live.plan.pendingPlan = none ∧ live.plan.active = none) ∧ (s.spareOf (bedOf 1)).isSome = true ∧ s.spareOf (bedOf 1) ≠ some 1 ∧
       s.graftingIn (bedOf 1) = false ∧ plan0.cellMap.findIdx? (· = 1) = some 1 ∧ s.spareOf (bedOf 16) = some 16) ∧
    (let s := slots .computing { busy.xa with computing := some dwell0 }
     s.cellWorks 1 = true ∧ s.cellWorks 1359 = false) ∧
    (State.reset.canFault 5 = false ∧ State.reset.dieRuns = false) ∧
    ({ plan0 with version := 0x100000002 }.provisional = false) ∧
    (live.cells.marginMode = false ∧ 9 < 10 ∧ live.spareOf (bedOf 5) ≠ some 5 ∧ live.cells.retired.contains 5 = false ∧ live.xa.faulted.contains 5 = false) ∧
    (let s := { live with cells := { live.cells with marginMode := true, margin := setAt 0 (fun _ => 8) live.cells.margin } }
     s.cells.marginMode = true ∧ s.plan.active = none ∧ s.cells.marginNext = [] ∧ s.cells.margin.getD 0 0 = 8) ∧
    (255 < 256 ∧ (List.range 16).Nodup ∧ 16 ≤ (List.range 16).length) ∧
    ({ live with cells := { live.cells with loamSpareUsed := 0x8000 } } : State).cells.loamSpareUsed.getLsbD ((255 : Fin 256).val / 16) = true ∧
    ((live.sieve 63).bank = false ∧ 63 < live.riddle.sieves.length) := by
  and_intros <;> decide +kernel

theorem test_w_TheLeaseMovesBetweenTheCores :
    (live.dieRuns = true ∧ live.leaseHeld = true) ∧
    ({ live with sup := { live.sup with renewedAt := 5000 } } : State).passed 5000 200000 = false ∧
    (live.core (1 - live.leaseCore) = .standby ∧ live.leaseTerm + 1 < 2 ^ 24) ∧
    (let s := { live with sup := { live.sup with core1 := .boot } }
     s.dieRuns = true ∧ s.leaseHeld = true ∧ s.core (1 - s.leaseCore) ≠ .standby ∧ s.leaseTerm < 2 ^ 24) ∧
    (let s := { live with sup := { live.sup with lease := 0x100, leaseN := ~~~ 0x100, core0 := .failed } }
     s.dieRuns = true ∧ 3 < s.boot.step ∧ s.leaseHeld = false ∧ s.sup.noHolderStep = 0 ∧ s.clk.held = false ∧
       (s.core (1 : Fin 2) = .selftest ∨ s.core (1 : Fin 2) = .standby)) ∧
    (let s := { live with sup := { live.sup with lease := 0x100, leaseN := ~~~ 0x100, noHolderStep := 1 } }
     s.dieRuns = true ∧ s.leaseHeld = false ∧ s.sup.noHolderStep = 1) ∧
    (live.clk.held = false ∧ 3 ≤ live.boot.step ∧ (live.core (1 : Fin 2) = .selftest ∨ live.core (1 : Fin 2) = .standby) ∧ live.leaseHeld = true ∧ live.boot.fwUpdate ≠ 1 ∧ live.selfFails (1 : Fin 2) < 2) ∧
    2 ≤ ({ live with sup := { live.sup with selfFails1 := 2 } } : State).selfFails (1 : Fin 2) ∧
    (let s := { live with sup := { live.sup with lease := 0x203, leaseN := ~~~ 0x203, cfg := 2, core0 := .standby, core1 := .active } }
     s.dieRuns = true ∧ s.sup.cfg.getLsbD 1 = true ∧ s.sup.preferredRetired = false ∧ s.leaseHeld = true ∧ s.leaseCore ≠ s.preferred ∧
       s.core s.preferred = .standby ∧ s.boot.fwUpdate ≠ 1 ∧ s.plan.active = none) ∧
    (let s := { busy with sup := { live.sup with lease := 0x203, leaseN := ~~~ 0x203, cfg := 2, core0 := .standby, core1 := .active } }
     s.dieRuns = true ∧ s.sup.cfg.getLsbD 1 = true ∧ s.sup.preferredRetired = false ∧ s.leaseHeld = true ∧ s.leaseCore ≠ s.preferred ∧
       s.core s.preferred = .standby ∧ s.boot.fwUpdate ≠ 1 ∧ s.plan.active.isSome = true) ∧
    (let s := { live with sup := { live.sup with lease := 0x100, leaseN := ~~~ 0x100, core0 := .selftest } }
     3 ≤ s.boot.step ∧ s.core (0 : Fin 2) = .selftest ∧ s.leaseHeld = false ∧ s.boot.fwUpdate ≠ 1) ∧
    State.reset.dieRuns = false ∧ live.leaseCore = live.preferred := by
  and_intros <;> decide +kernel

/-- A member that is not the caller; mesh lane 0 is up. -/
def member : State :=
  { pair with
    plan := { live.plan with active := some { plan0 with roles := 0x27 } }
    mesh := { pair.mesh with caller := false, lease := callerWord 1 3, leaseN := ~~~ callerWord 1 3, leaseAt := 5000 }
    lanes := { live.lanes with lane := (List.range 128).map fun l => if l < 8 then { fj := true, state := .lock, meshUp := true } else {} } }

/-- The same with a lapsed lease and a backoff. -/
def parted : State :=
  { member with mesh := { member.mesh with partitioned := true, lease := callerWord 0x3FF 3, leaseN := ~~~ callerWord 0x3FF 3, backoff := some 5000 } }

theorem test_w_TheCallerRoleMoves :
    (member.laneRuns = true ∧ member.boot.system ≠ 0 ∧ member.mesh.founding = false) ∧
    (member.mesh.caller = false ∧ member.mesh.partitioned = false ∧ leaseHolder member.mesh.lease ≠ 0x3FF) ∧
    (parted.tamzarServes = true ∧ parted.mesh.backoff = some 5000 ∧ parted.mesh.partitioned = true ∧ parted.mesh.claiming = none ∧
      (parted.advanceTo 5000).qualifies (parted.advanceTo 5000).now 250000 = true) ∧
    (let s := { parted with mesh := { parted.mesh with heard := [], voters := [{ index := 1, birth := 0 }, { index := 0, birth := parted.birth }] } }
     s.tamzarServes = true ∧ s.mesh.backoff = some 5000 ∧ s.mesh.partitioned = true ∧ s.mesh.claiming = none ∧
       (s.advanceTo 5000).qualifies (s.advanceTo 5000).now 250000 = false) ∧
    (let s := { parted with mesh := { parted.mesh with claiming := some 5000 } }
     s.tamzarServes = true ∧ s.mesh.claiming = some 5000 ∧ callerTerm s.mesh.lease + 1 < 2 ^ 22) ∧
    (let s := { pair with mesh := { pair.mesh with heard := [], voters := [{ index := 1, birth := 0 }, { index := 0, birth := pair.birth }] } }
     s.mesh.caller = true ∧ s.boot.system = 2 ∧ s.tamzarServes = true ∧ s.qualifies s.now 150000 = false) ∧
    (member.fjOpen 7 = true ∧ member.role 7 = 3 ∧ member.laneUp 7 = true) ∧
    ({ member with boot := { member.boot with system := 0 } } : State).boot.system = 0 ∧
    (member.boot.system = 2 ∧ 5 ≠ 0x3FF ∧ 5 ≠ member.mesh.index.toNat ∧ beat.caller = false ∧
      member.mesh.founding = false) ∧
    leaseHolder (callerWord 5 4) ≠ member.mesh.index.toNat ∧
    { beat with leaseN := 0 }.leaseN ≠ ~~~ beat.lease ∧
    (pair.mesh.system.find? (·.index = (1 : BitVec 10).toNat) = some { index := 1, device := [] } ∧ pair.tiles = true ∧ pair.tamzarServes = true ∧
      pair.mesh.partitioned = false ∧ pair.mesh.lost.contains (1 : BitVec 10).toNat = false ∧ (1 : BitVec 10).toNat ≠ pair.mesh.index.toNat) ∧
    (let s := { live with mesh := { live.mesh with hbAt := 0 }, time := { live.time with frc := 50000 } }
     s.laneRuns = true ∧ s.mesh.founding = false ∧ s.passed s.mesh.hbAt 50000 = true ∧ s.mesh.waiting = []) ∧
    (let s := { member with
       lanes := { member.lanes with lane := (List.range 128).map fun l => if l = 7 then { fj := true, state := .lock, meshUp := true } else {} }
       mesh := { member.mesh with hbAt := 0 }, time := { live.time with frc := 50000 } }
     s.laneRuns = true ∧ s.mesh.founding = false ∧ s.passed s.mesh.hbAt 50000 = true ∧ s.mesh.segment < 32 ∧ s.upLanes = [7] ∧ s.txOpen 7 = true ∧
       s.mesh.waiting = [] ∧ (s.lane 7).txFree ≤ s.now) ∧
    ((5 ≠ member.mesh.index.toNat) ∧ member.mesh.seen.contains (Claims.beatFrame 7 5 9 beat).key = false) ∧
    (let s := { member with mesh := { member.mesh with seen := [(Claims.beatFrame 7 5 9 beat).key] } }
     s.mesh.seen.contains (Claims.beatFrame 7 5 9 beat).key = true) ∧
    (let b := { beat with lease := callerWord 5 4, leaseN := ~~~ callerWord 5 4 }
     b.leaseN = ~~~ b.lease ∧ leaseHolder b.lease = 5 ∧ member.leaseWins b.lease member.leaseSent = true) ∧
    (let s := { member with plan := { member.plan with active := some plan0 } }
     s.fjOpen 7 = true ∧ s.role 7 ≠ 3) := by
  and_intros <;> decide +kernel

/-- A packet of ECHO to device 0 as a KCP frame carries it. -/
def echoBytes : List Byte :=
  let k := { pk 0x0001 [1, 2, 3, 4] .mesh with route := 0x400 }
  kWire 0x0001 { k with crc := kCrc 0x0001 k }

/-- A heartbeat frame's header and body. -/
def header (len : Nat) : List Byte := [0, 0x11, 1, 0] ++ le2 len ++ le2 0 ++ le2 1 ++ le2 7 ++ zeros 4

theorem test_w_MeshFramesAreTaken :
    frameChecks [] [] 0 false = false ∧
    frameChecks (header 4) (zeros 4) (BitVec.ofNat 32 (crc32c ((header 4).drop 1 ++ zeros 4))) false = true ∧
    member.fjOpen 7 = true ∧
    member.role 7 = 3 ∧
    member.laneUp 7 = true ∧
    (let s := { member with plan := { member.plan with active := some plan0 } }
     s.fjOpen 7 = true ∧ s.role 7 ≠ 3) ∧
    (let s := { member with boot := { member.boot with system := 0 } }
     s.fjOpen 7 = true ∧ s.role 7 = 3 ∧ s.laneUp 7 = true ∧ (5 : BitVec 12).toNat / 1024 = 0 ∧ s.boot.system = 0) ∧
    (let d : BitVec 12 := 0x400
     d.toNat / 1024 = 1 ∧ member.boot.system = 2 ∧ d.toNat % 1024 = member.mesh.index.toNat ∧ kScope (kParse .mesh [] echoBytes).2 = 1 ∧
       kTarget (kParse .mesh [] echoBytes).2 = member.mesh.index.toNat) ∧
    replyOf [] = none ∧
    replyOf (replyBytes { seq := 5 }) = some { seq := 5 } ∧
    (1 ≠ member.mesh.index.toNat) ∧
    ({ member with boot := { member.boot with system := 1 } } : State).boot.system ≠ 2 ∧
    (let b : TrigBody := { group := 0, kind := 0, sTrig := 9, fraction := 0, timeNs := 0, timeFrac := 0 }
     member.mesh.seen.contains (Claims.trigFrame 7 1 5 b).key = false) ∧
    (let s := { member with mesh := { member.mesh with caller := true } }
     s.fjOpen 7 = true ∧ s.role 7 = 3 ∧ s.laneUp 7 = true ∧ s.boot.system = 2 ∧ s.tamzarServes = true ∧ s.mesh.caller = true) ∧
    (let b : TimeBody := { exch := 4, notSynced := false, t1 := 0, t4 := 0, corrReq := 0, corrResp := 0 }
     let s := { member with time := { member.time with exch := 4, exchFrc := 5000 } }
     b.exch ≠ member.time.exch ∧ s.fjOpen 7 = true ∧ s.role 7 = 3 ∧ s.laneUp 7 = true ∧ b.exch = s.time.exch ∧
       s.passed s.time.exchFrc 10000002 = false ∧ b.notSynced = false) ∧
    (member.laneRuns = true ∧ member.boot.system ≠ 0 ∧ member.mesh.caller = false) ∧
    (fieldAt 1 1 ([0, 0x02] ++ zeros 18) = 0x02 ∧ busy.role 8 ≠ 2 ∧ ({ busy with plan := { busy.plan with active := some { plan0 with roles := 0x26 } } } : State).role 7 = 2) ∧
    (fieldAt 1 1 ([0, 0x17, 1, 15] ++ zeros 16) = 0x17 ∧ fieldAt 3 1 ([0, 0x17, 1, 15] ++ zeros 16) = 15) ∧
    (let d : BitVec 12 := 0x400
     member.mesh.seen.contains (Claims.packetFrame 7 5 9 d echoBytes).key = false ∧ (0x405 : BitVec 12).toNat % 1024 ≠ member.mesh.index.toNat) ∧
    (let s := { member with mesh := { member.mesh with routes := [(5, 3)] } }
     (Claims.recv 7 s).routeLane 5 = some 3) ∧
    (let s := { member with mesh := { member.mesh with lead := true } }
     s.mesh.caller = false ∧ s.mesh.lead = true ∧ s.tamzarServes = true) ∧
    (let b : TimeBody := { exch := 4, notSynced := false, t1 := 0, t4 := 0, corrReq := 0, corrResp := 0 }
     let s := { member with time := { member.time with exch := 4, exchFrc := 5000, sources := [2], meshSilent := false, source := 2, state := .lock } }
     b.exch = s.time.exch ∧ s.passed s.time.exchFrc 10000002 = false ∧ s.time.sources = [2] ∧ s.time.source = 2 ∧ s.mesh.notSyncedLead = false ∧
       s.time.state ≠ .unset ∧ s.mesh.caller = false) ∧
    live.fjOpen 7 = false := by
  and_intros <;> decide +kernel


/-- The device with lane 127 in some condition. -/
def onLane127 (x : Lane) : State := { busy with lanes := { busy.lanes with lane := (List.range 128).map fun l => if l = 127 then x else {} } }

theorem test_w_LanesChangeState :
    (let s := onLane127 { state := .train }
     s.laneRuns = true ∧ (s.lane 127).state = .train) ∧
    (let s := onLane127 { state := .align }
     (s.lane 127).state = .align ∧ (s.lane 127).lost = false ∧ (s.lane 127).partnerDozes = false ∧ (s.lane 127).recentExits = [] ∧ 127 < s.lanes.lane.length) ∧
    (let s := onLane127 { state := .lock }
     s.laneRuns = true ∧ (s.lane 127).state = .lock ∧ (s.lane 127).partnerDozes = false ∧ 127 < s.lanes.lane.length ∧ 0 < 1) ∧
    (let s := onLane127 { state := .lock, partnerDozes := true }
     s.laneRuns = true ∧ (s.lane 127).state = .lock ∧ (s.lane 127).partnerDozes = true) ∧
    (let s := onLane127 { state := .lock, lost := true }
     s.laneRuns = true ∧ (s.lane 127).state = .lock ∧ (s.lane 127).lost = true) ∧
    (let s := onLane127 { state := .train, partnerDozes := true }
     (s.lane 127).state = .train ∧ (s.lane 127).partnerDozes = true) ∧
    (let s := onLane127 { state := .lock, recentExits := List.replicate 5 5000 }
     5 ≤ ((s.lane 127).recentExits.filter fun f => !(s.passed f (10 ^ 9))).length ∧ (s.lane 127).lost = false) ∧
    (let s := onLane127 { state := .lock, recentExits := List.replicate 4 5000 }
     (s.lane 127).state = .lock ∧ ((s.lane 127).recentExits.filter fun f => !(s.passed f (10 ^ 9))).length < 5) ∧
    (busy.role 8 ≠ 0 ∧ busy.plan.active.isSome = true ∧ busy.plan.computing = none ∧ busy.plan.pendingPlan = none) := by
  and_intros <;> decide +kernel

theorem test_w_LanesSendAndTakeFrames :
    (member.fjOpen 7 = true ∧ 7 < member.lanes.lane.length ∧ live.fjOpen 7 = false) ∧
    (member.laneRuns = true ∧ (member.lane 7).fj = true ∧ member.txOpen 7 = true ∧ member.mesh.waiting = [] ∧ (member.lane 7).txFree ≤ member.now) ∧
    (let s := onLane127 { fj := true, state := .lock, txFree := 5001, linkSentAt := 0 }
     let s := { s with time := { s.time with frc := 100000 }, lanes := (s.onLane 127 fun x => { x with txFree := 100001 }).lanes }
     s.laneRuns = true ∧ (s.lane 127).fj = true ∧ s.txOpen 127 = true ∧ s.passed (s.lane 127).linkSentAt 100000 = true ∧ s.now < (s.lane 127).txFree) ∧
    (let s := onLane127 { fj := true, linkAt := some 5000 }
     s.laneRuns = true ∧ (s.lane 127).linkAt = some 5000) ∧
    (let s : State := { busy with lanes := { busy.lanes with
       qHarvest := [⟨3, [1, 2, 3]⟩]
       lane := (List.range 128).map fun l => if l = 16 then { state := .lock, destHarvest := { enable := true } } else {} } }
     s.laneRuns = true ∧ s.gk.stopped = false ∧ s.nextTaker = some 16 ∧ s.nextClass 16 = some 3 ∧ s.queue 3 = ⟨3, [1, 2, 3]⟩ :: [] ∧
       ((takeAll s).lane 16).held = some ⟨3, [1, 2, 3]⟩ ∧ ((takeAll s).lane 15).held = none) ∧
    (let s := onLane127 { state := .lock, ipv4 := [10, 0, 0, 1], ipv6 := some (zeros 16) }
     s.laneRuns = true ∧ (s.lane 127).fj = false ∧ (s.lane 127).state = .lock ∧ (s.lane 127).ipv4 ≠ zeros 4 ∧ (s.lane 127).ipv6 = some (zeros 16) ∧
       s.txOpen 127 = true ∧ ((s.lane 127).answers.filter fun f => !(s.passed f (10 ^ 9))).length < 1000 ∧ (s.lane 127).owns false [10, 0, 0, 2] = false) ∧
    (let s := onLane127 { answers := List.replicate 1000 5000 }
     1000 ≤ ((s.lane 127).answers.filter fun t => !(s.passed t (10 ^ 9))).length) ∧
    (State.reset.laneRuns = false ∧ (live.lane 127).linkAt = none) := by
  and_intros <;> decide +kernel

/-- An Announce of a master. -/
def ann (domain : Nat) : PtpAnnounce :=
  { id := { clock := 9, port := 1 }, domain := domain, priority1 := 128, clockClass := 6, accuracy := 0x21, variance := 0, priority2 := 128, gm := 9
    steps := 0, logInterval := -3, utcOffset := 37, utcValid := true }

/-- Lane 127 is a PTP port. -/
def ptp : State :=
  { onLane127 { state := .lock, ptpEn := true } with
    time := { live.time with ptpLanes := [127], ptpMaster := some { clock := 9, port := 1 }, ptpExch := [{ lane := 127, t3 := 1, complete := true }]
                             masters := [{ lane := 127, ann := ann 0, heard := [5000], qualified := true }] } }

theorem test_w_SourcesAreFollowed :
    (ptp.laneRuns = true ∧ ptp.ptpPort 127 = true ∧ (ann 1).domain ≠ ptp.time.domain ∧ (ann 0).domain = ptp.time.domain ∧ -3 ≤ (ann 0).logInterval ∧ (ann 0).logInterval ≤ 4) ∧
    (let x : PtpMaster := { lane := 127, ann := ann 0, heard := [5000], qualified := true }
     ptp.time.masters = [x] ∧ x.ann.id = (ann 0).id ∧ x.lane = 127 ∧ x.heard = [5000] ∧ ptp.passed 5000 (4 * intervalNs (ann 0).logInterval) = false) ∧
    (ptp.txOpen 127 = true ∧ ptp.time.ptpMaster.isSome = true) ∧
    (let x : PtpExch := { lane := 127, t3 := 1, complete := true }
     ptp.time.ptpMaster = some { clock := 9, port := 1 } ∧ ptp.time.ptpExch = [x] ∧ x.lane = 127 ∧ x.complete = true) ∧
    (ptp.clk.held = false ∧ (ptp.time.masters.any fun m => m.ann.id = { clock := 9, port := 1 } && m.lane = 127) = true) ∧
    (let s := { live with time := { live.time with sources := [3], state := .lock } }
     s.bestSource = 0 ∧ s.time.state = .lock) ∧
    (let s := { live with time := { live.time with state := .hold } }
     s.clk.held = false ∧ (s.time.state = .hold ∨ s.time.state = .refuse)) ∧
    (let s := { ptp with time := { ptp.time with ptpExch := [{ lane := 127, t3 := 1 }] } }
     let x : PtpExch := { lane := 127, t3 := 1 }
     s.time.ptpExch = [x] ∧ x.lane = 127 ∧ x.complete = false) ∧
    ((1 : Nat) ≠ ptp.time.domain ∧ live.time.ptpExch = [] ∧ live.ptpPort 127 = false ∧ live.time.ptpMaster = none ∧
      (live.time.masters.any fun m => m.ann.id = { clock := 9, port := 1 } && m.lane = 127) = false) := by
  and_intros <;> decide +kernel

theorem test_w_MeasurementsMoveTime :
    (live.time.frcOn = true ∧ live.now < 5001 ∧ 5001 < 2 ^ 64) ∧
    live.time.source ≠ 2 ∧
    live.time.state = .unset ∧
    (let s := { live with time := { live.time with state := .lock } }
     s.time.state = .lock ∧ s.time.stepNext = false ∧ (s.jumpThr16 < 65536001 ∨ 65536001 < -s.jumpThr16) ∧ ¬ (s.jumpThr16 < 65536000 ∨ 65536000 < -s.jumpThr16)) ∧
    (let s := { live with time := { live.time with state := .unsynced } }
     s.time.state = .unsynced ∧ s.time.stepNext = false ∧ (s.jumpThr16 < -65536001 ∨ -65536001 < -s.jumpThr16)) ∧
    (let s := { live with time := { live.time with state := .hold } }
     s.time.state = .hold ∧ s.time.stepNext = false ∧ ¬ (s.jumpThr16 < -65536000 ∨ -65536000 < -s.jumpThr16)) ∧
    (let s := { live with time := { live.time with state := .acquire, goodRun := 7 } }
     s.time.state = .acquire ∧ s.time.stepNext = false ∧ ¬ (s.jumpThr16 < (s.time.lockThr * 2 ^ 16 : Int) ∨ (s.time.lockThr * 2 ^ 16 : Int) < -s.jumpThr16) ∧
       7 ≤ s.time.goodRun ∧ -(s.time.lockThr * 2 ^ 16 : Int) ≤ (s.time.lockThr * 2 ^ 16 : Int)) := by
  and_intros <;> decide +kernel

theorem test_w_EdgesAreTimed :
    (live.clk.held = false ∧ live.dieRuns = true ∧ 2 ≤ 2 ∧ 1 < 2) ∧
    (live.cf.trigLevel.getLsbD (7 : Fin 8) ≠ true ∧ edgeCounts ((live.edgesAt 6000).toNat / 4 ^ ((7 : Fin 8).val + 1) % 4) true = true) ∧
    (live.cf.trigLevel.getLsbD (7 : Fin 8) = false ∧ edgeCounts ((live.edgesAt 6000).toNat / 4 ^ ((7 : Fin 8).val + 1) % 4) false = false) ∧
    edgeCounts ((live.edgesAt 6000).toNat % 4) false = false ∧
    (let s := { live with cf := { live.cf with lastTdc := some 1000 } }
     s.dieRuns = true ∧ edgeCounts ((s.edgesAt (6119 / 512)).toNat % 4) true = true ∧ s.cf.lastTdc = some 1000 ∧ 6119 < 1000 + 5120 ∧ 1000 + 5120 ≤ 6120) ∧
    (let s := { live with time := { live.time with epochSet := true, pNum := 2, pDen := 1 }
                          riddle := { live.riddle with sieves := (List.range 64).map fun _ => { cfg := { syncEn := true } } } }
     let x := s.sampleAtOrAfter (s.timeAtFrc 6000 - 4 * 2 ^ 16)
     s.time.epochSet = true ∧ 63 < s.riddle.sieves.length ∧ ((s.sieve 63).cfgAt x).syncEn = true) ∧
    live.cf.chFault = false ∧
    ({ live with cf := { live.cf with chFault := true } } : State).cf.chFault = true ∧
    State.reset.dieRuns = false := by
  and_intros <;> decide +kernel

/-- The device with channel 15 in some condition. -/
def onChan15 (x : MemChan) : State := { live with mem := { live.mem with chan := (List.range 16).map fun c => if c = 15 then x else {} } }

theorem test_w_MemoryControllersKeepDram :
    (live.dramUp = true ∧ live.mem.chan.length = 16 ∧ live.plan.active = none ∧ live.dieRuns = true) ∧
    (live.portBusy (15 : Fin 16) = false ∧ (live.memChan 15).debt + 1 ≤ live.sup.refreshPostpone ∧ (live.memChan 15).due = 0) ∧
    (let s := onChan15 { debt := 1, due := 1, dqsPend := [(5, 33)] }
     s.dramUp = true ∧ s.mem.chan.length = 16 ∧ 0 < (s.memChan 15).debt ∧ (true = true → 0 < (s.memChan 15).due) ∧ s.portBusy (15 : Fin 16) = false ∧
       (s.memChan 15).dqsPend = [(5, 33)] ∧ (s.memChan 15).dqsShift = []) ∧
    (live.memChan 15).debt = 0 ∧
    ([2] : List Nat).any (fun r => decide (1 < r)) = true ∧ ([1] : List Nat).any (fun r => decide (1 < r)) = (live.memChan 15).hot ∧
    live.mem.chan.any (·.hot) = false ∧
    (let s := onChan15 { hot := true }
     s.dramUp = true ∧ s.mem.chan.length = 16 ∧ (s.memChan 15).hot = true ∧ ([1] : List Nat).any (fun r => decide (1 < r)) = false) ∧
    ((5 : Nat) < 6 ∧ (32 : Int) < 33) ∧
    (-32 : Int) ≤ -32 ∧ (32 : Int) ≤ 32 ∧
    live.mem.poison.contains (unitOf (scrubAddr (15 : Fin 16) (live.memChan 15).scrubUnit)) = false ∧ (live.memChan 15).scrubUnit + 1 < 2 ^ 27 ∧
    2 ^ 27 ≤ ((onChan15 { scrubUnit := 2 ^ 27 - 1 }).memChan 15).scrubUnit + 1 ∧
    (let s := onChan15 { repairAsked := [7] }
     s.dramUp = true ∧ s.mem.chan.length = 16 ∧ (s.memChan 15).repairAsked.contains 7 = true ∧ (s.memChan 15).nextSpare (bankOf 7) = some ((0xFE00 + 0) * 16 + 7) ∧
       (s.memChan 15).remaps.length < 256 ∧ (127 < 128 ∧ 127 ∈ [127])) ∧
    (let s := onChan15 { repairAsked := [7], spareNext := [(7, 511)] }
     s.dramUp = true ∧ s.mem.chan.length = 16 ∧ (s.memChan 15).repairAsked.contains 7 = true ∧ (s.memChan 15).nextSpare (bankOf 7) = none) ∧
    (live.memChan 15).repairAsked.contains 7 = false ∧
    (let s := { live with mem := { live.mem with training := 0x8000 } }
     s.dramUp = true ∧ s.mem.training ≠ 0 ∧ s.mem.chan.length = 16 ∧ s.mem.training.getLsbD 15 = true) ∧
    (live.mem.training = 0 ∧ State.reset.dramUp = false ∧ State.reset.dieRuns = false ∧ (5 : Nat) ≤ 5) := by
  and_intros <;> decide +kernel

theorem test_w_AlmanacAndReplayGoOn :
    (let r : AlmRec := { rn := 0, frc := 9, type := 0x10, src := 3 }
     let s := { live with alm := { live.alm with waiting := [r] } }
     s.clk.held = false ∧ s.alm.waiting = [r] ∧ s.alm.queue = [] ∧ s.alm.ckptLeft = [] ∧ s.alm.ckptCrc = none ∧ r.size ≤ 2 ^ 20) ∧
    (let s := slots .computing { busy.xa with computing := some dwell0 }
     s.tamzarServes = true ∧ s.ckptBusy = false ∧ s.ckptDue = true ∧ s.sweepStart = some (plan0, 0) ∧ s.alm.ckptSweep ≠ some 0) ∧
    (let s := { live with alm := { live.alm with freezeAsked := true, freezeReplies := [(pk 0x0A02 [], true)] } }
     s.alm.freezeAsked = true ∧ s.alm.freezeReplies ≠ [] ∧ s.dramUp = true) ∧
    (let s := { live with rpl := { live.rpl with state := 3, plan := some plan0 } }
     s.tamzarServes = true ∧ (s.rpl.state = 2 ∨ s.rpl.state = 3) ∧ s.rpl.plan = some plan0 ∧ s.rpl.outbox = [] ∧
       versionAt s.image_.1 plan0 { ver := plan0.version, chan := plan0.order.getD s.rpl.chanPos 0, sweep := s.rpl.sweep } = plan0.version.toNat ∧
       s.rpl.sweep ≤ s.rpl.lastSample / plan0.req.T ∧ s.image_.1.all (fun r => r.type != 0x20) = true ∧ s.rpl.chanPos + 1 < plan0.order.length) ∧
    live.replaying = false ∧
    (let s := { live with rpl := { live.rpl with state := 3, plan := some plan0, input := true, sweep := 1, lastSample := 65535 } }
     s.rpl.lastSample / plan0.req.T < s.rpl.sweep) ∧
    (let s := { live with rpl := { live.rpl with state := 3, plan := some plan0, input := true } }
     let r : AlmRec := { rn := 3, frc := 0, type := 0x20, src := 1, body := le2 (plan0.sysChan (plan0.order.getD 0 0)) ++ zeros 6 }
     s.rpl.sweep ≤ s.rpl.lastSample / plan0.req.T ∧ s.rpl.input = true ∧ s.rpl.units = [] ∧ s.rpl.blocks = [] ∧
       [r].find? (fun r => r.type = 0x20 && (decide (fieldAt 0 2 r.body = plan0.sysChan (plan0.order.getD s.rpl.chanPos 0)) &&
         decide (fieldAt 4 4 r.body = s.rpl.sweep % 2 ^ 32))) = some r) ∧
    live.alm.waiting = [] ∧ live.alm.freezeAsked = false := by
  and_intros <;> decide +kernel

/-- A cue of INTEG_START at sweep 1. -/
def cue1 : CueEntry := CueEntry.sealed { id := 1, point := 65536, seq := 9, opcode := 0x0302, cls := .sweep, complement := 0 }

/-- The device with some cues in its table. -/
def cued (es : List CueEntry) : State := { busy with cues := { busy.cues with entries := es, packets := [(1, 0x0302, pk 0x0302 [])] } }

/-- The packet of a cue at a device time. -/
def cuePk (at_ : Nat) : KcpIn := { pk 0x0302 [] with flags := 1, executeAt := BitVec.ofNat 64 at_ }

theorem test_w_CuesAreHeldAndRun :
    (let s := { busy with time := { busy.time with synced := true, epochSet := true, pNum := 1000, pDen := 1 } }
     let c : Ctx := { path := .urg, code := 0x0302, k := cuePk (2 ^ 63 + 2 ^ 62 + 65536), par := [] }
     let c' := { c with cueId := s.cues.nextId }
     let pt : CuePoint := { point := 65536, isLocal := true }
     cuePoint .sweep c.k s = .inl pt ∧ statusRefused (opIntegStart.accept c' pt.point s).2.status = false ∧ s.cueFill < 512 ∧ pt.lateRun = false) ∧
    (let s := { cued (List.replicate 512 cue1) with time := { busy.time with synced := true } }
     let c : Ctx := { path := .urg, code := 0x0302, k := cuePk (2 ^ 63 + 2 ^ 62 + 65536), par := [] }
     let c' := { c with cueId := s.cues.nextId }
     let pt : CuePoint := { point := 65536, isLocal := true }
     cuePoint .sweep c.k s = .inl pt ∧ statusRefused (opIntegStart.accept c' pt.point s).2.status = false ∧ 512 ≤ s.cueFill) ∧
    ((cuePk 5).executeAt.getLsbD 63 = false ∧ live.time.synced = false) ∧
    (let s := { live with time := { live.time with synced := true } }
     s.time.synced = true ∧ s.time16 ≤ ((cuePk 10000).executeAt.toNat : Int) * 2 ^ 16 ∧ ((cuePk 9999).executeAt.toNat : Int) * 2 ^ 16 < s.time16 ∧
       kLateOk (cuePk 9999) = false) ∧
    (let s := { cued [cue1] with ingest := { busy.ingest with expected := some { dwell0 with sweep := 1 } } }
     s.cueEntry false 9 = some cue1 ∧ s.dieRuns = true ∧ cue1.cls ≠ .time ∧ cue1.point.toNat / s.planT ≤ s.comingSweep ∧ cue1.good = true ∧ cue1.tentative = false) ∧
    (let e := { cue1 with complement := 0 }
     let s := { cued [e] with ingest := { busy.ingest with expected := some { dwell0 with sweep := 1 } } }
     s.cueEntry false 9 = some e ∧ s.dieRuns = true ∧ e.cls ≠ .time ∧ e.point.toNat / s.planT ≤ s.comingSweep ∧ e.good = false) ∧
    (let s := { cued [cue1] with ingest := { busy.ingest with expected := some dwell0 } }
     s.cueEntry false 9 = some cue1 ∧ s.comingSweep < cue1.point.toNat / s.planT) ∧
    ((cued []).cueEntry true 9 = none ∧ (cued []).cues.hw.find? (fun x => x.seq = 9 && x.system == true) = none) ∧
    (let e := CueEntry.sealed { id := 1, point := 6000, seq := 9, opcode := 0x0302, cls := .time, complement := 0, isLocal := true }
     (cued [e]).cueEntry false 9 = some e ∧ e.cls = .time ∧ (cued [e]).tamzarServes = true ∧ e.good = true ∧ e.tentative = false) ∧
    (let s := { cued [] with cues := { (cued []).cues with hw := [cue1] }, xa := { busy.xa with lastStarted := some { dwell0 with sweep := 1 }, startedSweep := some 1 } }
     s.cueEntry false 9 = none ∧ s.cues.hw.find? (fun x => x.seq = 9 && x.system == false) = some cue1 ∧ s.cuesUpTo cue1 = [cue1]) ∧
    ((cued [cue1]).cues.entries.filter fun x => decide (x.id ≤ cue1.id) && x.point == cue1.point) = [cue1] ∧
    ((cued []).cues.packets.find? (·.1 = cue1.id) = some (1, 0x0302, pk 0x0302 []) ∧ (∃ op, opOf cue1.opcode = some op ∧
      (op.accept (cueCtx op (pk 0x0302 []) cue1.id) cue1.point.toNat (cued [])).2.status ≠ .badParam)) ∧
    (let e := { cue1 with opcode := 0x0301 }
     let s := { cued [] with cues := { (cued []).cues with packets := [(1, 0x0301, pk 0x0301 (le4 0 ++ [1, 0, 0, 0]))] } }
     s.cues.packets.find? (·.1 = e.id) = some (1, 0x0301, pk 0x0301 (le4 0 ++ [1, 0, 0, 0])) ∧ (∃ op, opOf e.opcode = some op ∧
      (op.accept (cueCtx op (pk 0x0301 (le4 0 ++ [1, 0, 0, 0])) e.id) e.point.toNat s).2.status = .badParam)) ∧
    (let c : SysCue := { seq := 9, path := .urg, sentAt := 5000, devs := [(0, none)] }
     let s := { cued [{ cue1 with system := true }] with cues := { (cued [{ cue1 with system := true }]).cues with system := [c] } }
     (s.cues.system.find? fun x => x.seq = 9 && !x.settled) = some c ∧ s.tamzarServes = true ∧ s.cueEntry true c.seq = some { cue1 with system := true }) ∧
    (live.cues.system.find? fun x => x.seq = 9 && !x.settled) = none := by
  and_intros
  all_goals first | decide +kernel | exact ⟨_, rfl, by decide +kernel⟩

theorem test_w_StepRunsTheFrontCommand :
    ({ live with pending := [.final, .cool] } : State).pending = .final :: [.cool] ∧
    live.pending = [] ∧
    State.reset.clk.held = true := by
  and_intros <;> decide +kernel

/-- A host series at a highest number, with a stored reply of number 5. -/
def used (h : W32) : State := { live with kcp := { live.kcp with host := { started := true, h := h, done := [(5, some { seq := 5 })] } } }

theorem test_w_DuplicatesAreAnsweredFromTheRecord :
    (let k := pk 0x0001 []
     earlyCheck opEcho.code (some opEcho) k = none ∧ kJournalOnly k = false ∧ opEcho.xo = false ∧ seqCase ((used 1028).series k.path) k.seq = .executed (some { seq := 5 })) ∧
    (let k := pk 0x0001 []
     let s := entered opEcho k live
     k.path ≠ .mesh ∧ (k.seq, none) ∈ (s.series k.path).done) ∧
    (let c : Ctx := { path := .urg, code := 1, k := pk 0x0001 [] .urg 4, par := [] }
     kNoReply c.k = true ∧ quietStatus ansOk.status = true ∧ c.path ≠ .mesh ∧ c.own = false) ∧
    (live.series .urg).started = false ∧
    (let x := (used 1028).series .urg
     x.started = true ∧ 1 ≤ (1029 - x.h).toNat ∧ (1029 - x.h).toNat ≤ 2 ^ 31 - 1 ∧ 1 ≤ (0x80000403 - x.h).toNat ∧ (0x80000403 - x.h).toNat ≤ 2 ^ 31 - 1) ∧
    (let x := (used 1029).series .urg
     x.started = true ∧ (x.h - 6).toNat ≤ 1023 ∧ x.done.find? (·.1 = 6) = none) ∧
    (let x := (used 1028).series .urg
     (x.h - 5).toNat ≤ 1023 ∧ x.done.find? (·.1 = 5) = some (5, some { seq := 5 })) ∧
    (let x := (used 1029).series .urg
     x.started = true ∧ 1023 < (x.h - 5).toNat ∧ (x.h - 5).toNat ≤ 2 ^ 31) ∧
    seqCase ((used 1029).series (pk 0x0001 []).path) (pk 0x0001 []).seq = .stale := by
  and_intros <;> decide +kernel

theorem test_w_PacketsAreCheckedInOrder :
    { pk 1 [] with magicVer := 0 }.magicVer ≠ 0xCA51 ∧
    (let k : KcpIn := { plen := 4068 }
     k.magicVer = 0xCA51 ∧ (4064 < k.plen.toNat ∨ k.plen.toNat % 4 ≠ 0)) ∧
    (let k : KcpIn := { plen := 3 }
     k.magicVer = 0xCA51 ∧ (4064 < k.plen.toNat ∨ k.plen.toNat % 4 ≠ 0)) ∧
    (let k : KcpIn := { plen := 4 }
     k.magicVer = 0xCA51 ∧ k.plen.toNat ≤ 4064 ∧ k.plen.toNat % 4 = 0 ∧ k.crc ≠ kCrc 1 k) ∧
    (let k : KcpIn := { opcodeN := 0 }
     let k := { k with crc := kCrc 1 k }
     k.magicVer = 0xCA51 ∧ k.plen.toNat ≤ 4064 ∧ k.plen.toNat % 4 = 0 ∧ k.crc = kCrc 1 k ∧ k.opcodeN ≠ ~~~ 1) ∧
    (let k := pk 0x0FFF []
     k.magicVer = 0xCA51 ∧ k.plen.toNat ≤ 4064 ∧ k.plen.toNat % 4 = 0 ∧ k.crc = kCrc 0x0FFF k ∧ k.opcodeN = ~~~ 0x0FFF) ∧
    (let k := pk 0x0001 [] .urg 32
     k.magicVer = 0xCA51 ∧ k.plen.toNat ≤ 4064 ∧ k.plen.toNat % 4 = 0 ∧ k.crc = kCrc opEcho.code k ∧ k.opcodeN = ~~~ opEcho.code ∧
       opEcho.allowed k.path = true ∧ 32 ≤ k.flags.toNat ∧ k.path ≠ .mesh ∧ pathRing k.path = some .urg ∧ earlyCheck opEcho.code (some opEcho) k = some (ansField 6)) ∧
    (let c : Ctx := { path := .urg, code := 0x0201, k := pk 0x0201 [], par := [] }
     c.path ≠ .mesh ∧ member.boot.system = 2 ∧ member.mesh.caller = false ∧ member.mesh.partitioned = false ∧
       (opPlanSubmit.sys = true ∨ kScope c.k ≠ 0)) ∧
    (let c : Ctx := { path := .urg, code := 0x0604, k := pk 0x0604 [] .urg 16, par := [] }
     parted.boot.system ≠ 1 ∧ parted.mesh.partitioned = true ∧ (opTimeStep.sys = true ∨ kScope c.k ≠ 0 ∨
       (opTimeStep.code = 0x0604 ∧ kRestep c.k = true))) ∧
    (let c : Ctx := { path := .mesh, code := 0x0001, k := pk 0x0001 [] .mesh, par := [] }
     c.path = .mesh ∧ kOrigin c.k ≠ leaseHolder member.mesh.lease) ∧
    (let k := pk opMemRead.code [] .smbus
     opMemRead.allowed k.path = false) ∧
    (let k := { pk 0x0001 [] with res0 := 1 }
     k.flags.toNat < 32 ∧ kRestep k = false ∧ k.res0 ≠ 0 ∧ headerFault opEcho k = some 18) ∧
    (let k := pk 0x0001 [] .urg 0 0x10000
     k.flags.toNat < 32 ∧ kRestep k = false ∧ k.res0 = 0 ∧ k.path ≠ .mesh ∧ (kOrigin k ≠ 0 ∨ (opEcho.never = true ∧ kScope k ≠ 0))) ∧
    (let k := pk opIntegCfg.code (zeros 4)
     opIntegCfg.allowed k.path = true ∧ headerFault opIntegCfg k = none ∧ opIntegCfg.buffered k.path = false ∧ opIntegCfg.form (kBody k) = false) ∧
    (let k := pk opIdent.code (zeros 68) .smbus
     opIdent.allowed k.path = true ∧ headerFault opIdent k = none ∧ k.path = .smbus ∧ 64 < k.plen.toNat) ∧
    (let k := pk opIdent.code [] .smbus
     opIdent.allowed k.path = true ∧ headerFault opIdent k = none ∧ opIdent.buffered k.path = false ∧ opIdent.form (kBody k) = true ∧ k.plen.toNat ≤ 64) ∧
    (let k := pk 0x0001 []
     earlyCheck opEcho.code (some opEcho) k = none ∧ kJournalOnly k = false ∧ opEcho.xo = false ∧ seqCase (live.series k.path) k.seq = .first) ∧
    (let c : Ctx := { path := .urg, code := 0x0201, k := pk 0x0201 [], par := [] }
     c.path ≠ .mesh ∧ ({ live with boot := { live.boot with system := 1 } } : State).boot.system = 1 ∧ (opPlanSubmit.sys = true ∨ kScope c.k ≠ 0)) ∧
    (let c : Ctx := { path := .mesh, code := 0x0302, k := pk 0x0302 [] .mesh 1 (2 * 0x400), par := [] }
     c.path = .mesh ∧ parted.mesh.partitioned = true ∧ kExecAt c.k = true ∧ 2 ≤ kScope c.k) ∧
    (let c : Ctx := { path := .urg, code := 0x0001, k := pk 0x0001 [], par := [] }
     authority opEcho c live = none ∧ relays c live = false ∧ kExecAt c.k = false ∧ opEcho.fault c live = false ∧ opEcho.code ≠ 0x0405) := by
  and_intros <;> decide +kernel

theorem test_w_PacketBytesAreReadBack :
    (let k := pk 0x0001 [1, 2, 3, 4] .nrm 5 6 [7]
     k.path = .nrm ∧ k.dma = [7] ∧ k.params.length = k.plen.toNat) := by
  and_intros <;> decide +kernel

theorem test_w_EveryStepKeepsTheMachine :
    Canonical State.reset ∧
    Canonical live := by
  and_intros <;> (unfold Canonical; decide +kernel)


/-! ### Ill-formed commands: each check of WellFormed.lean refuses one -/

theorem test_ill_packet : (Instr.echo { plen := 4 }).ok = false ∧ (Instr.echo (pk 1 [1, 2, 3, 4])).ok = true := by decide +kernel

theorem test_ill_doorbell : (Instr.commandDoorbell .urg 1 [0] []).ok = false ∧ (Instr.commandDoorbell .urg 1 (zeros 64) []).ok = true := by
  decide +kernel

theorem test_ill_bar4 :
    (Instr.bar4Access false (BitVec.ofNat 32 (2 ^ 32 - 1)) 2 [] []).ok = false ∧ (Instr.bar4Access true 0 2 [1] [true]).ok = false ∧
    (Instr.bar4Access true 0 1 [1] []).ok = false ∧ (Instr.bar4Access true 0 1 [1] [true]).ok = true := by decide +kernel

theorem test_ill_block : (Instr.smbusKcpWrite (zeros 256) true).ok = false := by decide +kernel

theorem test_ill_frames :
    sourceOk 1024 = false ∧ frameOk 3 [1, 2, 3, 4] = false ∧ fjotranuOk [1] [] = false ∧ neighbourOk true (zeros 4) (zeros 6) (zeros 16) = false ∧
    neighbourOk false (zeros 4) (zeros 6) (zeros 4) = true := by decide +kernel

theorem test_ill_symbols : symbolsOk [(40, 1)] = false ∧ symbolsOk [(39, 1)] = true := by decide +kernel

theorem test_ill_counts :
    (Instr.serWindow 3 5 4).ok = false ∧ (Instr.sourceSilent 0).ok = false ∧ (Instr.sourceSilent 4).ok = false ∧
    (Instr.dqsOscillator 0 6 0).ok = false ∧ (Instr.rowRepair 0 (2 ^ 20) []).ok = false ∧ (Instr.marginHourly [] []).ok = false ∧
    (Instr.masterResetBurst 1 0 0 3 2).ok = false := by decide +kernel

/-! ### Worked examples of spec/ -/

/-- The example under R6. -/
theorem test_rwc_pair_then_mismatch :
    let s := writeReg .bar0 (jumpOffset + 4) 0xFFFFE0BF (writeReg .bar0 jumpOffset 0x1F40 live)
    let t := writeReg .bar0 (jumpOffset + 4) 0xFFFFE0BF s
    s.time.jumpThr = 0x1F40 ∧ s.count .genRwcMismatch = live.count .genRwcMismatch ∧
      t.time.jumpThr = 0x1F40 ∧ t.count .genRwcMismatch = live.count .genRwcMismatch + 1 := by decide +kernel

/-- −1.25 ns is written as −2 ns with a fraction of 0xC000 (R194). -/
theorem test_time_negative : time10 (-(5 * 2 ^ 14)) = [0xFE, 0xFF, 0xFF, 0xFF, 0xFF, 0xFF, 0xFF, 0xFF, 0x00, 0xC0] := by decide +kernel

/-- Cell 3 of the Juniper deal (R64 to R66, worked example of 03). -/
theorem test_juniper_deal :
    let d : Deal := { S := 66048, A := 1280, U := 256, m := 1 }
    d.q 3 = 154 ∧ d.theta 3 = 52 ∧ d.q 4 = 206 ∧ d.theta 4 = 154 ∧ (d.bound 3 0, d.bound 4 0) = (154, 206) ∧
      (d.bound 3 1, d.bound 4 1) = (155, 206) ∧ (d.bound 3 255, d.bound 4 255) = (155, 207) := by decide +kernel

/-- Its steps, pieces and owned pieces. -/
theorem test_juniper_cell :
    let d : Deal := { S := 66048, A := 1280, U := 256, m := 1 }
    ((List.range 256).map fun u => d.bound 4 u - d.bound 3 u).sum = 13210 ∧ d.pieces 3 = [19, 20, 21, 22, 23, 24, 25] ∧
      (d.bound 3 255 ≤ 159 ∧ 159 < d.bound 4 255) ∧ d.bound 4 255 ≤ 207 := by decide +kernel

/-- Cell 116 of Hazel (03). -/
theorem test_hazel_cell :
    let d : Deal := { S := 16640, A := 1280, U := 512, m := 1 }
    (d.bound 116 0, d.bound 117 0) = (1508, 1521) ∧ (d.bound 116 511, d.bound 117 511) = (1508, 1521) := by decide +kernel

/-- Compute times: Hazel in wide mode (02), Juniper without stripe 3 (01). -/
theorem test_compute_times : tXOf true 65536 2080 1280 = 425984 ∧ tXOf false 65536 8256 1152 = 469696 := by decide +kernel

/-- 18 spares share 13,210 steps: none takes more than 734, and together they take all (12). -/
theorem test_recompute_shares :
    let w := (shareOut 0 13210 (List.range 18)).map fun x => x.2.2
    w.foldl max 0 = 734 ∧ w.sum = 13210 := by decide +kernel

/-- The beam weight worked in 05. -/
theorem test_beam_weight :
    let i := phasorIndex 79164837199872 (2 ^ 18)
    i = 512 ∧ phasorCos i = 23170 ∧ phasorSin i = 23170 ∧ polyWeight (12800, -3200) i = (44, 27) := by decide +kernel

/-- The three harvest entries worked in 04. -/
theorem test_harvest_scaling :
    scaleValue 16 6 1179680 = (18433, false) ∧ scaleValue 16 2 (-1186) = (-296, false) ∧ scaleValue 16 2 140001 = (32767, true) := by
  decide +kernel

/-- The TDC_IN edge worked in 08: a position, its fraction, and the next sample with its time. -/
theorem test_tdc_position :
    let s : State := { live with time := { live.time with epochSet := true, pNum := 33025, pDen := 8 } }
    let t : Int := 60000000000 * 2 ^ 16 + 2 ^ 15
    (s.trigAt t 0 0).sTrig = 14534443 ∧ (s.trigAt t 0 0).fraction = 2591806305 ∧ s.sampleAtOrAfter t = 14534444 ∧
      s.sampleTime 14534444 = 60000001637 * 2 ^ 16 + 2 ^ 15 := by decide +kernel

/-- The check value of CRC-32C over "123456789". -/
theorem test_crc32c_check : crc32c [0x31, 0x32, 0x33, 0x34, 0x35, 0x36, 0x37, 0x38, 0x39] = 0xE3069283 := by decide +kernel

/-- No row of the table has bits. -/
theorem test_no_word_spells_a_command : decodeTableWord 32 5 = none ∧ live.withFetchWord 32 5 = live := ⟨rfl, rfl⟩

/-- The ball counts of R396: 2,771 signal balls, the rails, and ground; lane 37's balls of R397. -/
theorem test_ball_counts :
    let signal : Ball → Bool := fun | .lane .. | .pcie .. | .dram .. | .pin _ => true | _ => false
    ballCount signal = 2771 ∧ ballCount (· = .rail .vinIvr) = 480 ∧ ballCount (· = .rail .vddqMem) = 128 ∧
      ballCount (· = .rail .vddaLane) = 256 ∧ ballCount (· = .gnd) = 2133 ∧ ballAt 28 76 = .lane 37 true true ∧
      ballAt 29 75 = .lane 37 false false := by decide +kernel

/-- The clocks of R17 in kHz, the totals of R381, the Loam of R28. -/
theorem test_fact_tables :
    [Clock.xclk, .dclk, .fclk, .tclk, .pclk].map Clock.kHz = [1600000, 4000000, 1000000, 500000, 250000] ∧
      (List.range 4).map powerAt = [80, 173, 238, 250] ∧ loamMiB.sum = 1024 ∧ idcode 0 = 0xBD4A0001 := by decide +kernel

end Sys2Proof.Tests
end

section
/-! PROOFS. The complement-pair register (R6): what a read and a write of its two words do, and the obligation on its pairs of writes. -/

namespace Sys2Proof.Proofs.RwcPairs
open Sys2Proof Sys2Proof.Machine Sys2Proof.Laws

/-! ### The pending holders -/

@[simp] theorem holder_setHolder_same (path : BusPath) (h : Option (BitVec 16 × W32)) (s : State) :
    (s.setHolder path h).holder path = h := by
  cases path <;> rfl

theorem holder_setHolder_of_ne {path other : BusPath} (hne : other ≠ path) (h : Option (BitVec 16 × W32)) (s : State) :
    (s.setHolder path h).holder other = s.holder other := by
  cases path <;> cases other
  case bar0.smbus | smbus.bar0 => rfl
  case bar0.bar0 | smbus.smbus => exact absurd rfl hne

/-! ### Writes -/

/-- R359, R360: the always-on domain takes a whole word while the groundskeeper serves. -/
theorem busWrite_of_aoOffset {o : Nat} {s : State} (ho : aoOffset o = true) (hs : s.gkServes = true) (path : BusPath) (v : W32) :
    busWrite path o v true s = writeReg path o v s := by
  simp [busWrite, ho, hs]

theorem exec_rwcValueWrite (path : BusPath) (o : BitVec 16) (v : W32) (s : State) :
    exec (.rwcValueWrite path o v) s = .next (if o.toNat % 4 ≠ 0 then s else busWrite path o.toNat v true s) := rfl

theorem exec_rwcComplementWrite (path : BusPath) (o : BitVec 16) (v : W32) (s : State) :
    exec (.rwcComplementWrite path o v) s = .next (if o.toNat % 4 ≠ 0 then s else busWrite path o.toNat v true s) := rfl

/-- R6: a write to +0 of the RWC register fills the path's holder. -/
theorem exec_valueWrite_jump {s : State} (hs : s.gkServes = true) (path : BusPath) (v : W32) :
    exec (.rwcValueWrite path 0x1428 v) s = .next (s.setHolder path (some (0x1428, v))) := by
  have hbus := busWrite_of_aoOffset (o := 0x1428) (by decide) hs path v
  have hreg : writeReg path 0x1428 v s = s.setHolder path (some (0x1428, v)) := rfl
  simp [exec_rwcValueWrite, hbus, hreg]

/-- R6: a write to +4 of the RWC register compares the word with the path's holder. -/
theorem exec_complementWrite_jump {s : State} (hs : s.gkServes = true) (path : BusPath) (w : W32) :
    exec (.rwcComplementWrite path 0x142C w) s = .next (writeComplement path jumpOffset w s) := by
  have hbus := busWrite_of_aoOffset (o := 0x142C) (by decide) hs path w
  have hreg : writeReg path 0x142C w s = writeComplement path jumpOffset w s := rfl
  simp [exec_rwcComplementWrite, hbus, hreg]

theorem writeComplement_of_match {path : BusPath} {v : W32} {s : State} (h : s.holder path = some (0x1428, v)) :
    writeComplement path jumpOffset (~~~ v) s =
      { (s.setHolder path none) with time := { s.time with jumpThr := v } } := by
  simp [writeComplement, h, setRwc, jumpOffset]

theorem writeComplement_of_mismatch {path : BusPath} {v w : W32} {s : State} (h : s.holder path = some (0x1428, v))
    (hw : w ≠ ~~~ v) : writeComplement path jumpOffset w s = (s.setHolder path none).bump .genRwcMismatch := by
  simp [writeComplement, h, hw]

theorem writeComplement_of_empty {path : BusPath} {s : State} (h : s.holder path = none) (o : Nat) (w : W32) :
    writeComplement path o w s = (s.setHolder path none).bump .genRwcMismatch := by
  simp [writeComplement, h]

/-! ### Reads -/

theorem readReg_of_plainRegs {path : BusPath} {o : Nat} {f : State → W32}
    (h : (plainRegs path).find? (·.1 = o) = some (o, f)) (s : State) : readReg path o s = some (f s) := by
  simp [readReg, h]

/-- R6: a read of +0 returns the effective value. -/
theorem readReg_jump (path : BusPath) (s : State) : readReg path 0x1428 s = some s.time.jumpThr :=
  readReg_of_plainRegs (f := fun s => s.time.jumpThr) (by simp [plainRegs]) s

/-- R6: a read of +4 returns the complement of the effective value. -/
theorem readReg_jumpComplement (path : BusPath) (s : State) : readReg path 0x142C s = some (~~~ s.time.jumpThr) :=
  readReg_of_plainRegs (f := fun s => ~~~ s.time.jumpThr) (by simp [plainRegs]) s

/-! ### The obligation -/

/-- Settles O28: each write of a word of the pair goes to the always-on register, where the three cases of the complement are those of
the path's holder. -/
theorem rwcPairsTakeEffectTogether : Obligations.RwcPairsTakeEffectTogether := by
  unfold Obligations.RwcPairsTakeEffectTogether
  refine ⟨?value, ?matching, ?mismatch, ?empty, ?reads, ?paths⟩
  case value =>
    intro path v s hs
    exact exec_valueWrite_jump hs path v
  case matching =>
    intro path v s hs hh
    rw [exec_complementWrite_jump hs, writeComplement_of_match hh]
  case mismatch =>
    intro path v w s hs hh hw
    rw [exec_complementWrite_jump hs, writeComplement_of_mismatch hh hw]
  case empty =>
    intro path w s hs hh
    rw [exec_complementWrite_jump hs, writeComplement_of_empty hh]
  case reads =>
    intro path s
    exact ⟨readReg_jump path s, readReg_jumpComplement path s⟩
  case paths =>
    intro path h s
    exact ⟨holder_setHolder_same path h s, setHolder_time s path h, fun _ hne => holder_setHolder_of_ne hne h s⟩

end Sys2Proof.Proofs.RwcPairs
end

section
/-! PROOFS. The limit on the fades that overlap a sample (R122): `fadeLoad` bounds them on the samples of a new fade, what a judged swap
can do, and the obligation that follows. -/

namespace Sys2Proof.Proofs.FadeSlots
open Sys2Proof Sys2Proof.Machine Sys2Proof.Laws

/-! ### The fades that cover a sample -/

/-- A swap's fade covers a sample (R121). -/
def covers (f : Swap) (x : Nat) : Bool := decide (0 < f.k ∧ f.s0 ≤ x ∧ x < f.s0 + f.k)

theorem covers_iff {f : Swap} {x : Nat} : covers f x = true ↔ 0 < f.k ∧ f.s0 ≤ x ∧ x < f.s0 + f.k := decide_eq_true_iff

theorem fadesAt_eq_countP (s : State) (x : Nat) : Claims.fadesAt s x = s.beams.swaps.countP (covers · x) :=
  List.countP_eq_length_filter.symm

theorem fadesAt_append {s s' : State} {f : Swap} (h : s'.beams.swaps = s.beams.swaps ++ [f]) (x : Nat) :
    Claims.fadesAt s' x = Claims.fadesAt s x + if covers f x then 1 else 0 := by
  simp [fadesAt_eq_countP, h, List.countP_append, List.countP_singleton]

/-- Between two starts of fades their number at a sample does not grow. -/
theorem fadesAt_succ_le {s : State} {x : Nat} (h : ∀ f ∈ s.beams.swaps, 0 < f.k → f.s0 ≠ x + 1) :
    Claims.fadesAt s (x + 1) ≤ Claims.fadesAt s x := by
  simp only [fadesAt_eq_countP]
  refine List.countP_mono_left fun f hf hc => ?_
  obtain ⟨hk, hlo, hhi⟩ := covers_iff.1 hc
  have hne := h f hf hk
  exact covers_iff.2 ⟨hk, by omega, by omega⟩

/-! ### The load of a new fade -/

/-- The swaps whose fades meet the samples `s0` to `s0 + k - 1`. -/
def meeting (s : State) (s0 k : Nat) : List Swap :=
  s.beams.swaps.filter fun f => decide (0 < f.k ∧ f.s0 < s0 + k ∧ s0 < f.s0 + f.k)

/-- The samples at which `fadeLoad` counts: `s0` and the starts of fades after it. -/
def loadPoints (s : State) (s0 k : Nat) : List Nat := s0 :: ((meeting s s0 k).map (·.s0)).filter (s0 ≤ ·)

theorem fadeLoad_eq (s : State) (s0 k : Nat) :
    s.fadeLoad s0 k = (loadPoints s s0 k).foldl
      (fun m t => max m ((meeting s s0 k).filter fun f => decide (f.s0 ≤ t ∧ t < f.s0 + f.k)).length) 0 := rfl

theorem mem_loadPoints_of_start {s : State} {s0 k : Nat} {f : Swap} (hf : f ∈ s.beams.swaps) (hk : 0 < f.k) (hlo : s0 ≤ f.s0)
    (hhi : f.s0 < s0 + k) : f.s0 ∈ loadPoints s s0 k := by
  have hmeet : f ∈ meeting s s0 k := List.mem_filter.2 ⟨hf, decide_eq_true ⟨hk, hhi, by omega⟩⟩
  exact List.mem_cons_of_mem _ (List.mem_filter.2 ⟨List.mem_map_of_mem hmeet, decide_eq_true hlo⟩)

/-- A fade that covers a sample of the range meets the range, so the count among `meeting` is the count of all. -/
theorem length_meeting_filter {s : State} {s0 k t : Nat} (hlo : s0 ≤ t) (hhi : t < s0 + k) :
    ((meeting s s0 k).filter fun f => decide (f.s0 ≤ t ∧ t < f.s0 + f.k)).length = Claims.fadesAt s t := by
  rw [meeting, List.filter_filter, Claims.fadesAt]
  refine congrArg List.length (List.filter_congr fun f _ => ?_)
  rw [← Bool.decide_and]
  exact decide_eq_decide.2 (by omega)

theorem le_foldl_max {α : Type} (g : α → Nat) {l : List α} {a : α} (h : a ∈ l) (m : Nat) :
    g a ≤ l.foldl (fun m t => max m (g t)) m := by
  rw [← List.foldl_map (f := g) (g := max), List.foldl_max_eq_max (List.ne_nil_of_mem (List.mem_map_of_mem h))]
  exact Nat.le_trans (List.le_max_of_mem (List.mem_map_of_mem h)) (Nat.le_max_right ..)

theorem fadesAt_le_fadeLoad_of_mem {s : State} {s0 k t : Nat} (ht : t ∈ loadPoints s s0 k) (hlo : s0 ≤ t) (hhi : t < s0 + k) :
    Claims.fadesAt s t ≤ s.fadeLoad s0 k := by
  rw [fadeLoad_eq, ← length_meeting_filter hlo hhi]
  exact le_foldl_max (fun t => ((meeting s s0 k).filter fun f => decide (f.s0 ≤ t ∧ t < f.s0 + f.k)).length) ht 0

/-- R122: the load bounds the fades at every sample of the range, by induction on the sample: the count is taken at `s0` and where
it grows. -/
theorem fadesAt_le_fadeLoad {s : State} {s0 k x : Nat} (hlo : s0 ≤ x) (hhi : x < s0 + k) :
    Claims.fadesAt s x ≤ s.fadeLoad s0 k := by
  induction hlo with
  | refl => exact fadesAt_le_fadeLoad_of_mem List.mem_cons_self (Nat.le_refl s0) hhi
  | @step x hx ih =>
    have hle : s0 ≤ x := hx
    by_cases hstart : ∃ f ∈ s.beams.swaps, 0 < f.k ∧ f.s0 = x + 1
    · obtain ⟨f, hf, hk, heq⟩ := hstart
      have hmem : x + 1 ∈ loadPoints s s0 k := heq ▸ mem_loadPoints_of_start hf hk (by omega) (by omega)
      exact fadesAt_le_fadeLoad_of_mem hmem (by omega) hhi
    · have hnone : ∀ f ∈ s.beams.swaps, 0 < f.k → f.s0 ≠ x + 1 := fun f hf hk heq => hstart ⟨f, hf, hk, heq⟩
      exact Nat.le_trans (fadesAt_succ_le hnone) (ih (by omega))

/-! ### What a judged swap does -/

/-- A swap that no row of R123 refuses: BUSY where its fade finds no slot (R122), otherwise in the list, deferred or as asked. -/
def enterSwap (p : Plan) (f : Swap) (s : State) : State × Answer :=
  if f.k > 0 && s.fadeLoad f.s0 f.k ≥ p.req.fadeSlots then (s, ansBusy (s.fadeLoad f.s0 f.k))
  else
    let s := { s with beams := { s.beams with swaps := s.beams.swaps ++ [f] } }
    if f.deferred then (s.bump .bfDeferred, swapReply .deferred f.s0 f.k) else (s, swapReply .ok f.s0 f.k)

/-- The swap that a BEAM_SWAP asks for at S0. -/
def asked (c : Ctx) (s0 : Nat) : Swap :=
  { beam := fieldAt 0 2 c.par, s0 := s0, k := fieldAt 4 4 c.par, bank := (Claims.target c.par).1, epoch := (Claims.target c.par).2,
    cue := if kExecAt c.k then some c.cueId else none }

/-- The rows of R123 in their order: each leaves the state or enters the swap asked for, at S0 or deferred. -/
theorem judgeSwap_eq (p : Plan) (c : Ctx) (s0 : Nat) (s : State) : judgeSwap p c s0 s =
    let xs := s.swapsOf (fieldAt 0 2 c.par)
    if fieldAt 0 2 c.par ≥ 256 then (s, ansField 32)
    else if fieldAt 4 4 c.par > 65536 then (s, ansField 36)
    else if Claims.target c.par = s.endSet (fieldAt 0 2 c.par) then (s, swapReply .ok s0 (fieldAt 4 4 c.par))
    else if xs.any fun x => x.deferred && decide (s.nextSweep ≤ x.s0 / p.req.T) then (s, ansBusy 1)
    else match xs.getLast? with
      | none => enterSwap p (asked c s0) s
      | some cur =>
        if cur.stop ≤ s0 then enterSwap p (asked c s0) s
        else if s.nextSweep ≤ cur.stop / p.req.T then enterSwap p { asked c cur.stop with deferred := true } s
        else if kLateOk c.k then enterSwap p { asked c (max cur.stop (s.nextSweep * p.req.T)) with deferred := true } s
        else (s, ansRefuse .late) := rfl

theorem judgeSwap_cases (p : Plan) (c : Ctx) (s0 : Nat) (s : State) :
    (∃ a, judgeSwap p c s0 s = (s, a)) ∨ ∃ f, judgeSwap p c s0 s = enterSwap p f s := by
  rw [judgeSwap_eq]
  dsimp only
  iterate 4
    split
    · exact .inl ⟨_, rfl⟩
  split
  · exact .inr ⟨_, rfl⟩
  · iterate 3
      split
      · exact .inr ⟨_, rfl⟩
    exact .inl ⟨_, rfl⟩

/-- R120, R123: a beam without swaps takes one to another set as it was asked for. -/
theorem judgeSwap_of_idle {p : Plan} {c : Ctx} {s0 : Nat} {s : State} (hb : fieldAt 0 2 c.par < 256) (hk : fieldAt 4 4 c.par ≤ 65536)
    (hidle : s.swapsOf (fieldAt 0 2 c.par) = []) (hset : Claims.target c.par ≠ s.endSet (fieldAt 0 2 c.par)) :
    judgeSwap p c s0 s = enterSwap p (asked c s0) s := by
  simp [judgeSwap_eq, hidle, hset, Nat.not_le.2 hb, Nat.not_lt.2 hk]

theorem enterSwap_of_full {p : Plan} {f : Swap} {s : State} (hk : 0 < f.k) (hfull : p.req.fadeSlots ≤ s.fadeLoad f.s0 f.k) :
    enterSwap p f s = (s, ansBusy (s.fadeLoad f.s0 f.k)) := by
  simp [enterSwap, hk, hfull]

theorem enterSwap_swaps {p : Plan} {f : Swap} {s : State} (hfits : 0 < f.k → s.fadeLoad f.s0 f.k < p.req.fadeSlots) :
    (enterSwap p f s).1.beams.swaps = s.beams.swaps ++ [f] := by
  have hroom : ¬ (decide (f.k > 0) && decide (s.fadeLoad f.s0 f.k ≥ p.req.fadeSlots)) = true := by
    simpa using hfits
  rw [enterSwap, if_neg hroom]
  cases hd : f.deferred <;> simp

/-- R122: a swap that is entered keeps the limit. Outside its own fade nothing is added; inside it `fadeLoad` left a slot. -/
theorem fadesAt_enterSwap_le {p : Plan} {s : State} (h : ∀ x, Claims.fadesAt s x ≤ p.req.fadeSlots) (f : Swap) (x : Nat) :
    Claims.fadesAt (enterSwap p f s).1 x ≤ p.req.fadeSlots := by
  by_cases hfull : 0 < f.k ∧ p.req.fadeSlots ≤ s.fadeLoad f.s0 f.k
  · obtain ⟨hk, hload⟩ := hfull
    rw [enterSwap_of_full hk hload]
    exact h x
  · have hfits : 0 < f.k → s.fadeLoad f.s0 f.k < p.req.fadeSlots := by
      intro hk
      exact Nat.lt_of_not_le fun hload => hfull ⟨hk, hload⟩
    rw [fadesAt_append (enterSwap_swaps hfits)]
    cases hc : covers f x with
    | false => exact h x
    | true =>
      obtain ⟨hk, hlo, hhi⟩ := covers_iff.1 hc
      exact Nat.lt_of_le_of_lt (fadesAt_le_fadeLoad hlo hhi) (hfits hk)

/-! ### The obligation -/

/-- Settles O12: a judged swap leaves the state or enters one swap, and `fadeLoad` bounds the fades on the samples of the new one. -/
theorem fadesStayWithinFadeSlots : Obligations.FadesStayWithinFadeSlots := by
  unfold Obligations.FadesStayWithinFadeSlots
  intro p c s0 s hlimit
  refine ⟨fun x => ?keeps, fun hb _ hk hpos hidle hset hover => ?refuses⟩
  case keeps =>
    obtain ⟨a, heq⟩ | ⟨f, heq⟩ := judgeSwap_cases p c s0 s
    · rw [heq]
      exact hlimit x
    · rw [heq]
      exact fadesAt_enterSwap_le hlimit f x
  case refuses =>
    obtain ⟨x, hlo, hhi, hmost⟩ := hover
    have hload : p.req.fadeSlots ≤ s.fadeLoad s0 (fieldAt 4 4 c.par) :=
      Nat.le_trans (Nat.le_of_lt_succ hmost) (fadesAt_le_fadeLoad hlo hhi)
    rw [judgeSwap_of_idle hb hk hidle hset]
    exact enterSwap_of_full (f := asked c s0) hpos hload

end Sys2Proof.Proofs.FadeSlots
end

section
/-! PROOFS. The exactly-once record (R231 to R233): the table of a number, the entering of a number and the storing of its reply, the
operations that keep every series, and the obligation on packets whose number has executed. -/

namespace Sys2Proof.Proofs.ExactlyOnce
open Sys2Proof Sys2Proof.Machine Sys2Proof.Laws

/-! ### The table of R231 -/

theorem seqCase_of_unstarted {x : Series} (h : x.started = false) (seq : W32) : seqCase x seq = .first := by
  simp [seqCase, h]

theorem seqCase_of_ahead {x : Series} {seq : W32} (h : x.started = true) (hlo : 1 ≤ (seq - x.h).toNat)
    (hhi : (seq - x.h).toNat ≤ 2 ^ 31 - 1) : seqCase x seq = .ahead ((seq - x.h).toNat - 1) := by
  simp only [seqCase, h, hlo, hhi, and_self, if_true, Bool.not_true, Bool.false_eq_true, if_false]

/-- The distances between two numbers, taken either way, add up to 2^32 or are both 0: a number behind H by at most 2^31 is not ahead. -/
theorem not_ahead_of_behind {h seq : W32} (hb : (h - seq).toNat ≤ 2 ^ 31) :
    ¬ (1 ≤ (seq - h).toNat ∧ (seq - h).toNat ≤ 2 ^ 31 - 1) := by
  bv_omega

theorem seqCase_of_stale {x : Series} {seq : W32} (h : x.started = true) (hold : 1023 < (x.h - seq).toNat)
    (hb : (x.h - seq).toNat ≤ 2 ^ 31) : seqCase x seq = .stale := by
  simp only [seqCase, h, not_ahead_of_behind hb, Nat.not_le.2 hold, Bool.not_true, Bool.false_eq_true, if_false]

section Window
variable {x : Series} {seq : W32} (h : x.started = true) (hw : (x.h - seq).toNat ≤ 1023)
include h hw

theorem seqCase_of_within (hnew : x.done.find? (·.1 = seq) = none) : seqCase x seq = .within := by
  have hb := not_ahead_of_behind (Nat.le_trans hw (by decide))
  simp only [seqCase, h, hb, hw, hnew, Bool.not_true, Bool.false_eq_true, if_false, if_true]

theorem seqCase_of_executed {rep : Option Reply} (hdone : x.done.find? (·.1 = seq) = some (seq, rep)) :
    seqCase x seq = .executed rep := by
  have hb := not_ahead_of_behind (Nat.le_trans hw (by decide))
  simp only [seqCase, h, hb, hw, hdone, Bool.not_true, Bool.false_eq_true, if_false, if_true]

end Window

/-! ### Entering a number and storing its reply -/

theorem enter_h_of_first {x : Series} {seq : W32} (h : seqCase x seq = .first) : (x.enter seq).h = seq := by
  simp [Series.enter, h]

theorem enter_h_of_ahead {x : Series} {seq : W32} {gap : Nat} (h : seqCase x seq = .ahead gap) : (x.enter seq).h = seq := by
  simp [Series.enter, h]

theorem enter_h_of_within {x : Series} {seq : W32} (h : seqCase x seq = .within) : (x.enter seq).h = x.h := by
  simp [Series.enter, h]

theorem enter_started (x : Series) (seq : W32) : (x.enter seq).started = true := rfl

theorem mem_enter_done (x : Series) (seq : W32) : (seq, none) ∈ (x.enter seq).done := List.mem_cons_self

/-- R232: the open reply of an entered number becomes the reply stored. -/
theorem mem_store_done {x : Series} {seq : W32} (h : (seq, none) ∈ x.done) (rep : Reply) :
    (seq, some rep) ∈ (x.store seq rep).done :=
  List.mem_map.2 ⟨(seq, none), h, if_pos rfl⟩

/-! ### What keeps every series -/

theorem series_of_kcp {s t : State} (h : t.kcp = s.kcp) (p : Path) : t.series p = s.series p := by
  simp only [State.series, h]

@[simp] theorem setSeries_series (s : State) (p : Path) (x : Series) : (s.setSeries p x).series p = x := by
  cases p <;> rfl

@[simp] theorem setRing_series (s : State) (r : RingId) (x : Ring) (p : Path) : (s.setRing r x).series p = s.series p := by
  cases r <;> rfl

@[simp] theorem countTaken_series (s : State) (p : Path) : (countTaken s).series p = s.series p := rfl

@[simp] theorem placeRecord_kcp (r : AlmRec) (s : State) : (placeRecord r s).kcp = s.kcp := by
  unfold placeRecord mirrorCopy
  dsimp only
  split <;> rfl

@[simp] theorem padRing_kcp (s : State) : (padRing s).kcp = s.kcp := by
  unfold padRing
  dsimp only
  split
  · rfl
  · exact placeRecord_kcp _ s

@[simp] theorem acceptRecord_kcp (r : AlmRec) (s : State) : (acceptRecord r s).kcp = s.kcp := by
  unfold acceptRecord
  split <;> simp

@[simp] theorem record_kcp (type src : Nat) (body : List Byte) (s : State) (flags : Nat) :
    (record type src body s flags).kcp = s.kcp := by
  unfold record
  dsimp only
  rw [apply_ite State.kcp, acceptRecord_kcp]
  exact ite_self _

@[simp] theorem journalCommit_series (p : Path) (k : KcpIn) (rep : Reply) (s : State) (q : Path) :
    (journalCommit p k rep s).series q = s.series q :=
  series_of_kcp (record_kcp _ _ _ s _) q

@[simp] theorem sendVector_series (v : Nat) (s : State) (p : Path) : (sendVector v s).series p = s.series p := by
  unfold sendVector
  (repeat' split) <;> rfl

@[simp] theorem hostWrite_series (a : Nat) (bs : List Byte) (s : State) (p : Path) : (hostWrite a bs s).series p = s.series p := by
  unfold hostWrite
  split <;> rfl

@[simp] theorem gkWrite_series (off : Nat) (bs : List Byte) (s : State) (p : Path) : (gkWrite off bs s).series p = s.series p := rfl

@[simp] theorem writeback_series (r : RingId) (s : State) (p : Path) : (writeback r s).series p = s.series p := by
  cases r <;> simp [writeback]

theorem ringWrite_series {put : Nat → List Byte → State → State} {p : Path} (hp : ∀ a bs s, (put a bs s).series p = s.series p)
    (base size pos : Nat) (bs : List Byte) (s : State) : (ringWrite put base size pos bs s).series p = s.series p := by
  unfold ringWrite
  dsimp only
  split <;> simp [hp]

/-- R225: a reply on a ring leaves every series as it was. -/
@[simp] theorem ringReply_series (r : RingId) (rep : Reply) (s : State) (p : Path) : (ringReply r rep s).series p = s.series p := by
  by_cases hen : (s.ring r).enable = true
  · have hgk := ringWrite_series (gkWrite_series · · · p)
    have hhost := ringWrite_series (hostWrite_series · · · p)
    cases r <;> simp [ringReply, hen, ringVector, hgk, hhost]
  · simp [ringReply, hen]

theorem sendReply_series {p : Path} (hp : p ≠ .mesh) (origin : Nat) (rep : Reply) (s : State) (q : Path) :
    (sendReply p origin rep s).series q = s.series q := by
  cases p
  case mesh => exact absurd rfl hp
  case smbus => rfl
  all_goals exact ringReply_series _ rep s q

/-! ### A commit -/

/-- The state in which the reply of a packet has been journaled and stored in the series of its path (R232). -/
def replyStored (c : Ctx) (rep : Reply) (s : State) : State :=
  (journalCommit c.path c.k rep s).setSeries c.path (((journalCommit c.path c.k rep s).series c.path).store c.k.seq rep)

theorem replyStored_series (c : Ctx) (rep : Reply) (s : State) :
    (replyStored c rep s).series c.path = (s.series c.path).store c.k.seq rep := by
  simp [replyStored]

section Commit
variable {c : Ctx} {a : Answer} (hp : c.path ≠ .mesh) (hown : c.own = false)
include hp hown

/-- R219: NO_REPLY suppresses the reply of a quiet status, and it is stored all the same. -/
theorem commitReply_of_suppressed (hnr : kNoReply c.k = true) (hq : quietStatus a.status = true) (f : Nat) (s : State) :
    commitReply c a f s = replyStored c (mkReply c.path c.code c.k a f s) s := by
  simp [commitReply, replyStored, hp, hown, hnr, hq]

theorem commitReply_of_sent (h : ¬ (kNoReply c.k = true ∧ quietStatus a.status = true)) (f : Nat) (s : State) :
    commitReply c a f s =
      sendReply c.path (kOrigin c.k) (mkReply c.path c.code c.k a f s) (replyStored c (mkReply c.path c.code c.k a f s) s) := by
  simp [commitReply, replyStored, hp, hown, h]

/-- R232, R233: sent or suppressed, the reply stands in the series of its path. -/
theorem commitReply_series (f : Nat) (s : State) :
    (commitReply c a f s).series c.path = (s.series c.path).store c.k.seq (mkReply c.path c.code c.k a f s) := by
  by_cases h : kNoReply c.k = true ∧ quietStatus a.status = true
  · obtain ⟨hnr, hq⟩ := h
    rw [commitReply_of_suppressed hp hown hnr hq, replyStored_series]
  · rw [commitReply_of_sent hp hown h, sendReply_series hp, replyStored_series]

end Commit

/-! ### Step 8 of R230 on a packet that is not to execute -/

section Take
variable {op : OpDef} {k : KcpIn} {s : State} (he : earlyCheck op.code (some op) k = none) (hj : kJournalOnly k = false)
  (hx : op.xo = false)
include he hj hx

theorem kcpTake_of_executed {rep : Reply} (hs : seqCase (s.series k.path) k.seq = .executed (some rep)) :
    kcpTake op.code (some op) k s =
      sendReply k.path (kOrigin k) { rep with rflags := rep.rflags ||| 1 } ((countTaken s).bump .kcpDuplicate) := by
  simp [kcpTake, he, hj, hx, hs]

theorem kcpTake_of_stale (hs : seqCase (s.series k.path) k.seq = .stale) :
    kcpTake op.code (some op) k s =
      sendReply k.path (kOrigin k) (mkReply k.path op.code k { status := .badParam, detail := 3 } 0 (countTaken s))
        ((countTaken s).bump .kcpSeqStale) := by
  simp [kcpTake, he, hj, hx, hs]

end Take

/-- A reply's device and time are not counters. -/
theorem mkReply_bump (p : Path) (code : BitVec 16) (k : KcpIn) (a : Answer) (flags : Nat) (s : State) (n : Ctr) :
    mkReply p code k a flags (s.bump n) = mkReply p code k a flags s := rfl

/-! ### The obligation -/

/-- Settles O57: step 8 answers an executed or stale number without entering it, a commit stores its reply in the series of its path, and
the distance of a number from H decides its case. -/
theorem duplicatesAreAnsweredFromTheRecord : Obligations.DuplicatesAreAnsweredFromTheRecord := by
  unfold Obligations.DuplicatesAreAnsweredFromTheRecord
  refine ⟨?duplicate, ?stored, ?suppressed, ?first, ?ahead, ?within, ?executed, ?behind, ?entered, ?stale⟩
  case duplicate =>
    intro op k s rep he hj hx hs
    exact kcpTake_of_executed he hj hx hs
  case stored =>
    rintro k c a f s rfl hpath hown hmesh hopen
    rw [← hpath] at hmesh hopen ⊢
    rw [commitReply_series hmesh hown]
    exact mem_store_done hopen _
  case suppressed =>
    intro c a f s hnr hq hmesh hown
    exact commitReply_of_suppressed hmesh hown hnr hq f s
  case first =>
    intro x seq hst
    have hcase := seqCase_of_unstarted hst seq
    exact ⟨hcase, enter_h_of_first hcase⟩
  case ahead =>
    intro x seq hst hlo hhi
    have hcase := seqCase_of_ahead hst hlo hhi
    exact ⟨hcase, enter_h_of_ahead hcase⟩
  case within =>
    intro x seq hst hw hnew
    have hcase := seqCase_of_within hst hw hnew
    exact ⟨hcase, enter_h_of_within hcase⟩
  case executed =>
    intro x seq rep hst hw hdone
    exact seqCase_of_executed hst hw hdone
  case behind =>
    intro x seq hst hold hb
    exact seqCase_of_stale hst hold hb
  case entered =>
    intro x seq
    exact ⟨enter_started x seq, mem_enter_done x seq⟩
  case stale =>
    intro op k s he hj hx hs
    refine ⟨{ status := .badParam, detail := 3 }, (countTaken s).bump .kcpSeqStale, rfl, rfl, ?_⟩
    rw [kcpTake_of_stale he hj hx hs, mkReply_bump]

end Sys2Proof.Proofs.ExactlyOnce
end
